-- ==== Sys2Proof/Word.lean ====
section
/-! DEFINITION. The words of the machine: a register is 32 bits (R9), a byte 8 (R6). -/

namespace Sys2Proof

/-- A register word (R9). -/
abbrev Word := BitVec 32

/-- A byte (R6). -/
abbrev Byte := BitVec 8

end Sys2Proof
end

