-- ==== Sys2Proof/Syntax.lean ====
section
/-! DEFINITION. The commands of the module: one constructor for each row of the table of operations and events, with the
operands that a step of that kind brings from outside (a register value, a frame, a reading). Times within a tick are
given as fabric cycles after the tick start (R29). -/

namespace Sys2Proof

/-- A bus master number (R21). -/
abbrev Master := Fin 11

/-- A safety channel: Marten (A) or Badger (B). -/
inductive Chan where
  | a | b
  deriving DecidableEq, Repr

/-- A client of the dictionary (R328): an SDO or USDO client by port and node-ID, an RPDO, a service-port session, or a
local master. -/
inductive Client where
  | sdo (port : Fin 2) (node : Nat)
  | pdo (n : Fin 16)
  | session (i : Fin 4)
  | loc (m : Master)
  deriving DecidableEq, Repr

/-- The blocks that carry a LOCK register (R68, R206, R271). -/
inductive LockBlock where
  | posx | lring | xcmp
  deriving DecidableEq, Repr

/-- A new level on an input behind a filter (R43, R64, R295, R296): the instant in the tick at which the filter judges it, and for how many
cycles it has held by then, so that its raw transition lies `held` cycles back (R71). (DESIGN CHOICE, log 128) -/
structure EdgeAt where
  held : Nat := 0
  off  : Nat := 0
  deriving DecidableEq, Repr

/-- The readback of one safety output at an instant (R275): high node and low node in mV, switch currents in mA. -/
structure OutReading where
  hi : Nat := 0
  lo : Nat := 0
  ih : Nat := 0
  il : Nat := 0
  deriving DecidableEq, Repr

/-- What the analogue pads read at a sample point: the nodes of BRK[0], BRK[1], MC[0], MC[1]; the STO lines in mV and mA;
VSAFE and VIN in mV; the 36 output pads in mV and mA; the field supplies in mV; the reading, in mV, of the suspect pad
at 100 µs of the previous tick's probe (R275, R304, R306); the period that ends here, in counts of Badger's oscillator (R37); and, for a tick in which CENG stalls, the index
below which its slots had completed (R129). A list that is too short reads 0 beyond its end. (DESIGN CHOICE, log 20) -/
structure SampleIn where
  outs   : List OutReading := []
  sto    : List (Nat × Nat) := []
  vsafe  : Nat := 0
  vin    : Nat := 0
  pads   : List (Nat × Nat) := []
  vfield : List Nat := []
  probe  : Nat := 0
  period : Nat := 12500
  slotsDone : Nat := 0
  deriving DecidableEq, Repr

/-- One conversion of a load-cell bridge: ratio in nV/V and sensed excitation in mV (R433). -/
structure BridgeConv where
  ratio : Int := 0
  exc   : Nat := 0
  deriving DecidableEq, Repr

/-- What ANA converts at a slow tick: VIN, VSAFE and HOLD in mV, the lid temperature in 0.1 °C, the conversions of the two bridges that started in
the slow tick that ends, and the current codes of the two doors, three phases each (R144, R428, R433). (DESIGN CHOICE, log 20) -/
structure SlowIn where
  vin    : Nat := 0
  vsafe  : Nat := 0
  hold   : Nat := 0
  lid    : Int := 0
  lc     : List (List BridgeConv) := []
  zero   : List (List Nat) := []
  deriving DecidableEq, Repr

/-- An absolute-encoder frame as it came off the line (R53, R55): the data word, the second word of a double read, the
error and warning bits as sent (active low), the CRC bits as sent, the round trip to the start bit in fabric cycles (none
where no start bit was seen), and the fabric cycles from T(k) to the end of the frame. -/
structure AbsFrame where
  data  : Nat := 0
  data2 : Nat := 0
  nE    : Bool := true
  nW    : Bool := true
  crc   : Nat := 0
  rtd   : Option Nat := none
  endCyc : Nat := 0
  deriving DecidableEq, Repr

/-- The conversions of one door carrier period (R137, R138): the three phase-current codes, the three phase-voltage codes
and the DC-link code. -/
structure CarrierAdc where
  iu  : Nat := 0
  iv  : Nat := 0
  iw  : Nat := 0
  vu  : Nat := 0
  vv  : Nat := 0
  vw  : Nat := 0
  vdc : Nat := 0
  deriving DecidableEq, Repr

/-- An on-site reset edge as the two pads gave it (R287): the active periods of the pads and the gap between their inactive
edges as each channel sees them, and the time between the two channels' acceptances, all in fabric cycles. -/
structure ResetEdge where
  dur0  : Nat
  dur1  : Nat
  gap   : Nat
  chans : Nat
  deriving DecidableEq, Repr

/-- A filtered 24 V input: a general channel, a safety input of one channel, or a chain tap of one channel (R295, R296,
R300). -/
inductive InPin where
  | gen (c : Fin 52)
  | sin (ch : Chan) (i : Fin 16)
  | tap (ch : Chan) (t : Fin 6)
  deriving DecidableEq, Repr

/-- What one channel's comparators saw of the 16 safety inputs around a pulse window (R299), bit i for input i: ON at the
window start, OFF at some instant of the second half, ON 1 ms after the end. -/
structure PulseView where
  onStart : BitVec 16
  offHalf : BitVec 16
  onAfter : BitVec 16
  deriving DecidableEq, Repr

/-- The readings of a test-pulse window (R299): the output read LO in the second half, the output read LO outside it for
1 ms, and each channel's view. -/
structure PulseReading where
  lowHalf    : Bool
  lowOutside : Bool
  viewA      : PulseView
  viewB      : PulseView
  deriving DecidableEq, Repr

/-- The state of a field supply (R308). -/
inductive SupplyState where
  | ok | uv | loss
  deriving DecidableEq, Repr

/-- The commands: one constructor per row of the table of operations and events. -/
inductive Instr where
  /-- SAMPLE_POINT (R22). -/
  | samplePoint (inp : SampleIn)
  /-- PHASE_MISS (R35). -/
  | phaseMiss (p : Fin 9)
  /-- RING_CYCLE_START (R184). -/
  | ringCycleStart
  /-- SLOW_TICK (R29). -/
  | slowTick (inp : SlowIn)
  /-- ALARM (R39). -/
  | alarm (n : Fin 4)
  /-- READ_NOW_LO (R41). -/
  | readNowLo (m : Master) (off : Nat)
  /-- REGISTER_WRITE (R8). -/
  | registerWrite (m : Master) (addr : Nat) (val : Word)
  /-- WRONG_WIDTH_ACCESS (R9). -/
  | wrongWidthAccess (m : Master) (addr : Nat) (width : Nat)
  /-- ACCESS_OUTSIDE_MAP (R17). -/
  | accessOutsideMap (m : Master) (addr : Nat)
  /-- ACCESS_OUTSIDE_RIGHTS (R18). -/
  | accessOutsideRights (m : Master) (addr : Nat)
  /-- NAND_LOW_POWER (R15). -/
  | nandLowPower
  /-- LOCK_SET (R68). -/
  | lockSet (m : Master) (blk : LockBlock)
  /-- CNT_EDGE (R44). -/
  | cntEdge (n : Fin 4) (a : Bool) (b : Bool) (ed : EdgeAt)
  /-- Z_EDGE (R48). -/
  | zEdge (n : Fin 4) (ed : EdgeAt)
  /-- LINE_FAULT (R47). -/
  | lineFault (src : Fin 6) (mask : Fin 8)
  /-- STILL_TIMEOUT (R50). -/
  | stillTimeout (n : Fin 4)
  /-- ABS_FRAME_RECEIVED (R53). -/
  | absFrameReceived (n : Fin 2) (fr : AbsFrame)
  /-- ABS_FRAME_TIMEOUT (R57). -/
  | absFrameTimeout (n : Fin 2)
  /-- ABSLOST_ENTERED (R61). -/
  | abslostEntered
  /-- ABSLOST_RECOVERY (R62). -/
  | abslostRecovery
  /-- INCLOST_ENTERED (R61). -/
  | inclostEntered
  /-- INCLOST_CLEARED (R61). -/
  | inclostCleared
  /-- FUSION_INVALID (R63). -/
  | fusionInvalid
  /-- HALL_SECTOR_CHANGE (R64). -/
  | hallSectorChange (h : Fin 2) (uvw : Fin 8) (ed : EdgeAt)
  /-- EMU_OUTPUT_EDGE (R66). -/
  | emuOutputEdge (off : Nat)
  /-- LATCH_CAPTURE (R71). -/
  | latchCapture (src : Fin 86) (rising : Bool) (ed : EdgeAt)
  /-- LATCH_REPORT (R72). -/
  | latchReport (n : Fin 16)
  /-- LATCH_SOFTWARE_TRIGGER (R70). -/
  | latchSoftwareTrigger (m : Master) (n : Fin 16) (off : Nat)
  /-- LEARNING_START (R78). -/
  | learningStart (c : Client)
  /-- LEARNING_ABORT (R78). -/
  | learningAbort (c : Client)
  /-- LEARNING_LEG_END (R80). -/
  | learningLegEnd
  /-- MAP_ACCEPT (R265). -/
  | mapAccept (c : Client) (crc : Word)
  /-- PGEN_GO (R98). -/
  | pgenGo (m : Master) (target : Word) (postgt : Bool) (earliest : Bool) (tag : Fin 256)
  /-- PGEN_STOP (R102). -/
  | pgenStop (m : Master) (tag : Fin 256)
  /-- PGEN_RESUME (R442). -/
  | pgenResume (m : Master) (tag : Fin 256)
  /-- PGEN_START (R442). -/
  | pgenStart (m : Master) (tag : Fin 256)
  /-- PGEN_CANCEL (R102). -/
  | pgenCancel (m : Master) (tag : Fin 256)
  /-- PGEN_MODE (R90). -/
  | pgenMode (m : Master) (code : Word) (tag : Fin 256)
  /-- PGEN_UNKNOWN_OP (R96). -/
  | pgenUnknownOp (m : Master) (op : Fin 16) (tag : Fin 256)
  /-- TRIP_START (R100). -/
  | tripStart
  /-- START_TIMEOUT (R100). -/
  | startTimeout
  /-- TRIP_ARRIVAL (R101). -/
  | tripArrival
  /-- STOP_COMPLETE (R102). -/
  | stopComplete
  /-- RELEVEL_START (R106). -/
  | relevelStart
  /-- DRIVE_STATUS_TIMEOUT (R108). -/
  | driveStatusTimeout
  /-- DRIVE_REFERENCE_RELEASE (R107). -/
  | driveReferenceRelease
  /-- OVERRUN_STOP_REQUEST (R131). -/
  | overrunStopRequest (n : Fin 16)
  /-- FOLLOWING_ERROR_WARN (R128). -/
  | followingErrorWarn (n : Fin 16)
  /-- FOLLOWING_ERROR_STOP (R128). -/
  | followingErrorStop (n : Fin 16)
  /-- SLOT_CFG_WRITE (R116). -/
  | slotCfgWrite (m : Master) (n : Fin 16) (val : Word)
  /-- BANKSEL_WRITE (R126). -/
  | bankselWrite (m : Master) (val : Word)
  /-- BANK_SWAP (R127). -/
  | bankSwap (n : Fin 16)
  /-- CARRIER_PERIOD_START (R137). -/
  | carrierPeriodStart (d : Fin 2) (adc : CarrierAdc)
  /-- BRIDGE_FAULT (R146). -/
  | bridgeFault (d : Fin 2)
  /-- DOOR_FAULT_CLEAR (R146). -/
  | doorFaultClear (m : Master) (d : Fin 2) (val : Word) (bflt : Bool)
  /-- DOOR_ALIGN (R152). -/
  | doorAlign (m : Master) (d : Fin 2)
  /-- ALIGN_STEP_END (R152). -/
  | alignStepEnd (d : Fin 2)
  /-- DOOR_OPEN (R160). -/
  | doorOpen (m : Master) (d : Fin 2) (tag : Fin 256)
  /-- DOOR_CLOSE (R160). -/
  | doorClose (m : Master) (d : Fin 2) (tag : Fin 256)
  /-- DOOR_MOVETO (R160). -/
  | doorMoveto (m : Master) (d : Fin 2) (mtgt : Word) (tag : Fin 256)
  /-- DOOR_PAUSE (R162). -/
  | doorPause (m : Master) (d : Fin 2) (tag : Fin 256)
  /-- DOOR_RESUME (R162). -/
  | doorResume (m : Master) (d : Fin 2) (tag : Fin 256)
  /-- DOOR_NUDGE (R160). -/
  | doorNudge (m : Master) (d : Fin 2) (tag : Fin 256)
  /-- DOOR_RELEASE (R160). -/
  | doorRelease (m : Master) (d : Fin 2) (tag : Fin 256)
  /-- DOOR_LEARN (R175). -/
  | doorLearn (m : Master) (d : Fin 2) (tag : Fin 256)
  /-- DOOR_UNKNOWN_OP (R161). -/
  | doorUnknownOp (m : Master) (d : Fin 2) (op : Fin 16) (tag : Fin 256)
  /-- DOOR_ARRIVAL (R163). -/
  | doorArrival (d : Fin 2)
  /-- HOLDING_REDUCTION (R164). -/
  | holdingReduction (d : Fin 2)
  /-- OBSTRUCTION_TRIP (R168). -/
  | obstructionTrip (d : Fin 2) (cause : Fin 8)
  /-- REVERSAL_COMPLETE (R169). -/
  | reversalComplete (d : Fin 2)
  /-- LIGHT_CURTAIN_ACTIVE (R171). -/
  | lightCurtainActive (d : Fin 2)
  /-- DOOR_ZONE_WRITE (R174). -/
  | doorZoneWrite (m : Master) (d : Fin 2) (val : Word)
  /-- DOOR_PERMIT_WRITE (R145). -/
  | doorPermitWrite (m : Master) (d : Fin 2) (val : Word)
  /-- DOOR_LEARN_STEP_END (R175). -/
  | doorLearnStepEnd (d : Fin 2)
  /-- RING_FRAME_RECEIVED (R190). -/
  | ringFrameReceived (port : Fin 2) (bytes : List (Option Byte)) (endCyc : Nat)
  /-- RING_RECEIVE_WINDOW_END (R184). -/
  | ringReceiveWindowEnd
  /-- NODE_LOST (R191). -/
  | nodeLost (a : Nat)
  /-- NODE_REGAINED (R191). -/
  | nodeRegained (a : Nat)
  /-- NODE_COUNT_FAULT (R192). -/
  | nodeCountFault
  /-- RING_SIDE_LOST (R200). -/
  | ringSideLost (p : Fin 2)
  /-- RING_SIDE_REGAINED (R200). -/
  | ringSideRegained (p : Fin 2)
  /-- DUAL_MODE_LEAVE (R201). -/
  | dualModeLeave
  /-- PAYLOAD_ENTRY_DROPPED (R195). -/
  | payloadEntryDropped (a : Nat)
  /-- ENUMERATE (R203). -/
  | enumerate (c : Client)
  /-- ASSIGN_ADDRESS (R203). -/
  | assignAddress (c : Client) (val : Word)
  /-- ENUMERATION_END (R203). -/
  | enumerationEnd
  /-- RING_ENABLE (R206). -/
  | ringEnable
  /-- SYNC_END (R206). -/
  | syncEnd
  /-- RING_DISABLE (R206). -/
  | ringDisable
  /-- BADGER_RING_CYCLE_CLOSE (R193). -/
  | badgerRingCycleClose
  /-- BID_CAR_CALL (R232). -/
  | bidCarCall (m : Master) (arg : Word) (tag : Fin 256)
  /-- BID_HALL_CALL (R223). -/
  | bidHallCall (m : Master) (arg : Word) (tag : Fin 256)
  /-- BID_DESTINATION_CALL (R223). -/
  | bidDestinationCall (m : Master) (arg : Word) (tag : Fin 256)
  /-- BID_SERVED (R230). -/
  | bidServed (m : Master) (arg : Word) (tag : Fin 256)
  /-- BID_CLEAR_CAR_CALLS (R231). -/
  | bidClearCarCalls (m : Master) (arg : Word) (tag : Fin 256)
  /-- BID_RELEASE_ALL (R228). -/
  | bidReleaseAll (m : Master) (tag : Fin 256)
  /-- BID_UNKNOWN_OP (R235). -/
  | bidUnknownOp (m : Master) (op : Fin 16) (tag : Fin 256)
  /-- ANNOUNCE (R224). -/
  | announce (content : List Byte)
  /-- BID (R225). -/
  | bid (content : List Byte)
  /-- AWARD (R226). -/
  | award (content : List Byte)
  /-- HEARTBEAT (R222). -/
  | heartbeat (content : List Byte)
  /-- GROUP_RELEASE (R228). -/
  | groupRelease (content : List Byte)
  /-- GROUP_SERVED (R230). -/
  | groupServed (content : List Byte)
  /-- ACCEPT (R226). -/
  | accept (content : List Byte)
  /-- BACKUP (R408). -/
  | backup (content : List Byte)
  /-- BACKUP_REQ (R409). -/
  | backupReq (content : List Byte)
  /-- BID_EVALUATION (R217). -/
  | bidEvaluation
  /-- EVALUATION_END (R214). -/
  | evaluationEnd (us : Nat)
  /-- AUCTION_DEADLINE (R225). -/
  | auctionDeadline (id : Nat)
  /-- REANNOUNCE_TIMER (R225). -/
  | reannounceTimer (id : Nat)
  /-- REAUCTION_TIMER (R227). -/
  | reauctionTimer (id : Nat)
  /-- ACCEPT_TIMEOUT (R226). -/
  | acceptTimeout (id : Nat)
  /-- HEARTBEAT_LOSS (R222). -/
  | heartbeatLoss (car : Nat)
  /-- A_COMMIT (R241). -/
  | aCommit (m : Master) (val : Word)
  /-- CROSS_COMPARISON_TRIP (R243). -/
  | crossComparisonTrip
  /-- VERDICT_MISSING (R244). -/
  | verdictMissing
  /-- TICK_PERIOD_FAULT (R37). -/
  | tickPeriodFault (counts : Nat)
  /-- BADGER_REFERENCED (R238). -/
  | badgerReferenced
  /-- BADGER_RESYNC (R239). -/
  | badgerResync
  /-- MARTEN_DEGRADED (R240). -/
  | martenDegraded
  /-- STANDSTILL (R245). -/
  | standstill (ch : Chan)
  /-- PAIR_DISCREPANCY (R259). -/
  | pairDiscrepancy (ch : Chan) (pair : Fin 8)
  /-- DOOR_PERMIT_REMOVED (R257). -/
  | doorPermitRemoved (d : Fin 2)
  /-- DOOR_PERMIT_RETURN (R257). -/
  | doorPermitReturn (d : Fin 2)
  /-- PARAMETER_CONFIRM (R262). -/
  | parameterConfirm (c : Client) (crc : Word)
  /-- PARAMETER_DISCARD (R262). -/
  | parameterDiscard (c : Client)
  /-- BPARAM_WRITE (R443). -/
  | bparamWrite (m : Master) (val : Word)
  /-- BMAP_WRITE (R265). -/
  | bmapWrite (m : Master) (val : Word)
  /-- APERM_WRITE (R274). -/
  | apermWrite (m : Master) (val : Word)
  /-- SEQ_CONTACT (R279). -/
  | seqContact
  /-- SEQ_RELEASE (R279). -/
  | seqRelease
  /-- SEQ_RUN (R279). -/
  | seqRun
  /-- SEQ_APPLY (R279). -/
  | seqApply
  /-- SEQ_DISABLE (R279). -/
  | seqDisable
  /-- SEQ_OFF (R279). -/
  | seqOff
  /-- ECONOMY_START (R278). -/
  | economyStart (b : Fin 2)
  /-- OUTPUT_TEST_START (R280). -/
  | outputTestStart (rd : OutReading)
  /-- OUTPUT_TEST_END (R281). -/
  | outputTestEnd (off : Nat) (rd : OutReading) (others : List OutReading)
  /-- TEST_OVERDUE (R283). -/
  | testOverdue (s : Fin 10)
  /-- TEST_AGE_LIMIT (R283). -/
  | testAgeLimit (s : Fin 10)
  /-- OUTPUT_OVERCURRENT (R277). -/
  | outputOvercurrent (x : Fin 6)
  /-- RELEASE_MONITOR_FAULT (R284). -/
  | releaseMonitorFault (x : Fin 4)
  /-- TORQUE_TEST_DUE (R285). -/
  | torqueTestDue
  /-- TORQUE_TEST_START (R285). -/
  | torqueTestStart
  /-- TORQUE_TEST_STEP_END (R285). -/
  | torqueTestStepEnd
  /-- TORQUE_TEST_OVERDUE (R286). -/
  | torqueTestOverdue
  /-- ON_SITE_RESET_EDGE (R287). -/
  | onSiteResetEdge (e : ResetEdge)
  /-- STUCK_RESET (R288). -/
  | stuckReset (mask : Fin 4)
  /-- RESET_PADS_DISAGREE (R288). -/
  | resetPadsDisagree (levels : Fin 4)
  /-- RESET_PADS_REARM (R288). -/
  | resetPadsRearm
  /-- INPUT_LEVEL_ACCEPTED (R295). -/
  | inputLevelAccepted (pin : InPin) (lvl : Bool) (ed : EdgeAt)
  /-- TEST_PULSE_WINDOW (R297). -/
  | testPulseWindow (t : Fin 4)
  /-- TEST_PULSE_JUDGE (R299). -/
  | testPulseJudge (t : Fin 4) (j : PulseReading)
  /-- CHAIN_TAP_ORDER (R301). -/
  | chainTapOrder
  /-- OUTSET_WRITE (R303). -/
  | outsetWrite (m : Master) (val : Word)
  /-- OUTCLR_WRITE (R303). -/
  | outclrWrite (m : Master) (val : Word)
  /-- THERMAL_SHUTDOWN (R305). -/
  | thermalShutdown (p : Fin 36) (ma : Nat) (off : Nat)
  /-- THERMAL_RESTART (R305). -/
  | thermalRestart (p : Fin 36)
  /-- OPEN_LOAD (R305). -/
  | openLoad (p : Fin 36) (ma : Nat)
  /-- CLEAR_FAULT (R307). -/
  | clearFault (m : Master) (val : Word) (off : Nat)
  /-- FIELD_SUPPLY_STATE_CHANGE (R308). -/
  | fieldSupplyStateChange (f : Fin 2) (st : SupplyState) (mv : Nat)
  /-- CHANNEL_REMAP (R309). -/
  | channelRemap (m : Master) (out : Bool) (n : Fin 52) (val : Word)
  /-- NMT_START_REMOTE_NODE (R317). -/
  | nmtStartRemoteNode (p : Fin 2) (node : Nat)
  /-- NMT_STOP_REMOTE_NODE (R317). -/
  | nmtStopRemoteNode (p : Fin 2) (node : Nat)
  /-- NMT_ENTER_PRE_OPERATIONAL (R317). -/
  | nmtEnterPreOperational (p : Fin 2) (node : Nat)
  /-- NMT_RESET_COMMUNICATION (R317). -/
  | nmtResetCommunication (p : Fin 2) (node : Nat)
  /-- NMT_RESET_NODE (R317). -/
  | nmtResetNode (p : Fin 2) (node : Nat)
  /-- SDO_DOWNLOAD (R318). -/
  | sdoDownload (p : Fin 2) (node : Nat) (idx : Nat) (sub : Nat) (bytes : List Byte)
  /-- SDO_UPLOAD (R318). -/
  | sdoUpload (p : Fin 2) (node : Nat) (idx : Nat) (sub : Nat)
  /-- RPDO (R319). -/
  | rpdo (n : Fin 16) (bytes : List Byte)
  /-- TPDO_SEND (R319). -/
  | tpdoSend (n : Fin 16)
  /-- SRDO1_SEND (R322). -/
  | srdo1Send
  /-- SRDO2_RECEIVED (R322). -/
  | srdo2Received (bytes : List Byte) (inv : List Byte)
  /-- SRDO2_INVALID (R322). -/
  | srdo2Invalid (kind : Fin 3)
  /-- BUS_OFF (R316). -/
  | busOff (p : Fin 2) (tec : Nat)
  /-- BUS_OFF_RECOVERY (R316). -/
  | busOffRecovery (p : Fin 2)
  /-- ERROR_PASSIVE (R316). -/
  | errorPassive (p : Fin 2) (tec : Nat) (rec : Nat)
  /-- CANOPEN_HEARTBEAT (R317). -/
  | canopenHeartbeat (p : Fin 2)
  /-- EMERGENCY_MESSAGE (R330). -/
  | emergencyMessage (p : Fin 2)
  /-- DICTIONARY_WRITE (R324). -/
  | dictionaryWrite (c : Client) (idx : Nat) (sub : Nat) (bytes : List Byte)
  /-- APPLY_FENCE (R328). -/
  | applyFence (c : Client) (val : Word)
  /-- FENCE_APPLIED (R328). -/
  | fenceApplied (c : Client)
  /-- STORE (R329). -/
  | store (c : Client) (val : Word)
  /-- RESTORE_DEFAULTS (R329). -/
  | restoreDefaults (c : Client) (val : Word)
  /-- COMMIT_PORT_SETTINGS (R337). -/
  | commitPortSettings (c : Client) (val : Bool)
  /-- SESSION_OPEN (R331). -/
  | sessionOpen (ip : Word)
  /-- SESSION_CLOSE (R331). -/
  | sessionClose (i : Fin 4)
  /-- FSP_READ_ENTRY (R332). -/
  | fspReadEntry (i : Fin 4) (tag : Fin 256) (idx : Nat) (sub : Nat)
  /-- FSP_WRITE_ENTRY (R332). -/
  | fspWriteEntry (i : Fin 4) (tag : Fin 256) (idx : Nat) (sub : Nat) (bytes : List Byte)
  /-- FSP_BATCH (R332). -/
  | fspBatch (i : Fin 4) (tag : Fin 256) (bytes : List Byte)
  /-- FSP_READ_EVENTS (R332). -/
  | fspReadEvents (i : Fin 4) (tag : Fin 256) (first : Nat) (cnt : Nat)
  /-- FSP_READ_FILE (R332). -/
  | fspReadFile (i : Fin 4) (tag : Fin 256) (file : Nat) (offset : Nat)
  /-- LOCAL_REQUEST (R334). -/
  | localRequest (m : Master) (val : Word)
  /-- MEMORY_READ (R342). -/
  | memoryRead (m : Master) (addr : Nat) (len : Nat)
  /-- MEMORY_WRITE (R345). -/
  | memoryWrite (m : Master) (addr : Nat) (bytes : List Byte)
  /-- FLIP_ARM (R347). -/
  | flipArm (m : Master) (val : Word)
  /-- ANT_SCRUB (R348). -/
  | antScrub (addr : Nat)
  /-- WEEVIL_LINE (R349). -/
  | weevilLine
  /-- WEEVIL_VISIT (R349). -/
  | weevilVisit
  /-- FUSE_PROGRAM (R351). -/
  | fuseProgram (m : Master) (val : Word)
  /-- FUSE_PROGRAM_DONE (R351). -/
  | fuseProgramDone
  /-- PPR_REQUEST (R352). -/
  | pprRequest (m : Master) (val : Word)
  /-- FLASH_HEALTH_READ (R353). -/
  | flashHealthRead (life : Nat) (preeol : Fin 4)
  /-- BLOCK_FENCE_WRITE (R356). -/
  | blockFenceWrite (m : Master) (blk : Fin 27) (val : Word)
  /-- DMA_START (R358). -/
  | dmaStart (m : Master) (c : Fin 8)
  /-- DMA_ABORT (R359). -/
  | dmaAbort (m : Master) (c : Fin 8)
  /-- DMA_DESCRIPTOR_DONE (R358). -/
  | dmaDescriptorDone (c : Fin 8)
  /-- MAILBOX_SEND (R363). -/
  | mailboxSend (m : Master) (n : Fin 16) (val : Word)
  /-- MAILBOX_FENCE_POST (R363). -/
  | mailboxFencePost (n : Fin 16)
  /-- MAILBOX_TAKE (R364). -/
  | mailboxTake (m : Master) (n : Fin 16)
  /-- CROSS_WAIT (R365). -/
  | crossWait (a : Fin 16) (b : Fin 16)
  /-- LOCK_READ (R368). -/
  | lockRead (m : Master) (l : Fin 32)
  /-- LOCK_RELEASE (R368). -/
  | lockRelease (m : Master) (l : Fin 32) (val : Word)
  /-- PARK_REQUEST (R370). -/
  | parkRequest (m : Master) (halted : Fin 16)
  /-- PARKED (R370). -/
  | parked
  /-- FOX_WAKE (R371). -/
  | foxWake
  /-- PARK_START (R371). -/
  | parkStart (m : Master) (val : Word)
  /-- EVENT_RECORD_WRITE (R376). -/
  | eventRecordWrite
  /-- ARCHIVE_BLOCK_WRITE (R379). -/
  | archiveBlockWrite
  /-- RING_FILL_DONE (R374). -/
  | ringFillDone (flight : Bool)
  /-- FREEZE (R383). -/
  | freeze (m : Master) (tag : Word)
  /-- WINDOW_COPY_START (R384). -/
  | windowCopyStart
  /-- WINDOW_STORED (R384). -/
  | windowStored
  /-- CURSOR_WRITE (R380). -/
  | cursorWrite (m : Master) (high : Bool) (val : Word)
  /-- FATAL_ERROR (R390). -/
  | fatalError (m : Master) (code : Word) (dump : List Byte)
  /-- OPERATING_HOUR (R387). -/
  | operatingHour
  /-- LIFE_RECOMPUTE (R389). -/
  | lifeRecompute
  /-- IMAGE_OPEN (R396). -/
  | imageOpen (i : Fin 4) (tag : Fin 256) (kind : Nat)
  /-- IMAGE_DATA (R396). -/
  | imageData (i : Fin 4) (tag : Fin 256) (offset : Nat) (bytes : List Byte)
  /-- IMAGE_CLOSE (R396). -/
  | imageClose (i : Fin 4) (tag : Fin 256)
  /-- BOOT (R397). -/
  | boot
  /-- HANDOVER_LOAD (R401). -/
  | handoverLoad (m : Master)
  /-- CANDIDATE_READY (R401). -/
  | candidateReady (off : Nat)
  /-- HANDOVER_REQUEST (R401). -/
  | handoverRequest (m : Master)
  /-- HANDOVER_DISCARD (R401). -/
  | handoverDiscard (m : Master)
  /-- HANDOVER_START (R402). -/
  | handoverStart
  /-- HANDOVER_SNAPSHOT (R402). -/
  | handoverSnapshot
  /-- HANDOVER_AUTHORITY (R402). -/
  | handoverAuthority
  /-- CONFIRM (R403). -/
  | confirm (m : Master) (val : Word)
  /-- HANDOVER_REVERT (R403). -/
  | handoverRevert (fatal : Bool)
  /-- KEY_INPUT (R404). -/
  | keyInput (l0 : Bool) (l1 : Bool)
  /-- SEAL_INPUT (R404). -/
  | sealInput (closed : Bool)
  /-- LID_BUTTON_PRESS (R404). -/
  | lidButtonPress
  /-- LID_BUTTON_STUCK (R404). -/
  | lidButtonStuck
  /-- SAFEOK_WRITE (R404). -/
  | safeokWrite (m : Master) (val : Word)
  /-- PRESENCE_TIMEOUT (R405). -/
  | presenceTimeout
  /-- DEBUG_UNLOCK (R407). -/
  | debugUnlock (m : Master) (val : Word)
  /-- BACKUP_CHUNK_SEND (R408). -/
  | backupChunkSend
  /-- ADOPT (R409). -/
  | adopt (c : Client) (inst : Nat) (car : Nat)
  /-- BACKUP_APPLIED (R409). -/
  | backupApplied
  /-- VERIFICATION_START (R410). -/
  | verificationStart (c : Client)
  /-- VERIFICATION_END (R410). -/
  | verificationEnd
  /-- POWER_ON_RESET_RELEASE (R421). -/
  | powerOnResetRelease
  /-- POWER_FAIL (R423). -/
  | powerFail
  /-- POWER_FAIL_RESET (R423). -/
  | powerFailReset
  /-- VIN_LOW (R423). -/
  | vinLow (mv : Nat)
  /-- VSAFE_CROSSING (R422). -/
  | vsafeCrossing (mv : Nat)
  /-- NMRST (R429). -/
  | nmrst
  /-- WARM_RESET (R425). -/
  | warmReset (m : Master) (key : Word)
  /-- MODULE_RESET (R425). -/
  | moduleReset (m : Master) (key : Word)
  /-- SAFE_DOMAIN_RESET (R425). -/
  | safeDomainReset (m : Master) (key : Word)
  /-- APP_DOMAIN_RESET (R425). -/
  | appDomainReset (m : Master) (key : Word)
  /-- CORE_DOMAIN_RESET (R425). -/
  | coreDomainReset (m : Master) (key : Word)
  /-- PARTNER_RESET_END (R425). -/
  | partnerResetEnd
  /-- LOAD_CALIBRATE_ZERO (R435). -/
  | loadCalibrateZero (c : Client)
  /-- LOAD_CALIBRATE_SPAN (R435). -/
  | loadCalibrateSpan (c : Client)
  /-- KEY_CHANNELS_DISAGREE (R404). -/
  | keyChannelsDisagree
  /-- KEY_CHANNELS_AGREE (R404). -/
  | keyChannelsAgree
  /-- LID_BUTTON_REARM (R404). -/
  | lidButtonRearm
  /-- LINE_FAULT_CLEARED (R47). -/
  | lineFaultCleared (n : Fin 4) (mask : Fin 8)
  /-- ERROR_ACTIVE_RETURN (R316). -/
  | errorActiveReturn (p : Fin 2) (tec : Nat) (rec : Nat)
  /-- ETHERNET_LINK_CHANGE (R331). -/
  | ethernetLinkChange (up : Bool) (full : Bool)
  /-- HOLD_CHARGED (R421). -/
  | holdCharged (ms : Nat) (mv : Nat)
  deriving DecidableEq, Repr

end Sys2Proof
end

