-- ==== Sys2Proof/Decode.lean ====
section
/-! DEFINITION. The words of the table of operations: no row of it gives bits, so no word spells a command. -/

namespace Sys2Proof

/-- The command that a word of the table spells: the table gives no row any bits. (DESIGN CHOICE, log 117) -/
def decodeTableWord (_nbits _w : Nat) : Option Instr := none

end Sys2Proof
end

