-- ==== Sys2Proof/Config.lean ====
section
/-! DEFINITION. What the spec leaves to manufacture or leaves open: constants without a body, so that no proof can see
their values. A free value that is asked for more than once takes a counter of the state (or the operands it depends on)
as its argument. Each is named in the assumption log. -/

namespace Sys2Proof

/-- The silicon, Badger and boot ROM revisions, "as built" (R440). (DESIGN CHOICE, log 9) -/
opaque Config.badgerRevision : Byte
opaque Config.siliconRevision : Byte
opaque Config.romRevision : Byte

/-- The serial number, the revision letter and the MAC address, set at manufacture (R3, R5, the ETH table). -/
opaque Config.serialNumber : BitVec 64
opaque Config.revisionLetter : Byte
opaque Config.macAddress : BitVec 48

/-- The bytes of the boot ROM, of which the spec gives only the place and the size (R17). (DESIGN CHOICE, log 9) -/
opaque Config.bootRomByte : Nat → Byte

/-- The data that a word with three or more flipped bits reads as, and the class it falls in: 0 clean, 1 correctable,
2 uncorrectable. R340 fixes the code only up to two flips; the arguments are the word address and the two flip masks. (DESIGN CHOICE, log 8) -/
opaque Config.manyFlipsClass : Nat → Nat → Nat → Fin 3
/-- (DESIGN CHOICE, log 8) -/
opaque Config.manyFlipsData : Nat → Nat → Nat → BitVec 64

/-- The syndrome of a faulty word (ELOG_INFO.SYN), which R340 leaves to the code matrix. (DESIGN CHOICE, log 8) -/
opaque Config.syndrome : Nat → Nat → Nat → Byte

/-- The image signature is valid (R395): the scheme's key is not in the spec; the argument is the image's bytes. (DESIGN CHOICE, log 10) -/
opaque Config.signatureValid : List Byte → List Byte → Bool

/-- The images that a module carries from manufacture, by slot (safety A and B, application A and B): whether the slot holds a
valid one, its header, and its body (R354, R394). -/
opaque Config.factoryValid : Nat → Bool
opaque Config.factoryHeader : Nat → List Byte
/-- (DESIGN CHOICE, log 9) -/
opaque Config.factoryBody : Nat → List Byte

/-- What an erased flash byte that nothing has written reads as; the arguments are the slot and the offset. (DESIGN CHOICE, log 11) -/
opaque Config.erasedByte : Nat → Nat → Byte

/-- What the boot ROM writes into a byte of the safety SRAM (R341), which the spec leaves open. (DESIGN CHOICE, log 12) -/
opaque Config.sramByte : Nat → Byte

/-- The row of an array in which a word lies (R350); the spec gives no row geometry. Arguments: region and address. (DESIGN CHOICE, log 9) -/
opaque Config.rowOf : Nat → Nat → Nat

/-- The spare rows of a DRAM bank at manufacture (R352). (DESIGN CHOICE, log 9) -/
opaque Config.spareRows : Nat → Nat

/-- The byte that a buffer shows where the ring line carried a violation (R193); arguments: cycle and place. (DESIGN CHOICE, log 13) -/
opaque Config.lineByte : Nat → Nat → Byte

/-- Whether a quotient whose rounding the spec does not state is rounded up; the arguments are dividend and divisor. (DESIGN CHOICE, log 4) -/
opaque Config.roundsUp : Int → Int → Bool

/-- The result of a division by zero that ordinary data can reach; the argument is the dividend. (DESIGN CHOICE, log 7) -/
opaque Config.byZero : Int → Int

/-- What a register or accumulator of n bits holds after a sum beyond its range; the arguments are n and the sum. (DESIGN CHOICE, log 5) -/
opaque Config.beyond : Nat → Int → Int

/-- A free value of a step whose result the spec leaves open; the argument is the counter State.dev.fresh. (DESIGN CHOICE, log 3) -/
opaque Config.freeWord : Nat → Word
/-- (DESIGN CHOICE, log 3) -/
opaque Config.freeBool : Nat → Bool

/-- The text of 0x100A for an application version; the spec gives it no form. -/
opaque Config.versionText : Nat → List Byte

end Sys2Proof
end

