-- ==== Sys2Proof/Machine/Dict.lean ====
section
/-! DEFINITION. The object dictionary, written out from the dictionary tables of the spec's chapters (R324, R337): for
each range of sub-indexes of an index the type, the access, the default, the presence level and the stated range. The PDO
and SRDO objects, whose inner layout the spec leaves to CiA 301 and EN 50325-5, follow those profiles (PRESUMED). -/
namespace Sys2Proof.Machine

/-- The CiA 301 types the tables use; the number is the length in bytes. -/
inductive OdTy where
  | bool | u (n : Nat) | i (n : Nat) | str | dom
  deriving DecidableEq, Repr

/-- The CANopen access terms. -/
inductive OdAcc where
  | ro | rw | wo | cst
  deriving DecidableEq, Repr

/-- One line of a dictionary table: index, first and last sub-index, type, access, default, the lowest presence level that
may write, the stated range, and whether 0xFF ("none") is allowed beside the range. -/
structure OdRow where
  idx   : Nat
  lo    : Nat
  hi    : Nat
  ty    : OdTy
  acc   : OdAcc
  dflt  : Nat
  level : Nat
  rmin  : Int
  rmax  : Int
  orFF  : Bool
  deriving DecidableEq, Repr

def od10a : List OdRow := [
  ⟨0x1000, 0, 0, (.u 4), .cst, 417, 0, 0, 4294967295, false⟩,
  ⟨0x1001, 0, 0, (.u 1), .ro, 0, 0, 0, 255, false⟩,
  ⟨0x1003, 0, 8, (.u 4), .ro, 0, 0, 0, 4294967295, false⟩,
  ⟨0x1008, 0, 0, .str, .cst, 0, 0, 0, 0, false⟩,
  ⟨0x100A, 0, 0, .str, .ro, 0, 0, 0, 0, false⟩,
  ⟨0x1010, 1, 1, (.u 4), .rw, 1, 1, 0, 4294967295, false⟩,
  ⟨0x1011, 1, 1, (.u 4), .rw, 1, 1, 0, 4294967295, false⟩,
  ⟨0x1014, 0, 0, (.u 4), .rw, 128, 1, 1, 1664, false⟩,
  ⟨0x1015, 0, 0, (.u 2), .rw, 10, 1, 0, 65535, false⟩,
  ⟨0x1017, 0, 0, (.u 2), .rw, 100, 1, 0, 65535, false⟩,
  ⟨0x1018, 1, 1, (.u 4), .ro, 3867, 0, 0, 4294967295, false⟩,
  ⟨0x1018, 2, 2, (.u 4), .ro, 296, 0, 0, 4294967295, false⟩,
  ⟨0x1018, 3, 3, (.u 4), .ro, 0, 0, 0, 4294967295, false⟩,
  ⟨0x1018, 4, 4, (.u 4), .ro, 0, 0, 0, 4294967295, false⟩]

def od13a : List OdRow := [
  ⟨0x1301, 1, 1, (.u 1), .rw, 0, 2, 0, 255, false⟩,
  ⟨0x1301, 2, 2, (.u 2), .rw, 10, 2, 0, 65535, false⟩,
  ⟨0x1301, 3, 3, (.u 1), .rw, 20, 2, 0, 255, false⟩,
  ⟨0x1301, 4, 4, (.u 1), .ro, 254, 0, 0, 255, false⟩,
  ⟨0x1301, 5, 6, (.u 4), .rw, 0, 2, 0, 4294967295, false⟩,
  ⟨0x1302, 1, 1, (.u 1), .rw, 0, 2, 0, 255, false⟩,
  ⟨0x1302, 2, 2, (.u 2), .rw, 10, 2, 0, 65535, false⟩,
  ⟨0x1302, 3, 3, (.u 1), .rw, 20, 2, 0, 255, false⟩,
  ⟨0x1302, 4, 4, (.u 1), .ro, 254, 0, 0, 255, false⟩,
  ⟨0x1302, 5, 6, (.u 4), .rw, 0, 2, 0, 4294967295, false⟩,
  ⟨0x1381, 0, 0, (.u 1), .rw, 0, 2, 0, 255, false⟩,
  ⟨0x1381, 1, 16, (.u 4), .rw, 0, 2, 0, 4294967295, false⟩,
  ⟨0x1382, 0, 0, (.u 1), .rw, 0, 2, 0, 255, false⟩,
  ⟨0x1382, 1, 16, (.u 4), .rw, 0, 2, 0, 4294967295, false⟩,
  ⟨0x13FE, 0, 0, (.u 1), .rw, 0, 2, 0, 255, false⟩,
  ⟨0x13FF, 1, 2, (.u 2), .rw, 0, 2, 0, 65535, false⟩]

def od14a : List OdRow := [
  ⟨0x1400, 0, 0, (.u 1), .cst, 5, 0, 0, 255, false⟩,
  ⟨0x1400, 1, 1, (.u 4), .rw, 2147483648, 1, 0, 4294967295, false⟩,
  ⟨0x1400, 2, 2, (.u 1), .rw, 254, 1, 0, 255, false⟩,
  ⟨0x1400, 3, 3, (.u 2), .rw, 0, 1, 0, 65535, false⟩,
  ⟨0x1400, 5, 5, (.u 2), .rw, 0, 1, 0, 65535, false⟩,
  ⟨0x1401, 0, 0, (.u 1), .cst, 5, 0, 0, 255, false⟩,
  ⟨0x1401, 1, 1, (.u 4), .rw, 2147483648, 1, 0, 4294967295, false⟩,
  ⟨0x1401, 2, 2, (.u 1), .rw, 254, 1, 0, 255, false⟩,
  ⟨0x1401, 3, 3, (.u 2), .rw, 0, 1, 0, 65535, false⟩,
  ⟨0x1401, 5, 5, (.u 2), .rw, 0, 1, 0, 65535, false⟩,
  ⟨0x1402, 0, 0, (.u 1), .cst, 5, 0, 0, 255, false⟩,
  ⟨0x1402, 1, 1, (.u 4), .rw, 2147483648, 1, 0, 4294967295, false⟩,
  ⟨0x1402, 2, 2, (.u 1), .rw, 254, 1, 0, 255, false⟩,
  ⟨0x1402, 3, 3, (.u 2), .rw, 0, 1, 0, 65535, false⟩,
  ⟨0x1402, 5, 5, (.u 2), .rw, 0, 1, 0, 65535, false⟩,
  ⟨0x1403, 0, 0, (.u 1), .cst, 5, 0, 0, 255, false⟩,
  ⟨0x1403, 1, 1, (.u 4), .rw, 2147483648, 1, 0, 4294967295, false⟩,
  ⟨0x1403, 2, 2, (.u 1), .rw, 254, 1, 0, 255, false⟩,
  ⟨0x1403, 3, 3, (.u 2), .rw, 0, 1, 0, 65535, false⟩,
  ⟨0x1403, 5, 5, (.u 2), .rw, 0, 1, 0, 65535, false⟩,
  ⟨0x1404, 0, 0, (.u 1), .cst, 5, 0, 0, 255, false⟩,
  ⟨0x1404, 1, 1, (.u 4), .rw, 2147483648, 1, 0, 4294967295, false⟩,
  ⟨0x1404, 2, 2, (.u 1), .rw, 254, 1, 0, 255, false⟩,
  ⟨0x1404, 3, 3, (.u 2), .rw, 0, 1, 0, 65535, false⟩,
  ⟨0x1404, 5, 5, (.u 2), .rw, 0, 1, 0, 65535, false⟩,
  ⟨0x1405, 0, 0, (.u 1), .cst, 5, 0, 0, 255, false⟩,
  ⟨0x1405, 1, 1, (.u 4), .rw, 2147483648, 1, 0, 4294967295, false⟩,
  ⟨0x1405, 2, 2, (.u 1), .rw, 254, 1, 0, 255, false⟩,
  ⟨0x1405, 3, 3, (.u 2), .rw, 0, 1, 0, 65535, false⟩,
  ⟨0x1405, 5, 5, (.u 2), .rw, 0, 1, 0, 65535, false⟩,
  ⟨0x1406, 0, 0, (.u 1), .cst, 5, 0, 0, 255, false⟩,
  ⟨0x1406, 1, 1, (.u 4), .rw, 2147483648, 1, 0, 4294967295, false⟩,
  ⟨0x1406, 2, 2, (.u 1), .rw, 254, 1, 0, 255, false⟩,
  ⟨0x1406, 3, 3, (.u 2), .rw, 0, 1, 0, 65535, false⟩,
  ⟨0x1406, 5, 5, (.u 2), .rw, 0, 1, 0, 65535, false⟩,
  ⟨0x1407, 0, 0, (.u 1), .cst, 5, 0, 0, 255, false⟩,
  ⟨0x1407, 1, 1, (.u 4), .rw, 2147483648, 1, 0, 4294967295, false⟩,
  ⟨0x1407, 2, 2, (.u 1), .rw, 254, 1, 0, 255, false⟩,
  ⟨0x1407, 3, 3, (.u 2), .rw, 0, 1, 0, 65535, false⟩,
  ⟨0x1407, 5, 5, (.u 2), .rw, 0, 1, 0, 65535, false⟩]

def od14b : List OdRow := [
  ⟨0x1408, 0, 0, (.u 1), .cst, 5, 0, 0, 255, false⟩,
  ⟨0x1408, 1, 1, (.u 4), .rw, 528, 1, 0, 4294967295, false⟩,
  ⟨0x1408, 2, 2, (.u 1), .rw, 254, 1, 0, 255, false⟩,
  ⟨0x1408, 3, 3, (.u 2), .rw, 0, 1, 0, 65535, false⟩,
  ⟨0x1408, 5, 5, (.u 2), .rw, 0, 1, 0, 65535, false⟩,
  ⟨0x1409, 0, 0, (.u 1), .cst, 5, 0, 0, 255, false⟩,
  ⟨0x1409, 1, 1, (.u 4), .rw, 2147483648, 1, 0, 4294967295, false⟩,
  ⟨0x1409, 2, 2, (.u 1), .rw, 254, 1, 0, 255, false⟩,
  ⟨0x1409, 3, 3, (.u 2), .rw, 0, 1, 0, 65535, false⟩,
  ⟨0x1409, 5, 5, (.u 2), .rw, 0, 1, 0, 65535, false⟩,
  ⟨0x140A, 0, 0, (.u 1), .cst, 5, 0, 0, 255, false⟩,
  ⟨0x140A, 1, 1, (.u 4), .rw, 2147483648, 1, 0, 4294967295, false⟩,
  ⟨0x140A, 2, 2, (.u 1), .rw, 254, 1, 0, 255, false⟩,
  ⟨0x140A, 3, 3, (.u 2), .rw, 0, 1, 0, 65535, false⟩,
  ⟨0x140A, 5, 5, (.u 2), .rw, 0, 1, 0, 65535, false⟩,
  ⟨0x140B, 0, 0, (.u 1), .cst, 5, 0, 0, 255, false⟩,
  ⟨0x140B, 1, 1, (.u 4), .rw, 2147483648, 1, 0, 4294967295, false⟩,
  ⟨0x140B, 2, 2, (.u 1), .rw, 254, 1, 0, 255, false⟩,
  ⟨0x140B, 3, 3, (.u 2), .rw, 0, 1, 0, 65535, false⟩,
  ⟨0x140B, 5, 5, (.u 2), .rw, 0, 1, 0, 65535, false⟩,
  ⟨0x140C, 0, 0, (.u 1), .cst, 5, 0, 0, 255, false⟩,
  ⟨0x140C, 1, 1, (.u 4), .rw, 2147483648, 1, 0, 4294967295, false⟩,
  ⟨0x140C, 2, 2, (.u 1), .rw, 254, 1, 0, 255, false⟩,
  ⟨0x140C, 3, 3, (.u 2), .rw, 0, 1, 0, 65535, false⟩,
  ⟨0x140C, 5, 5, (.u 2), .rw, 0, 1, 0, 65535, false⟩,
  ⟨0x140D, 0, 0, (.u 1), .cst, 5, 0, 0, 255, false⟩,
  ⟨0x140D, 1, 1, (.u 4), .rw, 2147483648, 1, 0, 4294967295, false⟩,
  ⟨0x140D, 2, 2, (.u 1), .rw, 254, 1, 0, 255, false⟩,
  ⟨0x140D, 3, 3, (.u 2), .rw, 0, 1, 0, 65535, false⟩,
  ⟨0x140D, 5, 5, (.u 2), .rw, 0, 1, 0, 65535, false⟩,
  ⟨0x140E, 0, 0, (.u 1), .cst, 5, 0, 0, 255, false⟩,
  ⟨0x140E, 1, 1, (.u 4), .rw, 2147483648, 1, 0, 4294967295, false⟩,
  ⟨0x140E, 2, 2, (.u 1), .rw, 254, 1, 0, 255, false⟩,
  ⟨0x140E, 3, 3, (.u 2), .rw, 0, 1, 0, 65535, false⟩,
  ⟨0x140E, 5, 5, (.u 2), .rw, 0, 1, 0, 65535, false⟩,
  ⟨0x140F, 0, 0, (.u 1), .cst, 5, 0, 0, 255, false⟩,
  ⟨0x140F, 1, 1, (.u 4), .rw, 2147483648, 1, 0, 4294967295, false⟩,
  ⟨0x140F, 2, 2, (.u 1), .rw, 254, 1, 0, 255, false⟩,
  ⟨0x140F, 3, 3, (.u 2), .rw, 0, 1, 0, 65535, false⟩,
  ⟨0x140F, 5, 5, (.u 2), .rw, 0, 1, 0, 65535, false⟩]

def od16a : List OdRow := [
  ⟨0x1600, 0, 0, (.u 1), .rw, 0, 1, 0, 255, false⟩,
  ⟨0x1600, 1, 64, (.u 4), .rw, 0, 1, 0, 4294967295, false⟩,
  ⟨0x1601, 0, 0, (.u 1), .rw, 0, 1, 0, 255, false⟩,
  ⟨0x1601, 1, 64, (.u 4), .rw, 0, 1, 0, 4294967295, false⟩,
  ⟨0x1602, 0, 0, (.u 1), .rw, 0, 1, 0, 255, false⟩,
  ⟨0x1602, 1, 64, (.u 4), .rw, 0, 1, 0, 4294967295, false⟩,
  ⟨0x1603, 0, 0, (.u 1), .rw, 0, 1, 0, 255, false⟩,
  ⟨0x1603, 1, 64, (.u 4), .rw, 0, 1, 0, 4294967295, false⟩,
  ⟨0x1604, 0, 0, (.u 1), .rw, 0, 1, 0, 255, false⟩,
  ⟨0x1604, 1, 64, (.u 4), .rw, 0, 1, 0, 4294967295, false⟩,
  ⟨0x1605, 0, 0, (.u 1), .rw, 0, 1, 0, 255, false⟩,
  ⟨0x1605, 1, 64, (.u 4), .rw, 0, 1, 0, 4294967295, false⟩,
  ⟨0x1606, 0, 0, (.u 1), .rw, 0, 1, 0, 255, false⟩,
  ⟨0x1606, 1, 64, (.u 4), .rw, 0, 1, 0, 4294967295, false⟩,
  ⟨0x1607, 0, 0, (.u 1), .rw, 0, 1, 0, 255, false⟩,
  ⟨0x1607, 1, 64, (.u 4), .rw, 0, 1, 0, 4294967295, false⟩,
  ⟨0x1608, 0, 0, (.u 1), .rw, 3, 1, 0, 255, false⟩,
  ⟨0x1608, 1, 1, (.u 4), .rw, 571539728, 1, 0, 4294967295, false⟩,
  ⟨0x1608, 2, 2, (.u 4), .rw, 571540000, 1, 0, 4294967295, false⟩,
  ⟨0x1608, 3, 3, (.u 4), .rw, 571540240, 1, 0, 4294967295, false⟩,
  ⟨0x1608, 4, 64, (.u 4), .rw, 0, 1, 0, 4294967295, false⟩,
  ⟨0x1609, 0, 0, (.u 1), .rw, 0, 1, 0, 255, false⟩,
  ⟨0x1609, 1, 64, (.u 4), .rw, 0, 1, 0, 4294967295, false⟩,
  ⟨0x160A, 0, 0, (.u 1), .rw, 0, 1, 0, 255, false⟩,
  ⟨0x160A, 1, 64, (.u 4), .rw, 0, 1, 0, 4294967295, false⟩,
  ⟨0x160B, 0, 0, (.u 1), .rw, 0, 1, 0, 255, false⟩,
  ⟨0x160B, 1, 64, (.u 4), .rw, 0, 1, 0, 4294967295, false⟩,
  ⟨0x160C, 0, 0, (.u 1), .rw, 0, 1, 0, 255, false⟩,
  ⟨0x160C, 1, 64, (.u 4), .rw, 0, 1, 0, 4294967295, false⟩,
  ⟨0x160D, 0, 0, (.u 1), .rw, 0, 1, 0, 255, false⟩,
  ⟨0x160D, 1, 64, (.u 4), .rw, 0, 1, 0, 4294967295, false⟩,
  ⟨0x160E, 0, 0, (.u 1), .rw, 0, 1, 0, 255, false⟩,
  ⟨0x160E, 1, 64, (.u 4), .rw, 0, 1, 0, 4294967295, false⟩,
  ⟨0x160F, 0, 0, (.u 1), .rw, 0, 1, 0, 255, false⟩,
  ⟨0x160F, 1, 64, (.u 4), .rw, 0, 1, 0, 4294967295, false⟩]

def od18a : List OdRow := [
  ⟨0x1800, 0, 0, (.u 1), .cst, 5, 0, 0, 255, false⟩,
  ⟨0x1800, 1, 1, (.u 4), .rw, 2147483648, 1, 0, 4294967295, false⟩,
  ⟨0x1800, 2, 2, (.u 1), .rw, 254, 1, 0, 255, false⟩,
  ⟨0x1800, 3, 3, (.u 2), .rw, 0, 1, 0, 65535, false⟩,
  ⟨0x1800, 5, 5, (.u 2), .rw, 0, 1, 0, 65535, false⟩,
  ⟨0x1801, 0, 0, (.u 1), .cst, 5, 0, 0, 255, false⟩,
  ⟨0x1801, 1, 1, (.u 4), .rw, 2147483648, 1, 0, 4294967295, false⟩,
  ⟨0x1801, 2, 2, (.u 1), .rw, 254, 1, 0, 255, false⟩,
  ⟨0x1801, 3, 3, (.u 2), .rw, 0, 1, 0, 65535, false⟩,
  ⟨0x1801, 5, 5, (.u 2), .rw, 0, 1, 0, 65535, false⟩,
  ⟨0x1802, 0, 0, (.u 1), .cst, 5, 0, 0, 255, false⟩,
  ⟨0x1802, 1, 1, (.u 4), .rw, 2147483648, 1, 0, 4294967295, false⟩,
  ⟨0x1802, 2, 2, (.u 1), .rw, 254, 1, 0, 255, false⟩,
  ⟨0x1802, 3, 3, (.u 2), .rw, 0, 1, 0, 65535, false⟩,
  ⟨0x1802, 5, 5, (.u 2), .rw, 0, 1, 0, 65535, false⟩,
  ⟨0x1803, 0, 0, (.u 1), .cst, 5, 0, 0, 255, false⟩,
  ⟨0x1803, 1, 1, (.u 4), .rw, 2147483648, 1, 0, 4294967295, false⟩,
  ⟨0x1803, 2, 2, (.u 1), .rw, 254, 1, 0, 255, false⟩,
  ⟨0x1803, 3, 3, (.u 2), .rw, 0, 1, 0, 65535, false⟩,
  ⟨0x1803, 5, 5, (.u 2), .rw, 0, 1, 0, 65535, false⟩,
  ⟨0x1804, 0, 0, (.u 1), .cst, 5, 0, 0, 255, false⟩,
  ⟨0x1804, 1, 1, (.u 4), .rw, 2147483648, 1, 0, 4294967295, false⟩,
  ⟨0x1804, 2, 2, (.u 1), .rw, 254, 1, 0, 255, false⟩,
  ⟨0x1804, 3, 3, (.u 2), .rw, 0, 1, 0, 65535, false⟩,
  ⟨0x1804, 5, 5, (.u 2), .rw, 0, 1, 0, 65535, false⟩,
  ⟨0x1805, 0, 0, (.u 1), .cst, 5, 0, 0, 255, false⟩,
  ⟨0x1805, 1, 1, (.u 4), .rw, 2147483648, 1, 0, 4294967295, false⟩,
  ⟨0x1805, 2, 2, (.u 1), .rw, 254, 1, 0, 255, false⟩,
  ⟨0x1805, 3, 3, (.u 2), .rw, 0, 1, 0, 65535, false⟩,
  ⟨0x1805, 5, 5, (.u 2), .rw, 0, 1, 0, 65535, false⟩,
  ⟨0x1806, 0, 0, (.u 1), .cst, 5, 0, 0, 255, false⟩,
  ⟨0x1806, 1, 1, (.u 4), .rw, 2147483648, 1, 0, 4294967295, false⟩,
  ⟨0x1806, 2, 2, (.u 1), .rw, 254, 1, 0, 255, false⟩,
  ⟨0x1806, 3, 3, (.u 2), .rw, 0, 1, 0, 65535, false⟩,
  ⟨0x1806, 5, 5, (.u 2), .rw, 0, 1, 0, 65535, false⟩,
  ⟨0x1807, 0, 0, (.u 1), .cst, 5, 0, 0, 255, false⟩,
  ⟨0x1807, 1, 1, (.u 4), .rw, 2147483648, 1, 0, 4294967295, false⟩,
  ⟨0x1807, 2, 2, (.u 1), .rw, 254, 1, 0, 255, false⟩,
  ⟨0x1807, 3, 3, (.u 2), .rw, 0, 1, 0, 65535, false⟩,
  ⟨0x1807, 5, 5, (.u 2), .rw, 0, 1, 0, 65535, false⟩]

def od18b : List OdRow := [
  ⟨0x1808, 0, 0, (.u 1), .cst, 5, 0, 0, 255, false⟩,
  ⟨0x1808, 1, 1, (.u 4), .rw, 400, 1, 0, 4294967295, false⟩,
  ⟨0x1808, 2, 2, (.u 1), .rw, 254, 1, 0, 255, false⟩,
  ⟨0x1808, 3, 3, (.u 2), .rw, 0, 1, 0, 65535, false⟩,
  ⟨0x1808, 5, 5, (.u 2), .rw, 0, 1, 0, 65535, false⟩,
  ⟨0x1809, 0, 0, (.u 1), .cst, 5, 0, 0, 255, false⟩,
  ⟨0x1809, 1, 1, (.u 4), .rw, 2147483648, 1, 0, 4294967295, false⟩,
  ⟨0x1809, 2, 2, (.u 1), .rw, 254, 1, 0, 255, false⟩,
  ⟨0x1809, 3, 3, (.u 2), .rw, 0, 1, 0, 65535, false⟩,
  ⟨0x1809, 5, 5, (.u 2), .rw, 0, 1, 0, 65535, false⟩,
  ⟨0x180A, 0, 0, (.u 1), .cst, 5, 0, 0, 255, false⟩,
  ⟨0x180A, 1, 1, (.u 4), .rw, 2147483648, 1, 0, 4294967295, false⟩,
  ⟨0x180A, 2, 2, (.u 1), .rw, 254, 1, 0, 255, false⟩,
  ⟨0x180A, 3, 3, (.u 2), .rw, 0, 1, 0, 65535, false⟩,
  ⟨0x180A, 5, 5, (.u 2), .rw, 0, 1, 0, 65535, false⟩,
  ⟨0x180B, 0, 0, (.u 1), .cst, 5, 0, 0, 255, false⟩,
  ⟨0x180B, 1, 1, (.u 4), .rw, 2147483648, 1, 0, 4294967295, false⟩,
  ⟨0x180B, 2, 2, (.u 1), .rw, 254, 1, 0, 255, false⟩,
  ⟨0x180B, 3, 3, (.u 2), .rw, 0, 1, 0, 65535, false⟩,
  ⟨0x180B, 5, 5, (.u 2), .rw, 0, 1, 0, 65535, false⟩,
  ⟨0x180C, 0, 0, (.u 1), .cst, 5, 0, 0, 255, false⟩,
  ⟨0x180C, 1, 1, (.u 4), .rw, 2147483648, 1, 0, 4294967295, false⟩,
  ⟨0x180C, 2, 2, (.u 1), .rw, 254, 1, 0, 255, false⟩,
  ⟨0x180C, 3, 3, (.u 2), .rw, 0, 1, 0, 65535, false⟩,
  ⟨0x180C, 5, 5, (.u 2), .rw, 0, 1, 0, 65535, false⟩,
  ⟨0x180D, 0, 0, (.u 1), .cst, 5, 0, 0, 255, false⟩,
  ⟨0x180D, 1, 1, (.u 4), .rw, 2147483648, 1, 0, 4294967295, false⟩,
  ⟨0x180D, 2, 2, (.u 1), .rw, 254, 1, 0, 255, false⟩,
  ⟨0x180D, 3, 3, (.u 2), .rw, 0, 1, 0, 65535, false⟩,
  ⟨0x180D, 5, 5, (.u 2), .rw, 0, 1, 0, 65535, false⟩,
  ⟨0x180E, 0, 0, (.u 1), .cst, 5, 0, 0, 255, false⟩,
  ⟨0x180E, 1, 1, (.u 4), .rw, 2147483648, 1, 0, 4294967295, false⟩,
  ⟨0x180E, 2, 2, (.u 1), .rw, 254, 1, 0, 255, false⟩,
  ⟨0x180E, 3, 3, (.u 2), .rw, 0, 1, 0, 65535, false⟩,
  ⟨0x180E, 5, 5, (.u 2), .rw, 0, 1, 0, 65535, false⟩,
  ⟨0x180F, 0, 0, (.u 1), .cst, 5, 0, 0, 255, false⟩,
  ⟨0x180F, 1, 1, (.u 4), .rw, 2147483648, 1, 0, 4294967295, false⟩,
  ⟨0x180F, 2, 2, (.u 1), .rw, 254, 1, 0, 255, false⟩,
  ⟨0x180F, 3, 3, (.u 2), .rw, 0, 1, 0, 65535, false⟩,
  ⟨0x180F, 5, 5, (.u 2), .rw, 0, 1, 0, 65535, false⟩]

def od1Aa : List OdRow := [
  ⟨0x1A00, 0, 0, (.u 1), .rw, 0, 1, 0, 255, false⟩,
  ⟨0x1A00, 1, 64, (.u 4), .rw, 0, 1, 0, 4294967295, false⟩,
  ⟨0x1A01, 0, 0, (.u 1), .rw, 0, 1, 0, 255, false⟩,
  ⟨0x1A01, 1, 64, (.u 4), .rw, 0, 1, 0, 4294967295, false⟩,
  ⟨0x1A02, 0, 0, (.u 1), .rw, 0, 1, 0, 255, false⟩,
  ⟨0x1A02, 1, 64, (.u 4), .rw, 0, 1, 0, 4294967295, false⟩,
  ⟨0x1A03, 0, 0, (.u 1), .rw, 0, 1, 0, 255, false⟩,
  ⟨0x1A03, 1, 64, (.u 4), .rw, 0, 1, 0, 4294967295, false⟩,
  ⟨0x1A04, 0, 0, (.u 1), .rw, 0, 1, 0, 255, false⟩,
  ⟨0x1A04, 1, 64, (.u 4), .rw, 0, 1, 0, 4294967295, false⟩,
  ⟨0x1A05, 0, 0, (.u 1), .rw, 0, 1, 0, 255, false⟩,
  ⟨0x1A05, 1, 64, (.u 4), .rw, 0, 1, 0, 4294967295, false⟩,
  ⟨0x1A06, 0, 0, (.u 1), .rw, 0, 1, 0, 255, false⟩,
  ⟨0x1A06, 1, 64, (.u 4), .rw, 0, 1, 0, 4294967295, false⟩,
  ⟨0x1A07, 0, 0, (.u 1), .rw, 0, 1, 0, 255, false⟩,
  ⟨0x1A07, 1, 64, (.u 4), .rw, 0, 1, 0, 4294967295, false⟩,
  ⟨0x1A08, 0, 0, (.u 1), .rw, 4, 1, 0, 255, false⟩,
  ⟨0x1A08, 1, 1, (.u 4), .rw, 571474208, 1, 0, 4294967295, false⟩,
  ⟨0x1A08, 2, 2, (.u 4), .rw, 571474464, 1, 0, 4294967295, false⟩,
  ⟨0x1A08, 3, 3, (.u 4), .rw, 571474704, 1, 0, 4294967295, false⟩,
  ⟨0x1A08, 4, 4, (.u 4), .rw, 571474960, 1, 0, 4294967295, false⟩,
  ⟨0x1A08, 5, 64, (.u 4), .rw, 0, 1, 0, 4294967295, false⟩,
  ⟨0x1A09, 0, 0, (.u 1), .rw, 0, 1, 0, 255, false⟩,
  ⟨0x1A09, 1, 64, (.u 4), .rw, 0, 1, 0, 4294967295, false⟩,
  ⟨0x1A0A, 0, 0, (.u 1), .rw, 0, 1, 0, 255, false⟩,
  ⟨0x1A0A, 1, 64, (.u 4), .rw, 0, 1, 0, 4294967295, false⟩,
  ⟨0x1A0B, 0, 0, (.u 1), .rw, 0, 1, 0, 255, false⟩,
  ⟨0x1A0B, 1, 64, (.u 4), .rw, 0, 1, 0, 4294967295, false⟩,
  ⟨0x1A0C, 0, 0, (.u 1), .rw, 0, 1, 0, 255, false⟩,
  ⟨0x1A0C, 1, 64, (.u 4), .rw, 0, 1, 0, 4294967295, false⟩,
  ⟨0x1A0D, 0, 0, (.u 1), .rw, 0, 1, 0, 255, false⟩,
  ⟨0x1A0D, 1, 64, (.u 4), .rw, 0, 1, 0, 4294967295, false⟩,
  ⟨0x1A0E, 0, 0, (.u 1), .rw, 0, 1, 0, 255, false⟩,
  ⟨0x1A0E, 1, 64, (.u 4), .rw, 0, 1, 0, 4294967295, false⟩,
  ⟨0x1A0F, 0, 0, (.u 1), .rw, 0, 1, 0, 255, false⟩,
  ⟨0x1A0F, 1, 64, (.u 4), .rw, 0, 1, 0, 4294967295, false⟩]

def od20a : List OdRow := [
  ⟨0x2020, 1, 1, (.u 1), .rw, 0, 1, 0, 3, false⟩,
  ⟨0x2020, 2, 2, (.u 1), .rw, 0, 1, 0, 1, false⟩,
  ⟨0x2020, 3, 3, (.u 2), .rw, 50, 1, 5, 1000, false⟩,
  ⟨0x2020, 4, 5, (.i 4), .rw, 0, 1, -2147483648, 2147483647, false⟩,
  ⟨0x2020, 6, 7, (.u 4), .rw, 0, 1, 0, 4294967295, false⟩,
  ⟨0x2020, 8, 8, (.u 2), .rw, 60, 1, 10, 3600, false⟩,
  ⟨0x2020, 9, 9, (.u 2), .rw, 100, 1, 10, 1000, false⟩,
  ⟨0x2021, 1, 1, (.u 1), .wo, 0, 1, 1, 2, false⟩,
  ⟨0x2021, 2, 2, (.u 2), .rw, 0, 1, 50, 10000, false⟩,
  ⟨0x2021, 3, 3, (.u 1), .ro, 0, 0, 0, 255, false⟩,
  ⟨0x2022, 1, 1, (.i 4), .ro, 0, 0, -2147483648, 2147483647, false⟩,
  ⟨0x2022, 2, 2, (.u 1), .ro, 0, 0, 0, 255, false⟩]

def od21a : List OdRow := [
  ⟨0x2100, 1, 1, (.i 4), .ro, 0, 0, -2147483648, 2147483647, false⟩,
  ⟨0x2100, 2, 2, (.i 4), .ro, 0, 0, -2147483648, 2147483647, false⟩,
  ⟨0x2100, 3, 3, (.u 4), .ro, 0, 0, 0, 4294967295, false⟩,
  ⟨0x2101, 1, 128, (.i 4), .ro, 0, 0, -2147483648, 2147483647, false⟩,
  ⟨0x2102, 1, 128, (.i 4), .ro, 0, 0, -2147483648, 2147483647, false⟩,
  ⟨0x2103, 1, 128, (.i 4), .ro, 0, 0, -2147483648, 2147483647, false⟩,
  ⟨0x2104, 1, 1, (.i 4), .rw, 0, 2, -2147483648, 2147483647, false⟩,
  ⟨0x2104, 2, 2, (.i 4), .ro, 0, 0, -2147483648, 2147483647, false⟩,
  ⟨0x2104, 3, 3, (.i 4), .ro, 0, 0, -2147483648, 2147483647, false⟩,
  ⟨0x2104, 4, 4, (.i 4), .rw, 0, 2, -2147483648, 2147483647, false⟩,
  ⟨0x2105, 1, 1, (.u 1), .rw, 2, 2, 2, 128, false⟩,
  ⟨0x2105, 2, 2, (.u 4), .ro, 0, 0, 0, 4294967295, false⟩,
  ⟨0x2105, 3, 3, (.u 4), .ro, 0, 0, 0, 4294967295, false⟩,
  ⟨0x2105, 4, 4, (.u 4), .wo, 0, 2, 0, 4294967295, false⟩,
  ⟨0x2105, 5, 5, .bool, .rw, 1, 1, 0, 1, false⟩,
  ⟨0x2106, 1, 128, (.u 1), .ro, 0, 0, 0, 255, false⟩,
  ⟨0x2107, 1, 1, (.u 1), .rw, 0, 1, 0, 1, false⟩,
  ⟨0x2107, 2, 2, (.u 4), .rw, 300000, 1, 50000, 500000, false⟩,
  ⟨0x2107, 3, 3, (.u 1), .ro, 0, 0, 0, 255, false⟩,
  ⟨0x2107, 4, 4, (.u 1), .ro, 0, 0, 0, 255, false⟩,
  ⟨0x2107, 5, 5, (.u 4), .rw, 500000, 1, 0, 5000000, false⟩,
  ⟨0x2108, 1, 1, (.i 4), .rw, 0, 2, -2147483648, 2147483647, false⟩,
  ⟨0x2109, 1, 1, (.u 1), .rw, 255, 1, 0, 51, true⟩,
  ⟨0x2109, 2, 2, (.u 1), .rw, 255, 1, 0, 51, true⟩,
  ⟨0x2109, 3, 3, (.u 1), .rw, 3, 1, 0, 255, false⟩]

def od22a : List OdRow := [
  ⟨0x2200, 1, 1, (.u 4), .rw, 1000000, 1, 100000, 20000000, false⟩,
  ⟨0x2200, 2, 2, (.u 4), .rw, 800000, 1, 100000, 2000000, false⟩,
  ⟨0x2200, 3, 3, (.u 4), .rw, 1000000, 1, 200000, 4000000, false⟩,
  ⟨0x2200, 4, 4, (.u 2), .rw, 3000, 1, 100, 10000, false⟩,
  ⟨0x2201, 1, 1, (.u 4), .rw, 300000, 1, 10000, 630000, false⟩,
  ⟨0x2201, 2, 2, (.u 4), .rw, 300000, 1, 10000, 630000, false⟩,
  ⟨0x2201, 3, 3, (.u 2), .rw, 50, 1, 0, 65535, false⟩,
  ⟨0x2202, 1, 1, (.u 4), .rw, 1000, 1, 100, 10000, false⟩,
  ⟨0x2202, 2, 2, (.u 4), .rw, 3000, 1, 500, 20000, false⟩,
  ⟨0x2202, 3, 3, (.u 2), .rw, 200, 1, 0, 5000, false⟩,
  ⟨0x2202, 4, 4, (.u 4), .rw, 50000, 1, 5000, 300000, false⟩,
  ⟨0x2202, 5, 5, .bool, .rw, 0, 1, 0, 1, false⟩,
  ⟨0x2204, 1, 1, (.u 2), .rw, 0, 1, 0, 65535, false⟩,
  ⟨0x2204, 2, 2, (.i 4), .rw, 0, 1, -2147483648, 2147483647, false⟩,
  ⟨0x2204, 3, 3, (.u 2), .rw, 0, 1, 0, 65535, false⟩,
  ⟨0x2204, 4, 4, (.u 4), .rw, 20000, 1, 0, 50000, false⟩,
  ⟨0x2205, 1, 1, (.u 8), .wo, 0, 0, 0, 18446744073709551615, false⟩,
  ⟨0x2206, 1, 1, (.u 4), .ro, 0, 0, 0, 4294967295, false⟩,
  ⟨0x2206, 2, 2, (.i 4), .ro, 0, 0, -2147483648, 2147483647, false⟩,
  ⟨0x2206, 3, 3, (.u 4), .ro, 0, 0, 0, 4294967295, false⟩,
  ⟨0x2206, 4, 4, (.i 4), .ro, 0, 0, -2147483648, 2147483647, false⟩,
  ⟨0x2206, 5, 5, (.i 4), .ro, 0, 0, -2147483648, 2147483647, false⟩,
  ⟨0x2206, 6, 6, (.u 4), .ro, 0, 0, 0, 4294967295, false⟩,
  ⟨0x2210, 1, 1, (.i 4), .ro, 0, 0, -2147483648, 2147483647, false⟩,
  ⟨0x2210, 2, 2, (.i 4), .ro, 0, 0, -2147483648, 2147483647, false⟩,
  ⟨0x2210, 3, 3, (.u 2), .ro, 0, 0, 0, 65535, false⟩,
  ⟨0x2210, 4, 4, (.u 2), .ro, 0, 0, 0, 65535, false⟩,
  ⟨0x2210, 5, 5, (.u 1), .rw, 2, 1, 0, 255, false⟩,
  ⟨0x2210, 6, 6, (.u 1), .rw, 0, 1, 0, 1, false⟩,
  ⟨0x2210, 7, 7, (.u 2), .rw, 10, 1, 2, 100, false⟩,
  ⟨0x2211, 1, 1, (.u 2), .rw, 0, 0, 0, 65535, false⟩,
  ⟨0x2211, 2, 2, (.i 4), .rw, 0, 0, -2147483648, 2147483647, false⟩,
  ⟨0x2211, 3, 3, (.u 2), .rw, 0, 0, 0, 65535, false⟩]

def od23a : List OdRow := [
  ⟨0x2300, 1, 1, (.u 4), .ro, 0, 0, 0, 4294967295, false⟩,
  ⟨0x2310, 1, 1, (.u 4), .ro, 0, 0, 0, 4294967295, false⟩,
  ⟨0x2300, 2, 2, (.u 4), .rw, 500000, 1, 50000, 1200000, false⟩,
  ⟨0x2310, 2, 2, (.u 4), .rw, 500000, 1, 50000, 1200000, false⟩,
  ⟨0x2300, 3, 3, (.u 4), .rw, 400000, 1, 50000, 1200000, false⟩,
  ⟨0x2310, 3, 3, (.u 4), .rw, 400000, 1, 50000, 1200000, false⟩,
  ⟨0x2300, 4, 4, (.u 4), .rw, 800000, 1, 100000, 3000000, false⟩,
  ⟨0x2310, 4, 4, (.u 4), .rw, 800000, 1, 100000, 3000000, false⟩,
  ⟨0x2300, 5, 5, (.u 4), .rw, 2000000, 1, 500000, 5000000, false⟩,
  ⟨0x2310, 5, 5, (.u 4), .rw, 2000000, 1, 500000, 5000000, false⟩,
  ⟨0x2300, 6, 6, (.u 2), .rw, 20, 1, 0, 200, false⟩,
  ⟨0x2310, 6, 6, (.u 2), .rw, 20, 1, 0, 200, false⟩,
  ⟨0x2301, 1, 1, (.u 2), .rw, 10000, 0, 1000, 10000, false⟩,
  ⟨0x2311, 1, 1, (.u 2), .rw, 10000, 0, 1000, 10000, false⟩,
  ⟨0x2301, 2, 2, (.u 2), .rw, 4000, 1, 1000, 4000, false⟩,
  ⟨0x2311, 2, 2, (.u 2), .rw, 4000, 1, 1000, 4000, false⟩,
  ⟨0x2301, 3, 3, (.u 2), .rw, 150, 1, 50, 150, false⟩,
  ⟨0x2311, 3, 3, (.u 2), .rw, 150, 1, 50, 150, false⟩,
  ⟨0x2301, 4, 4, (.u 2), .rw, 1000, 1, 0, 65535, false⟩,
  ⟨0x2311, 4, 4, (.u 2), .rw, 1000, 1, 0, 65535, false⟩,
  ⟨0x2301, 5, 5, (.u 1), .rw, 30, 1, 0, 100, false⟩,
  ⟨0x2311, 5, 5, (.u 1), .rw, 30, 1, 0, 100, false⟩,
  ⟨0x2301, 6, 6, (.u 1), .rw, 20, 1, 0, 100, false⟩,
  ⟨0x2311, 6, 6, (.u 1), .rw, 20, 1, 0, 100, false⟩,
  ⟨0x2301, 7, 7, (.u 2), .rw, 1500, 1, 100, 60000, false⟩,
  ⟨0x2311, 7, 7, (.u 2), .rw, 1500, 1, 100, 60000, false⟩,
  ⟨0x2302, 1, 1, (.u 2), .rw, 40, 1, 10, 150, false⟩,
  ⟨0x2312, 1, 1, (.u 2), .rw, 40, 1, 10, 150, false⟩,
  ⟨0x2302, 2, 2, (.u 2), .rw, 20, 1, 4, 200, false⟩,
  ⟨0x2312, 2, 2, (.u 2), .rw, 20, 1, 4, 200, false⟩,
  ⟨0x2302, 3, 3, (.u 1), .rw, 50, 1, 10, 90, false⟩,
  ⟨0x2312, 3, 3, (.u 1), .rw, 50, 1, 10, 90, false⟩,
  ⟨0x2302, 4, 4, (.u 2), .rw, 5461, 1, 1024, 16384, false⟩,
  ⟨0x2312, 4, 4, (.u 2), .rw, 5461, 1, 1024, 16384, false⟩,
  ⟨0x2302, 5, 5, (.u 4), .rw, 10000, 1, 1000, 50000, false⟩,
  ⟨0x2312, 5, 5, (.u 4), .rw, 10000, 1, 1000, 50000, false⟩,
  ⟨0x2302, 7, 7, (.u 4), .rw, 15000, 1, 2000, 50000, false⟩,
  ⟨0x2312, 7, 7, (.u 4), .rw, 15000, 1, 2000, 50000, false⟩,
  ⟨0x2302, 8, 8, (.u 2), .rw, 500, 1, 100, 5000, false⟩,
  ⟨0x2312, 8, 8, (.u 2), .rw, 500, 1, 100, 5000, false⟩]

def od23b : List OdRow := [
  ⟨0x2303, 1, 1, (.u 1), .rw, 255, 1, 0, 51, true⟩,
  ⟨0x2313, 1, 1, (.u 1), .rw, 255, 1, 0, 51, true⟩,
  ⟨0x2303, 2, 2, .bool, .rw, 1, 1, 0, 1, false⟩,
  ⟨0x2313, 2, 2, .bool, .rw, 1, 1, 0, 1, false⟩,
  ⟨0x2304, 1, 1, (.u 8), .wo, 0, 0, 0, 18446744073709551615, false⟩,
  ⟨0x2314, 1, 1, (.u 8), .wo, 0, 0, 0, 18446744073709551615, false⟩,
  ⟨0x2305, 1, 1, (.u 4), .ro, 0, 0, 0, 4294967295, false⟩,
  ⟨0x2315, 1, 1, (.u 4), .ro, 0, 0, 0, 4294967295, false⟩,
  ⟨0x2305, 2, 2, (.i 4), .ro, 0, 0, -2147483648, 2147483647, false⟩,
  ⟨0x2315, 2, 2, (.i 4), .ro, 0, 0, -2147483648, 2147483647, false⟩,
  ⟨0x2306, 1, 64, (.u 4), .rw, 0, 1, 0, 4294967295, false⟩,
  ⟨0x2316, 1, 64, (.u 4), .rw, 0, 1, 0, 4294967295, false⟩,
  ⟨0x2307, 1, 128, (.u 4), .rw, 0, 1, 0, 4294967295, false⟩,
  ⟨0x2317, 1, 128, (.u 4), .rw, 0, 1, 0, 4294967295, false⟩]

def od24a : List OdRow := [
  ⟨0x2400, 1, 1, .bool, .rw, 1, 1, 0, 1, false⟩,
  ⟨0x2400, 2, 2, (.u 1), .ro, 0, 0, 0, 255, false⟩,
  ⟨0x2400, 3, 3, (.u 1), .ro, 0, 0, 0, 255, false⟩,
  ⟨0x2400, 4, 4, .bool, .rw, 0, 1, 0, 1, false⟩,
  ⟨0x2401, 1, 192, (.u 1), .rw, 0, 1, 0, 255, false⟩,
  ⟨0x2402, 1, 192, (.u 1), .rw, 0, 2, 0, 255, false⟩,
  ⟨0x2403, 1, 1, .bool, .wo, 0, 1, 0, 1, false⟩,
  ⟨0x2403, 2, 2, (.u 1), .ro, 0, 0, 0, 255, false⟩,
  ⟨0x2403, 3, 3, (.u 4), .wo, 0, 1, 0, 4294967295, false⟩,
  ⟨0x2404, 1, 1, (.u 1), .rw, 0, 1, 0, 255, false⟩,
  ⟨0x2404, 2, 2, (.u 1), .rw, 0, 1, 0, 255, false⟩,
  ⟨0x2405, 1, 192, (.u 4), .ro, 0, 0, 0, 4294967295, false⟩,
  ⟨0x2406, 1, 192, (.u 2), .ro, 0, 0, 0, 65535, false⟩]

def od25a : List OdRow := [
  ⟨0x2500, 1, 1, (.u 1), .rw, 1, 1, 1, 16, false⟩,
  ⟨0x2500, 2, 2, (.u 1), .rw, 0, 1, 0, 1, false⟩,
  ⟨0x2500, 3, 3, (.u 2), .rw, 20, 1, 5, 100, false⟩,
  ⟨0x2500, 4, 4, (.u 2), .rw, 500, 1, 100, 5000, false⟩,
  ⟨0x2500, 5, 5, (.u 4), .rw, 20000, 1, 0, 4294967295, false⟩,
  ⟨0x2500, 6, 6, (.u 2), .rw, 350, 1, 250, 2000, false⟩,
  ⟨0x2501, 1, 1, (.u 2), .rw, 4, 1, 0, 1000, false⟩,
  ⟨0x2501, 2, 2, (.u 2), .rw, 2, 1, 0, 1000, false⟩,
  ⟨0x2501, 3, 3, (.u 2), .rw, 1, 1, 0, 1000, false⟩,
  ⟨0x2501, 4, 4, (.u 4), .rw, 2000, 1, 0, 1000000, false⟩,
  ⟨0x2501, 5, 5, (.u 2), .rw, 100, 1, 0, 10000, false⟩,
  ⟨0x2501, 6, 6, (.u 2), .rw, 0, 1, 0, 65535, false⟩,
  ⟨0x2501, 7, 7, (.u 2), .rw, 1000, 1, 100, 10000, false⟩,
  ⟨0x2501, 8, 8, (.u 1), .rw, 75, 1, 40, 150, false⟩,
  ⟨0x2502, 1, 1, (.u 2), .rw, 5000, 1, 0, 60000, false⟩,
  ⟨0x2502, 2, 2, (.u 2), .rw, 1000, 1, 0, 10000, false⟩,
  ⟨0x2502, 3, 3, (.u 2), .rw, 800, 1, 0, 10000, false⟩,
  ⟨0x2502, 4, 4, (.u 2), .rw, 2000, 1, 0, 60000, false⟩,
  ⟨0x2503, 1, 128, (.u 1), .rw, 29, 1, 0, 255, false⟩,
  ⟨0x2504, 1, 1, (.u 1), .ro, 0, 0, 0, 255, false⟩,
  ⟨0x2504, 2, 2, (.u 1), .ro, 0, 0, 0, 255, false⟩,
  ⟨0x2504, 3, 3, (.u 2), .ro, 0, 0, 0, 65535, false⟩]

def od26a : List OdRow := [
  ⟨0x2600, 1, 52, (.u 1), .rw, 0, 1, 0, 1, false⟩,
  ⟨0x2601, 1, 52, (.u 1), .rw, 30, 1, 0, 255, false⟩,
  ⟨0x2602, 1, 48, (.u 1), .rw, 0, 1, 0, 255, false⟩,
  ⟨0x2603, 1, 32, (.u 1), .rw, 0, 1, 0, 255, false⟩,
  ⟨0x2604, 1, 1, (.u 8), .ro, 0, 0, 0, 18446744073709551615, false⟩,
  ⟨0x2604, 2, 2, (.u 4), .rw, 0, 0, 0, 4294967295, false⟩,
  ⟨0x2604, 3, 3, (.u 8), .ro, 0, 0, 0, 18446744073709551615, false⟩,
  ⟨0x2605, 1, 1, (.u 1), .wo, 0, 0, 0, 255, false⟩,
  ⟨0x2606, 1, 2, (.u 2), .ro, 0, 0, 0, 65535, false⟩,
  ⟨0x2607, 1, 1, (.u 8), .rw, 0, 1, 0, 18446744073709551615, false⟩]

def od27a : List OdRow := [
  ⟨0x2700, 1, 1, (.u 4), .wo, 0, 2, 0, 4294967295, false⟩,
  ⟨0x2700, 2, 2, (.u 4), .ro, 0, 0, 0, 4294967295, false⟩,
  ⟨0x2700, 3, 3, (.u 4), .ro, 0, 0, 0, 4294967295, false⟩,
  ⟨0x2700, 4, 4, (.u 1), .ro, 3, 0, 0, 255, false⟩,
  ⟨0x2700, 5, 5, (.u 4), .ro, 0, 0, 0, 4294967295, false⟩,
  ⟨0x2700, 6, 6, .bool, .wo, 0, 2, 0, 1, false⟩,
  ⟨0x2701, 1, 1, (.u 4), .rw, 50000, 2, 10000, 100000, false⟩,
  ⟨0x2701, 2, 2, (.u 4), .rw, 50000, 2, 10000, 200000, false⟩,
  ⟨0x2701, 3, 3, (.u 1), .rw, 2, 2, 0, 10, false⟩,
  ⟨0x2701, 4, 4, (.u 4), .rw, 30000, 2, 5000, 50000, false⟩,
  ⟨0x2701, 5, 5, (.i 4), .rw, 1, 2, -2147483648, 2147483647, false⟩,
  ⟨0x2701, 6, 6, (.u 2), .rw, 1, 2, 1, 65535, false⟩,
  ⟨0x2701, 7, 7, (.u 1), .rw, 0, 2, 0, 255, false⟩,
  ⟨0x2702, 1, 192, (.u 1), .rw, 255, 2, 0, 255, false⟩,
  ⟨0x2703, 1, 1, (.u 4), .rw, 20000, 2, 5000, 150000, false⟩,
  ⟨0x2704, 1, 1, (.u 4), .rw, 100000, 2, 20000, 200000, false⟩,
  ⟨0x2704, 2, 2, (.u 4), .rw, 300000, 2, 0, 800000, false⟩,
  ⟨0x2704, 3, 3, (.u 4), .rw, 100000, 2, 0, 300000, false⟩,
  ⟨0x2705, 1, 1, (.u 4), .rw, 1000000, 2, 100000, 20000000, false⟩,
  ⟨0x2705, 2, 2, (.u 1), .rw, 105, 2, 101, 115, false⟩,
  ⟨0x2705, 3, 3, (.u 1), .rw, 110, 2, 102, 120, false⟩,
  ⟨0x2705, 4, 4, (.u 4), .rw, 500000, 2, 200000, 2000000, false⟩,
  ⟨0x2706, 1, 1, (.u 4), .rw, 1000000, 2, 200000, 2000000, false⟩,
  ⟨0x2706, 2, 2, (.u 4), .rw, 300000, 2, 50000, 1000000, false⟩,
  ⟨0x2707, 1, 1, (.u 4), .rw, 630000, 2, 100000, 630000, false⟩,
  ⟨0x2707, 2, 2, (.u 4), .rw, 300000, 2, 100000, 630000, false⟩,
  ⟨0x2707, 3, 3, (.u 4), .rw, 200000, 2, 0, 2000000, false⟩,
  ⟨0x2708, 1, 1, (.u 2), .rw, 10000, 2, 1000, 10000, false⟩,
  ⟨0x2708, 2, 2, (.u 2), .rw, 4000, 2, 1000, 4000, false⟩,
  ⟨0x2708, 3, 3, (.u 2), .rw, 150, 2, 50, 150, false⟩,
  ⟨0x2709, 1, 7, (.u 1), .rw, 0, 2, 0, 8, false⟩,
  ⟨0x2709, 8, 8, (.u 1), .rw, 8, 2, 0, 8, false⟩,
  ⟨0x2709, 9, 9, (.u 1), .rw, 20, 2, 5, 40, false⟩,
  ⟨0x2709, 10, 10, (.u 1), .rw, 0, 2, 0, 63, false⟩,
  ⟨0x270F, 1, 1, (.u 4), .ro, 0, 0, 0, 4294967295, false⟩,
  ⟨0x270F, 2, 2, (.u 4), .ro, 0, 0, 0, 4294967295, false⟩,
  ⟨0x2710, 1, 1, (.u 1), .rw, 3, 2, 1, 3, false⟩,
  ⟨0x2711, 1, 1, (.u 2), .rw, 300, 2, 0, 2000, false⟩,
  ⟨0x2711, 2, 2, (.u 1), .rw, 50, 2, 20, 100, false⟩,
  ⟨0x2711, 3, 3, (.u 2), .rw, 100, 2, 20, 1000, false⟩]

def od27b : List OdRow := [
  ⟨0x2711, 4, 4, (.u 2), .rw, 100, 2, 0, 1000, false⟩,
  ⟨0x2712, 1, 2, (.u 1), .rw, 255, 2, 0, 51, true⟩,
  ⟨0x2712, 3, 3, (.u 1), .rw, 3, 2, 0, 255, false⟩,
  ⟨0x2712, 4, 4, (.u 2), .rw, 500, 2, 100, 2000, false⟩,
  ⟨0x2712, 5, 5, (.u 2), .rw, 300, 2, 50, 2000, false⟩,
  ⟨0x2712, 6, 7, (.u 1), .rw, 255, 2, 0, 51, true⟩,
  ⟨0x2713, 1, 1, (.u 2), .rw, 10000, 2, 1000, 60000, false⟩,
  ⟨0x2715, 1, 1, (.u 1), .rw, 24, 2, 1, 168, false⟩,
  ⟨0x2715, 2, 2, (.u 2), .rw, 2000, 2, 500, 10000, false⟩,
  ⟨0x2715, 3, 3, (.u 4), .rw, 50000, 2, 10000, 200000, false⟩,
  ⟨0x2715, 4, 4, (.u 1), .rw, 0, 2, 0, 1, false⟩,
  ⟨0x2715, 5, 5, (.u 4), .rw, 2000, 2, 500, 5000, false⟩,
  ⟨0x270A, 1, 8, (.u 1), .rw, 0, 2, 0, 255, false⟩,
  ⟨0x270A, 9, 9, (.u 2), .rw, 300, 2, 100, 400, false⟩,
  ⟨0x270A, 10, 10, (.u 2), .rw, 100, 2, 20, 1000, false⟩]

def od28a : List OdRow := [
  ⟨0x2800, 1, 1, (.u 8), .ro, 0, 0, 0, 18446744073709551615, false⟩,
  ⟨0x2800, 2, 2, (.u 4), .ro, 0, 0, 0, 4294967295, false⟩,
  ⟨0x2800, 3, 3, (.u 4), .ro, 0, 0, 0, 4294967295, false⟩,
  ⟨0x2801, 1, 16, (.u 4), .rw, 0, 1, 0, 4294967295, false⟩,
  ⟨0x2802, 1, 1, (.u 4), .wo, 0, 0, 0, 4294967295, false⟩,
  ⟨0x2802, 2, 2, (.u 2), .ro, 0, 0, 0, 65535, false⟩,
  ⟨0x2803, 1, 44, (.u 4), .rw, 0, 1, 0, 4294967295, false⟩,
  ⟨0x2804, 1, 73, (.u 4), .ro, 0, 0, 0, 4294967295, false⟩,
  ⟨0x2805, 1, 44, (.u 2), .ro, 65535, 0, 0, 65535, false⟩]

def od29a : List OdRow := [
  ⟨0x2900, 1, 1, (.u 1), .ro, 0, 0, 0, 255, false⟩,
  ⟨0x2900, 2, 2, (.u 4), .ro, 0, 0, 0, 4294967295, false⟩,
  ⟨0x2900, 3, 3, (.u 1), .ro, 0, 0, 0, 255, false⟩,
  ⟨0x2900, 4, 4, (.u 4), .ro, 0, 0, 0, 4294967295, false⟩,
  ⟨0x2900, 5, 5, (.u 2), .ro, 0, 0, 0, 65535, false⟩,
  ⟨0x2900, 6, 6, (.u 1), .ro, 0, 0, 0, 255, false⟩,
  ⟨0x2901, 1, 1, (.u 1), .wo, 0, 1, 0, 255, false⟩,
  ⟨0x2901, 2, 2, (.u 1), .ro, 0, 0, 0, 255, false⟩,
  ⟨0x2901, 3, 3, (.u 2), .rw, 200, 1, 10, 5000, false⟩,
  ⟨0x2901, 4, 4, .bool, .rw, 0, 2, 0, 1, false⟩,
  ⟨0x2903, 1, 1, (.u 1), .ro, 0, 0, 0, 255, false⟩,
  ⟨0x2903, 2, 2, (.u 2), .ro, 65535, 0, 0, 65535, false⟩,
  ⟨0x2904, 1, 1, (.u 8), .wo, 0, 1, 0, 18446744073709551615, false⟩,
  ⟨0x2904, 2, 2, (.u 1), .ro, 0, 0, 0, 255, false⟩,
  ⟨0x2904, 3, 3, (.u 1), .rw, 0, 1, 0, 1, false⟩,
  ⟨0x2904, 4, 4, (.u 1), .ro, 0, 0, 0, 255, false⟩,
  ⟨0x2904, 5, 5, (.u 4), .rw, 5000, 1, 1000, 20000, false⟩,
  ⟨0x2904, 6, 6, (.u 4), .rw, 0, 1, 0, 4294967295, false⟩,
  ⟨0x2906, 1, 1, .dom, .rw, 0, 0, 0, 0, false⟩]

def od2Fa : List OdRow := [
  ⟨0x2F00, 1, 1, (.u 4), .wo, 0, 0, 0, 4294967295, false⟩,
  ⟨0x2F00, 2, 2, (.u 4), .ro, 0, 0, 0, 4294967295, false⟩,
  ⟨0x2F01, 1, 1, .bool, .wo, 0, 1, 0, 1, false⟩,
  ⟨0x2F10, 1, 1, (.u 1), .rw, 1, 1, 0, 2, false⟩,
  ⟨0x2F10, 2, 2, (.u 1), .rw, 1, 1, 1, 127, false⟩,
  ⟨0x2F10, 3, 3, (.u 1), .rw, 2, 1, 0, 4, false⟩,
  ⟨0x2F10, 4, 4, (.u 1), .rw, 1, 1, 0, 3, false⟩,
  ⟨0x2F10, 5, 5, .bool, .rw, 0, 1, 0, 1, false⟩,
  ⟨0x2F11, 1, 1, (.u 1), .rw, 1, 1, 0, 2, false⟩,
  ⟨0x2F11, 2, 2, (.u 1), .rw, 16, 1, 1, 127, false⟩,
  ⟨0x2F11, 3, 3, (.u 1), .rw, 1, 1, 0, 4, false⟩,
  ⟨0x2F11, 4, 4, (.u 1), .rw, 2, 1, 0, 3, false⟩,
  ⟨0x2F11, 5, 5, .bool, .rw, 1, 1, 0, 1, false⟩,
  ⟨0x2F20, 1, 1, (.u 4), .rw, 3232300545, 1, 0, 4294967295, false⟩,
  ⟨0x2F20, 2, 2, (.u 4), .rw, 4294967040, 1, 0, 4294967295, false⟩,
  ⟨0x2F20, 3, 3, (.u 4), .rw, 0, 1, 0, 4294967295, false⟩,
  ⟨0x2F20, 4, 4, (.u 2), .rw, 41280, 1, 1024, 65535, false⟩,
  ⟨0x2F40, 1, 16, (.u 2), .rw, 0, 1, 0, 65535, false⟩]

/-- The CiA 417 objects of R323 at the indices of lift 1: the car controller, the position unit, the load measuring unit, the call
controller; sub-index u of the door objects is door unit u. (PRESUMED, log 52) -/
def od60a : List OdRow := [
  ⟨0x6030, 0, 0, (.i 4), .ro, 0, 0, -2147483648, 2147483647, false⟩,
  ⟨0x6031, 0, 0, (.i 4), .ro, 0, 0, -2147483648, 2147483647, false⟩,
  ⟨0x6032, 0, 0, (.u 4), .ro, 0, 0, 0, 4294967295, false⟩,
  ⟨0x6033, 0, 0, (.u 4), .rw, 0, 0, 0, 4294967295, false⟩,
  ⟨0x6040, 0, 0, (.u 4), .wo, 0, 0, 0, 4294967295, false⟩,
  ⟨0x6041, 0, 0, (.u 4), .rw, 0, 0, 0, 4294967295, false⟩]
def od63a : List OdRow := [
  ⟨0x6300, 1, 2, (.u 2), .wo, 0, 0, 0, 65535, false⟩,
  ⟨0x6301, 1, 2, (.u 4), .ro, 0, 0, 0, 4294967295, false⟩,
  ⟨0x6302, 1, 2, (.i 4), .ro, 0, 0, -2147483648, 2147483647, false⟩,
  ⟨0x6383, 0, 0, (.i 4), .ro, 0, 0, -2147483648, 2147483647, false⟩,
  ⟨0x6388, 0, 0, (.u 4), .ro, 0, 0, 0, 4294967295, false⟩,
  ⟨0x6390, 0, 0, (.i 4), .ro, 0, 0, -2147483648, 2147483647, false⟩]
def od64a : List OdRow := [
  ⟨0x6400, 0, 0, (.i 4), .ro, 0, 0, -2147483648, 2147483647, false⟩,
  ⟨0x6401, 0, 0, (.u 4), .ro, 0, 0, 0, 4294967295, false⟩]

/-- The rows of the indexes whose high byte is given. -/
def odRows : Nat → List OdRow
  | 0x10 => od10a
  | 0x13 => od13a
  | 0x14 => od14a ++ od14b
  | 0x16 => od16a
  | 0x18 => od18a ++ od18b
  | 0x1A => od1Aa
  | 0x20 => od20a
  | 0x21 => od21a
  | 0x22 => od22a
  | 0x23 => od23a ++ od23b
  | 0x24 => od24a
  | 0x25 => od25a
  | 0x26 => od26a
  | 0x27 => od27a ++ od27b
  | 0x28 => od28a
  | 0x29 => od29a
  | 0x2F => od2Fa
  | 0x60 => od60a
  | 0x63 => od63a
  | 0x64 => od64a
  | _ => []

/-- The index exists. -/
def odIndexExists (idx : Nat) : Bool := (odRows (idx / 256)).any (fun r => r.idx == idx)

/-- The row of an entry. -/
def odRow? (idx sub : Nat) : Option OdRow :=
  (odRows (idx / 256)).find? (fun r => r.idx == idx && r.lo ≤ sub && sub ≤ r.hi)

/-- The length of a type in bytes; 0 for the types of varying length. -/
def OdTy.len : OdTy → Nat
  | .bool => 1
  | .u n => n
  | .i n => n
  | .str => 0
  | .dom => 0

/-- The default of an entry; 0x2602 and 0x2603 map each logical channel to the pad of its own number. -/
def odDefault (idx sub : Nat) : Nat :=
  if idx = 0x2602 ∨ idx = 0x2603 then sub - 1
  else match odRow? idx sub with
    | some r => r.dflt
    | none => 0

end Sys2Proof.Machine
end

