-- ==== Sys2Proof/Machine/Regs.lean ====
section
/-! DEFINITION. The registers of the module, written out from the register tables of the spec's chapters (R6, R7, R14):
their addresses (R.…), their fields (F.…), and one descriptor for each register with the access code and the reset word
that its table gives. A register of a door or of a CAN port takes the instance first, then the array index. -/
namespace Sys2Proof.Machine

/-- The access codes of R7; `rwF` is RW, fixed while the door is driving (R138). -/
inductive Acc where
  | ro | rw | wo | w1c | w1s | rwp | rwi | rwl | rwF
  deriving DecidableEq, Repr

/-- A field of a register: the register's address, its highest and its lowest bit. -/
structure Fld where
  addr : Nat
  hi   : Nat
  lo   : Nat
  deriving DecidableEq, Repr

/-- The bits of a register that share an access code. -/
structure BitRun where
  hi  : Nat
  lo  : Nat
  acc : Acc
  deriving DecidableEq, Repr

/-- One line of a register table: base address, stride and count of its first and second array index, reset word,
whether only master 5 may write it, and the access code of each field. -/
structure RegDesc where
  base : Nat
  s1   : Nat
  n1   : Nat
  s2   : Nat
  n2   : Nat
  rst  : Nat
  m5   : Bool
  bits : List BitRun
  deriving DecidableEq, Repr

/-- The descriptor covers the address: `base + s1 * i + s2 * j` with both indices in range. -/
def RegDesc.covers (d : RegDesc) (a : Nat) : Bool :=
  d.base ≤ a &&
  let off := a - d.base
  let i := if d.s1 = 0 then 0 else off / d.s1
  let r := if d.s1 = 0 then off else off % d.s1
  let j := if d.s2 = 0 then 0 else r / d.s2
  let q := if d.s2 = 0 then r else r % d.s2
  decide (i < d.n1) && decide (j < d.n2) && q == 0

/-! ## Addresses -/

abbrev R.TICK_NOW_LO : Nat := 0x40010000
abbrev R.TICK_NOW_HI : Nat := 0x40010004
abbrev R.TICK_NUM_LO : Nat := 0x40010008
abbrev R.TICK_NUM_HI : Nat := 0x4001000C
abbrev R.TICK_STATUS : Nat := 0x40010010
abbrev R.TICK_MISS : Nat := 0x40010020
abbrev R.TICK_MISSCNT (n : Nat) : Nat := 0x40010040 + 4 * n
abbrev R.TICK_IRQ_FOX : Nat := 0x40010080
abbrev R.TICK_IRQ_MARTEN : Nat := 0x40010088
abbrev R.TICK_IRQEN_FOX : Nat := 0x40010084
abbrev R.TICK_IRQEN_MARTEN : Nat := 0x4001008C
abbrev R.TICK_ALARM (n : Nat) : Nat := 0x40010100 + 4 * n
abbrev R.POSX_LOCK : Nat := 0x40020000
abbrev R.POSX_IRQ : Nat := 0x40020010
abbrev R.POSX_IRQEN_FOX : Nat := 0x40020014
abbrev R.POSX_IRQEN_MARTEN : Nat := 0x40020018
abbrev R.POSX_CNT_CFG (n : Nat) : Nat := 0x40020100 + 64 * n
abbrev R.POSX_CNT_RAW (n : Nat) : Nat := 0x40020104 + 64 * n
abbrev R.POSX_CNT_STATUS (n : Nat) : Nat := 0x40020108 + 64 * n
abbrev R.POSX_CNT_SCALE (n : Nat) : Nat := 0x4002010C + 64 * n
abbrev R.POSX_CNT_OFFSET (n : Nat) : Nat := 0x40020110 + 64 * n
abbrev R.POSX_CNT_POS (n : Nat) : Nat := 0x40020114 + 64 * n
abbrev R.POSX_CNT_SPDCFG (n : Nat) : Nat := 0x40020118 + 64 * n
abbrev R.POSX_CNT_SPEED (n : Nat) : Nat := 0x4002011C + 64 * n
abbrev R.POSX_CNT_PERIOD (n : Nat) : Nat := 0x40020120 + 64 * n
abbrev R.POSX_ABS_CFG (n : Nat) : Nat := 0x40020200 + 64 * n
abbrev R.POSX_ABS_DELAY (n : Nat) : Nat := 0x40020204 + 64 * n
abbrev R.POSX_ABS_DATA_LO (n : Nat) : Nat := 0x40020208 + 64 * n
abbrev R.POSX_ABS_DATA_HI (n : Nat) : Nat := 0x4002020C + 64 * n
abbrev R.POSX_ABS_SCALE (n : Nat) : Nat := 0x40020210 + 64 * n
abbrev R.POSX_ABS_OFFSET (n : Nat) : Nat := 0x40020214 + 64 * n
abbrev R.POSX_ABS_POS (n : Nat) : Nat := 0x40020218 + 64 * n
abbrev R.POSX_ABS_STATUS (n : Nat) : Nat := 0x4002021C + 64 * n
abbrev R.POSX_FUSE_CFG : Nat := 0x40020300
abbrev R.POSX_FUSE_SOFTMIN : Nat := 0x40020304
abbrev R.POSX_FUSE_SOFTMAX : Nat := 0x40020308
abbrev R.POSX_FUSE_POS : Nat := 0x4002030C
abbrev R.POSX_FUSE_SPEED : Nat := 0x40020310
abbrev R.POSX_FUSE_OFFSET : Nat := 0x40020314
abbrev R.POSX_FUSE_INNOV : Nat := 0x40020318
abbrev R.POSX_FUSE_STATUS : Nat := 0x4002031C
abbrev R.POSX_HALL_CFG (n : Nat) : Nat := 0x40020400 + 16 * n
abbrev R.POSX_HALL_STATE (n : Nat) : Nat := 0x40020404 + 16 * n
abbrev R.POSX_HALL_PERIOD (n : Nat) : Nat := 0x40020408 + 16 * n
abbrev R.POSX_HALL_STAMP (n : Nat) : Nat := 0x4002040C + 16 * n
abbrev R.POSX_EMU_CFG : Nat := 0x40020500
abbrev R.POSX_EMU_RATIO : Nat := 0x40020504
abbrev R.POSX_EMU_STATUS : Nat := 0x40020508
abbrev R.CMPL_CMPIRQ : Nat := 0x40030010
abbrev R.CMPL_CMPEN_FOX : Nat := 0x40030014
abbrev R.CMPL_CMPEN_MARTEN : Nat := 0x40030018
abbrev R.CMPL_LATIRQ : Nat := 0x40030020
abbrev R.CMPL_LATEN_FOX : Nat := 0x40030024
abbrev R.CMPL_LATEN_MARTEN : Nat := 0x40030028
abbrev R.CMPL_CMP_CFG (n : Nat) : Nat := 0x40030100 + 16 * n
abbrev R.CMPL_CMP_VALUE (n : Nat) : Nat := 0x40030104 + 16 * n
abbrev R.CMPL_CMP_STATUS (n : Nat) : Nat := 0x40030108 + 16 * n
abbrev R.CMPL_CMP_STAMP (n : Nat) : Nat := 0x4003010C + 16 * n
abbrev R.CMPL_LAT_CFG (n : Nat) : Nat := 0x40030400 + 32 * n
abbrev R.CMPL_LAT_POS (n : Nat) : Nat := 0x40030404 + 32 * n
abbrev R.CMPL_LAT_RAW (n : Nat) : Nat := 0x40030408 + 32 * n
abbrev R.CMPL_LAT_TS_LO (n : Nat) : Nat := 0x4003040C + 32 * n
abbrev R.CMPL_LAT_TS_HI (n : Nat) : Nat := 0x40030410 + 32 * n
abbrev R.CMPL_LAT_STATUS (n : Nat) : Nat := 0x40030414 + 32 * n
abbrev R.CMPL_LAT_CTRL (n : Nat) : Nat := 0x40030418 + 32 * n
abbrev R.PGEN_CMD : Nat := 0x40040000
abbrev R.PGEN_TARGET : Nat := 0x40040004
abbrev R.PGEN_STATUS : Nat := 0x40040010
abbrev R.PGEN_IRQ : Nat := 0x40040018
abbrev R.PGEN_IRQEN_FOX : Nat := 0x4004001C
abbrev R.PGEN_IRQEN_MARTEN : Nat := 0x40040020
abbrev R.PGEN_TGT : Nat := 0x40040030
abbrev R.PGEN_COMP : Nat := 0x40040038
abbrev R.PGEN_REF_POS : Nat := 0x40040040
abbrev R.PGEN_REF_VEL : Nat := 0x40040044
abbrev R.PGEN_REF_ACC : Nat := 0x40040048
abbrev R.PGEN_REF_JERK : Nat := 0x4004004C
abbrev R.PGEN_VP : Nat := 0x40040050
abbrev R.PGEN_STOPDIST : Nat := 0x40040054
abbrev R.PGEN_REACH : Nat := 0x40040058
abbrev R.PGEN_TREM : Nat := 0x4004005C
abbrev R.PGEN_LIM_V : Nat := 0x40040060
abbrev R.PGEN_LIM_A : Nat := 0x40040064
abbrev R.PGEN_LIM_J : Nat := 0x40040068
abbrev R.PGEN_TGTLAND : Nat := 0x40040034
abbrev R.PGEN_SEG : Nat := 0x4004006C
abbrev R.CENG_STATUS : Nat := 0x40050000
abbrev R.CENG_BANKSEL : Nat := 0x40050004
abbrev R.CENG_BANKACT : Nat := 0x40050008
abbrev R.CENG_SCHED : Nat := 0x4005000C
abbrev R.CENG_IRQ : Nat := 0x40050010
abbrev R.CENG_IRQEN_FOX : Nat := 0x40050014
abbrev R.CENG_IRQEN_MARTEN : Nat := 0x40050018
abbrev R.CENG_SETP (n : Nat) : Nat := 0x40050040 + 4 * n
abbrev R.CENG_VAR (n : Nat) : Nat := 0x40050060 + 4 * n
abbrev R.CENG_SLOT_CFG (n : Nat) : Nat := 0x40050200 + 128 * n
abbrev R.CENG_SLOT_SRC (n : Nat) : Nat := 0x40050204 + 128 * n
abbrev R.CENG_SLOT_STATUS (n : Nat) : Nat := 0x40050208 + 128 * n
abbrev R.CENG_SLOT_OVR (n : Nat) : Nat := 0x4005020C + 128 * n
abbrev R.CENG_SLOT_ERR (n : Nat) : Nat := 0x40050210 + 128 * n
abbrev R.CENG_SLOT_INTEG (n : Nat) : Nat := 0x40050214 + 128 * n
abbrev R.CENG_SLOT_OUT (n : Nat) : Nat := 0x40050218 + 128 * n
abbrev R.CENG_SLOT_PRE (n : Nat) : Nat := 0x4005021C + 128 * n
abbrev R.CENG_SLOT_FE_WLIM (n : Nat) : Nat := 0x40050220 + 128 * n
abbrev R.CENG_SLOT_FE_SLIM (n : Nat) : Nat := 0x40050224 + 128 * n
abbrev R.CENG_SLOT_FE_TIME (n : Nat) : Nat := 0x40050228 + 128 * n
abbrev R.CENG_SLOT_KP_A (n : Nat) : Nat := 0x40050240 + 128 * n
abbrev R.CENG_SLOT_KI_A (n : Nat) : Nat := 0x40050244 + 128 * n
abbrev R.CENG_SLOT_KD_A (n : Nat) : Nat := 0x40050248 + 128 * n
abbrev R.CENG_SLOT_KFF1_A (n : Nat) : Nat := 0x4005024C + 128 * n
abbrev R.CENG_SLOT_KFF2_A (n : Nat) : Nat := 0x40050250 + 128 * n
abbrev R.CENG_SLOT_OUTMIN_A (n : Nat) : Nat := 0x40050254 + 128 * n
abbrev R.CENG_SLOT_OUTMAX_A (n : Nat) : Nat := 0x40050258 + 128 * n
abbrev R.CENG_SLOT_RATE_A (n : Nat) : Nat := 0x4005025C + 128 * n
abbrev R.CENG_SLOT_KP_B (n : Nat) : Nat := 0x40050260 + 128 * n
abbrev R.CENG_SLOT_KI_B (n : Nat) : Nat := 0x40050264 + 128 * n
abbrev R.CENG_SLOT_KD_B (n : Nat) : Nat := 0x40050268 + 128 * n
abbrev R.CENG_SLOT_KFF1_B (n : Nat) : Nat := 0x4005026C + 128 * n
abbrev R.CENG_SLOT_KFF2_B (n : Nat) : Nat := 0x40050270 + 128 * n
abbrev R.CENG_SLOT_OUTMIN_B (n : Nat) : Nat := 0x40050274 + 128 * n
abbrev R.CENG_SLOT_OUTMAX_B (n : Nat) : Nat := 0x40050278 + 128 * n
abbrev R.CENG_SLOT_RATE_B (n : Nat) : Nat := 0x4005027C + 128 * n
abbrev R.DOOR_CTRL (d : Nat) : Nat := 0x40060000 + 0x10000 * d
abbrev R.DOOR_STATUS (d : Nat) : Nat := 0x40060004 + 0x10000 * d
abbrev R.DOOR_IRQ (d : Nat) : Nat := 0x40060008 + 0x10000 * d
abbrev R.DOOR_IRQEN_FOX (d : Nat) : Nat := 0x4006000C + 0x10000 * d
abbrev R.DOOR_IRQEN_MARTEN (d : Nat) : Nat := 0x40060010 + 0x10000 * d
abbrev R.DOOR_PERMIT (d : Nat) : Nat := 0x40060014 + 0x10000 * d
abbrev R.DOOR_CARR (d : Nat) : Nat := 0x40060020 + 0x10000 * d
abbrev R.DOOR_DEAD (d : Nat) : Nat := 0x40060024 + 0x10000 * d
abbrev R.DOOR_FLTCFG (d : Nat) : Nat := 0x40060028 + 0x10000 * d
abbrev R.DOOR_MOT_R (d : Nat) : Nat := 0x40060030 + 0x10000 * d
abbrev R.DOOR_MOT_L (d : Nat) : Nat := 0x40060034 + 0x10000 * d
abbrev R.DOOR_MOT_KE (d : Nat) : Nat := 0x40060038 + 0x10000 * d
abbrev R.DOOR_MOT_EPM (d : Nat) : Nat := 0x4006003C + 0x10000 * d
abbrev R.DOOR_ANGOFS (d : Nat) : Nat := 0x40060040 + 0x10000 * d
abbrev R.DOOR_IMAX (d : Nat) : Nat := 0x40060048 + 0x10000 * d
abbrev R.DOOR_VDCMIN (d : Nat) : Nat := 0x4006004C + 0x10000 * d
abbrev R.DOOR_VDCMAX (d : Nat) : Nat := 0x40060050 + 0x10000 * d
abbrev R.DOOR_SENSE (d : Nat) : Nat := 0x40060054 + 0x10000 * d
abbrev R.DOOR_IOFS (d : Nat) (n : Nat) : Nat := 0x40060058 + 0x10000 * d + 4 * n
abbrev R.DOOR_FB (d : Nat) : Nat := 0x40060070 + 0x10000 * d
abbrev R.DOOR_POSOFS (d : Nat) : Nat := 0x40060078 + 0x10000 * d
abbrev R.DOOR_POS (d : Nat) : Nat := 0x40060080 + 0x10000 * d
abbrev R.DOOR_SPEED (d : Nat) : Nat := 0x40060084 + 0x10000 * d
abbrev R.DOOR_ROTOR (d : Nat) : Nat := 0x40060088 + 0x10000 * d
abbrev R.DOOR_IU (d : Nat) : Nat := 0x4006008C + 0x10000 * d
abbrev R.DOOR_IV (d : Nat) : Nat := 0x40060090 + 0x10000 * d
abbrev R.DOOR_IW (d : Nat) : Nat := 0x40060094 + 0x10000 * d
abbrev R.DOOR_VU (d : Nat) : Nat := 0x40060098 + 0x10000 * d
abbrev R.DOOR_VV (d : Nat) : Nat := 0x4006009C + 0x10000 * d
abbrev R.DOOR_VW (d : Nat) : Nat := 0x400600A0 + 0x10000 * d
abbrev R.DOOR_VDC (d : Nat) : Nat := 0x400600A4 + 0x10000 * d
abbrev R.DOOR_AMP (d : Nat) : Nat := 0x400600B0 + 0x10000 * d
abbrev R.DOOR_ANGLE (d : Nat) : Nat := 0x400600B4 + 0x10000 * d
abbrev R.DOOR_RATE (d : Nat) : Nat := 0x400600B8 + 0x10000 * d
abbrev R.DOOR_ON (d : Nat) (n : Nat) : Nat := 0x400600C0 + 0x10000 * d + 4 * n
abbrev R.DOOR_TABLE (d : Nat) (n : Nat) : Nat := 0x40061000 + 0x10000 * d + 4 * n
abbrev R.DOOR_ZONE (d : Nat) : Nat := 0x40060018 + 0x10000 * d
abbrev R.DOOR_MOVE (d : Nat) : Nat := 0x40060100 + 0x10000 * d
abbrev R.DOOR_MTGT (d : Nat) : Nat := 0x40060104 + 0x10000 * d
abbrev R.DOOR_MSTAT (d : Nat) : Nat := 0x40060108 + 0x10000 * d
abbrev R.DOOR_REFPOS (d : Nat) : Nat := 0x40060110 + 0x10000 * d
abbrev R.DOOR_REFSPD (d : Nat) : Nat := 0x40060114 + 0x10000 * d
abbrev R.DOOR_REMAIN (d : Nat) : Nat := 0x40060118 + 0x10000 * d
abbrev R.DOOR_VLIM (d : Nat) : Nat := 0x4006011C + 0x10000 * d
abbrev R.DOOR_ILIM (d : Nat) : Nat := 0x40060120 + 0x10000 * d
abbrev R.DOOR_LOADANG (d : Nat) : Nat := 0x40060124 + 0x10000 * d
abbrev R.DOOR_FEXT (d : Nat) : Nat := 0x40060128 + 0x10000 * d
abbrev R.DOOR_EMFSPD (d : Nat) : Nat := 0x4006012C + 0x10000 * d
abbrev R.DOOR_MASS (d : Nat) : Nat := 0x40060130 + 0x10000 * d
abbrev R.DOOR_FRIC (d : Nat) (n : Nat) : Nat := 0x40060200 + 0x10000 * d + 4 * n
abbrev R.DOOR_MASSL (d : Nat) (n : Nat) : Nat := 0x40060400 + 0x10000 * d + 4 * n
abbrev R.LRING_CTRL : Nat := 0x40080000
abbrev R.LRING_STATUS : Nat := 0x40080004
abbrev R.LRING_LOCK : Nat := 0x40080008
abbrev R.LRING_IRQ : Nat := 0x40080010
abbrev R.LRING_IRQEN_FOX : Nat := 0x40080014
abbrev R.LRING_IRQEN_MARTEN : Nat := 0x40080018
abbrev R.LRING_CYCLE : Nat := 0x40080020
abbrev R.LRING_BUDGET : Nat := 0x40080024
abbrev R.LRING_HOPS : Nat := 0x40080028
abbrev R.LRING_NODES : Nat := 0x4008002C
abbrev R.LRING_LVHASH : Nat := 0x40080078
abbrev R.LRING_CAR : Nat := 0x40080030
abbrev R.LRING_LOCKVEC (n : Nat) : Nat := 0x40080040 + 4 * n
abbrev R.LRING_PRESENT (n : Nat) : Nat := 0x40080060 + 4 * n
abbrev R.LRING_PTXBASE : Nat := 0x40080080
abbrev R.LRING_PRXBASE : Nat := 0x40080088
abbrev R.LRING_MTXBASE : Nat := 0x40080090
abbrev R.LRING_MRXBASE : Nat := 0x40080098
abbrev R.LRING_PTXCTL : Nat := 0x40080084
abbrev R.LRING_PRXCTL : Nat := 0x4008008C
abbrev R.LRING_MTXCTL : Nat := 0x40080094
abbrev R.LRING_MRXCTL : Nat := 0x4008009C
abbrev R.LRING_ERR (n : Nat) : Nat := 0x40080400 + 4 * (n - 1)
abbrev R.LRING_LMASK (n : Nat) : Nat := 0x40080800 + 4 * n
abbrev R.LRING_CLASS (n : Nat) : Nat := 0x40080900 + 4 * n
abbrev R.LRING_RAWF (n : Nat) : Nat := 0x40081000 + 8 * (n - 1)
abbrev R.LRING_RAWR (n : Nat) : Nat := 0x40081800 + 8 * (n - 1)
abbrev R.LRING_TXOUT (n : Nat) : Nat := 0x40082000 + 4 * (n - 1)
abbrev R.LRING_ORDER (n : Nat) : Nat := 0x40082400 + 4 * (n - 1)
abbrev R.BID_CTRL : Nat := 0x40090000
abbrev R.BID_STATUS : Nat := 0x40090004
abbrev R.BID_GROUP : Nat := 0x40090008
abbrev R.BID_IRQ : Nat := 0x40090010
abbrev R.BID_IRQEN_FOX : Nat := 0x40090014
abbrev R.BID_IRQEN_MARTEN : Nat := 0x40090018
abbrev R.BID_CMD : Nat := 0x40090020
abbrev R.BID_ARG : Nat := 0x40090024
abbrev R.BID_RESULT : Nat := 0x40090028
abbrev R.BID_STOP_DEF (n : Nat) : Nat := 0x40090100 + 8 * n
abbrev R.BID_STOP_ETA (n : Nat) : Nat := 0x40090104 + 8 * n
abbrev R.BID_CALL (n : Nat) : Nat := 0x40091000 + 16 * n
abbrev R.XCMP_STATUS : Nat := 0x400F0000
abbrev R.XCMP_TRIPCAUSE : Nat := 0x400F0004
abbrev R.XCMP_LOCK : Nat := 0x400F0008
abbrev R.XCMP_TOL_POS : Nat := 0x400F0010
abbrev R.XCMP_TOL_SPD : Nat := 0x400F0014
abbrev R.XCMP_IRQ : Nat := 0x400F0020
abbrev R.XCMP_IRQEN_FOX : Nat := 0x400F0024
abbrev R.XCMP_IRQEN_MARTEN : Nat := 0x400F0028
abbrev R.XCMP_A_POS : Nat := 0x400F0040
abbrev R.XCMP_A_SPD : Nat := 0x400F0044
abbrev R.XCMP_A_CHAIN : Nat := 0x400F0048
abbrev R.XCMP_A_CYCLE : Nat := 0x400F004C
abbrev R.XCMP_A_LVHASH : Nat := 0x400F0050
abbrev R.XCMP_A_OUT : Nat := 0x400F0054
abbrev R.XCMP_A_STATE : Nat := 0x400F0058
abbrev R.XCMP_B_POS : Nat := 0x400F0080
abbrev R.XCMP_B_SPD : Nat := 0x400F0084
abbrev R.XCMP_B_CHAIN : Nat := 0x400F0088
abbrev R.XCMP_B_CYCLE : Nat := 0x400F008C
abbrev R.XCMP_B_LVHASH : Nat := 0x400F0090
abbrev R.XCMP_B_OUT : Nat := 0x400F0094
abbrev R.XCMP_B_STATE : Nat := 0x400F0098
abbrev R.XCMP_A_COMMIT : Nat := 0x400F005C
abbrev R.XCMP_B_TPERIOD : Nat := 0x400F009C
abbrev R.XCMP_B_FLAGS : Nat := 0x400F00A0
abbrev R.XCMP_B_PCRC : Nat := 0x400F00A4
abbrev R.XCMP_B_ACRC : Nat := 0x400F00A8
abbrev R.XCMP_B_MPCRC : Nat := 0x400F00AC
abbrev R.XCMP_B_MACRC : Nat := 0x400F00B0
abbrev R.XCMP_BPARAM : Nat := 0x400F0100
abbrev R.XCMP_BMAP : Nat := 0x400F0104
abbrev R.SOUT_STATUS : Nat := 0x400E0000
abbrev R.SOUT_APERM : Nat := 0x400E0004
abbrev R.SOUT_BPERM : Nat := 0x400E0008
abbrev R.SOUT_IRQ : Nat := 0x400E0010
abbrev R.SOUT_IRQEN_FOX : Nat := 0x400E0014
abbrev R.SOUT_IRQEN_MARTEN : Nat := 0x400E0018
abbrev R.SOUT_TEST : Nat := 0x400E0020
abbrev R.SOUT_TTEST : Nat := 0x400E0024
abbrev R.SOUT_RST : Nat := 0x400E0028
abbrev R.SOUT_OUT_STATE (n : Nat) : Nat := 0x400E0100 + 16 * n
abbrev R.SOUT_STO_STATE (n : Nat) : Nat := 0x400E0180 + 16 * n
abbrev R.SOUT_OUT_CURR (n : Nat) : Nat := 0x400E0104 + 16 * n
abbrev R.SOUT_AGE (n : Nat) : Nat := 0x400E0200 + 4 * n
abbrev R.IO24_INLVL (n : Nat) : Nat := 0x400D0000 + 4 * n
abbrev R.IO24_INRAW (n : Nat) : Nat := 0x400D0008 + 4 * n
abbrev R.IO24_INCHG (n : Nat) : Nat := 0x400D0020 + 4 * n
abbrev R.IO24_IRQ : Nat := 0x400D0010
abbrev R.IO24_IRQEN_FOX : Nat := 0x400D0014
abbrev R.IO24_IRQEN_MARTEN : Nat := 0x400D0018
abbrev R.IO24_OUTCMD : Nat := 0x400D0030
abbrev R.IO24_OUTSET : Nat := 0x400D0034
abbrev R.IO24_OUTCLR : Nat := 0x400D0038
abbrev R.IO24_AFORCE : Nat := 0x400D003C
abbrev R.IO24_SIN : Nat := 0x400D0050
abbrev R.IO24_TP : Nat := 0x400D0054
abbrev R.IO24_CTAP : Nat := 0x400D0058
abbrev R.IO24_FIELD (n : Nat) : Nat := 0x400D0060 + 4 * n
abbrev R.IO24_CLRF : Nat := 0x400D0070
abbrev R.IO24_INCFG (n : Nat) : Nat := 0x400D0100 + 4 * n
abbrev R.IO24_OUTMAP (n : Nat) : Nat := 0x400D0200 + 4 * n
abbrev R.IO24_OUTSTAT (n : Nat) : Nat := 0x400D0300 + 4 * n
abbrev R.CANX_CFG (p : Nat) : Nat := 0x400A0000 + 0x10000 * p
abbrev R.CANX_STATUS (p : Nat) : Nat := 0x400A0004 + 0x10000 * p
abbrev R.CANX_IRQ (p : Nat) : Nat := 0x400A0010 + 0x10000 * p
abbrev R.CANX_IRQEN_FOX (p : Nat) : Nat := 0x400A0014 + 0x10000 * p
abbrev R.CANX_IRQEN_MARTEN (p : Nat) : Nat := 0x400A0018 + 0x10000 * p
abbrev R.ODE_STATUS : Nat := 0x400C0000
abbrev R.ODE_L_REQ (n : Nat) : Nat := 0x400C0100 + 128 * (n - 1)
abbrev R.ODE_L_OFS (n : Nat) : Nat := 0x400C010C + 128 * (n - 1)
abbrev R.ODE_L_DLEN (n : Nat) : Nat := 0x400C0110 + 128 * (n - 1)
abbrev R.ODE_L_RES (n : Nat) : Nat := 0x400C0104 + 128 * (n - 1)
abbrev R.ODE_L_ABORT (n : Nat) : Nat := 0x400C0108 + 128 * (n - 1)
abbrev R.ODE_L_DATA (n : Nat) (k : Nat) : Nat := 0x400C0140 + 128 * (n - 1) + 4 * k
abbrev R.ETH_STATUS : Nat := 0x40180000
abbrev R.ETH_MAC_LO : Nat := 0x40180004
abbrev R.ETH_MAC_HI : Nat := 0x40180008
abbrev R.MEMC_DMAIRQ : Nat := 0x40110300
abbrev R.MEMC_DMAIRQEN_FOX : Nat := 0x40110304
abbrev R.MEMC_DMAIRQEN_MARTEN : Nat := 0x40110308
abbrev R.MEMC_DMA_CTRL (n : Nat) : Nat := 0x40110600 + 32 * n
abbrev R.MEMC_DMA_STATUS (n : Nat) : Nat := 0x40110604 + 32 * n
abbrev R.MEMC_DMA_HEAD_LO (n : Nat) : Nat := 0x40110608 + 32 * n
abbrev R.MEMC_DMA_HEAD_HI (n : Nat) : Nat := 0x4011060C + 32 * n
abbrev R.MEMC_DMA_CUR_LO (n : Nat) : Nat := 0x40110610 + 32 * n
abbrev R.MEMC_DMA_CUR_HI (n : Nat) : Nat := 0x40110614 + 32 * n
abbrev R.MEMC_DMA_PERM (n : Nat) : Nat := 0x40110618 + 32 * n
abbrev R.MEMC_MWIN : Nat := 0x40110004
abbrev R.MEMC_IRQ : Nat := 0x40110010
abbrev R.MEMC_IRQEN_FOX : Nat := 0x40110014
abbrev R.MEMC_IRQEN_MARTEN : Nat := 0x40110018
abbrev R.MEMC_CE (n : Nat) : Nat := 0x40110020 + 4 * n
abbrev R.MEMC_UE (n : Nat) : Nat := 0x40110030 + 4 * n
abbrev R.MEMC_ELOG_LO : Nat := 0x40110040
abbrev R.MEMC_ELOG_HI : Nat := 0x40110044
abbrev R.MEMC_ELOG_INFO : Nat := 0x40110048
abbrev R.MEMC_FLIP_ADDR_LO : Nat := 0x40110080
abbrev R.MEMC_FLIP_ADDR_HI : Nat := 0x40110084
abbrev R.MEMC_FLIP_DMASK_LO : Nat := 0x40110088
abbrev R.MEMC_FLIP_DMASK_HI : Nat := 0x4011008C
abbrev R.MEMC_FLIP_CMASK : Nat := 0x40110090
abbrev R.MEMC_FLIP_CTRL : Nat := 0x40110094
abbrev R.MEMC_FUSE_PROG : Nat := 0x40110100
abbrev R.MEMC_PPR_REQ : Nat := 0x40110110
abbrev R.MEMC_FUSE_STATUS : Nat := 0x40110104
abbrev R.MEMC_PPR_STATUS : Nat := 0x40110114
abbrev R.MEMC_CAND (n : Nat) : Nat := 0x40110200 + 4 * n
abbrev R.MEMC_FUSE_REC (n : Nat) : Nat := 0x40110400 + 4 * n
abbrev R.SCRB_STATUS : Nat := 0x40120000
abbrev R.SCRB_ANTLAP : Nat := 0x40120004
abbrev R.SCRB_WPOS : Nat := 0x40120014
abbrev R.SCRB_WLAP : Nat := 0x40120018
abbrev R.SCRB_WCFG : Nat := 0x40120010
abbrev R.FLSH_HEALTH : Nat := 0x40150000
abbrev R.MBOX_PARK : Nat := 0x40100000
abbrev R.MBOX_IRQ (n : Nat) : Nat := 0x40100010 + 16 * (n - 1)
abbrev R.MBOX_IRQEN (n : Nat) : Nat := 0x40100014 + 16 * (n - 1)
abbrev R.MBOX_IRQX (n : Nat) : Nat := 0x40100018 + 16 * (n - 1)
abbrev R.MBOX_IRQXEN (n : Nat) : Nat := 0x4010001C + 16 * (n - 1)
abbrev R.MBOX_CH_CFG (n : Nat) : Nat := 0x40100100 + 64 * n
abbrev R.MBOX_CH_STATUS (n : Nat) : Nat := 0x40100104 + 64 * n
abbrev R.MBOX_CH_DESC (n : Nat) : Nat := 0x40100108 + 64 * n
abbrev R.MBOX_CH_TAKE (n : Nat) : Nat := 0x4010010C + 64 * n
abbrev R.MBOX_CH_DATA (n : Nat) (k : Nat) : Nat := 0x40100120 + 64 * n + 4 * k
abbrev R.MBOX_LOCK (n : Nat) : Nat := 0x40100800 + 4 * n
abbrev R.EVR_STATUS : Nat := 0x40130000
abbrev R.EVR_HEAD_LO : Nat := 0x40130004
abbrev R.EVR_HEAD_HI : Nat := 0x40130008
abbrev R.EVR_CURSOR_LO : Nat := 0x4013000C
abbrev R.EVR_CURSOR_HI : Nat := 0x40130010
abbrev R.EVR_LOST : Nat := 0x40130014
abbrev R.EVR_SUPPTOT : Nat := 0x40130018
abbrev R.EVR_IRQ : Nat := 0x40130020
abbrev R.EVR_IRQEN_FOX : Nat := 0x40130024
abbrev R.EVR_IRQEN_MARTEN : Nat := 0x40130028
abbrev R.EVR_FREEZE : Nat := 0x40130030
abbrev R.EVR_WINDOW (n : Nat) : Nat := 0x40131000 + 4 * n
abbrev R.BOOT_STATUS : Nat := 0x401A0000
abbrev R.BOOT_VERS : Nat := 0x401A0004
abbrev R.BOOT_HOCMD : Nat := 0x401A0020
abbrev R.BOOT_CONFIRM : Nat := 0x401A0024
abbrev R.PRES_STATUS : Nat := 0x40160000
abbrev R.PRES_SAFEOK : Nat := 0x40160004
abbrev R.PRES_DEBUG : Nat := 0x40160008
abbrev R.SYS_ID : Nat := 0x40000000
abbrev R.SYS_RSTCAUSE : Nat := 0x40000004
abbrev R.SYS_ROMREV : Nat := 0x40000008
abbrev R.SYS_RSTREQ : Nat := 0x40000010
abbrev R.ANA_VIN : Nat := 0x40170000
abbrev R.ANA_VSAFE : Nat := 0x40170004
abbrev R.ANA_HOLD : Nat := 0x40170008
abbrev R.ANA_LIDTEMP : Nat := 0x4017000C
abbrev R.ANA_HOLDCAP : Nat := 0x40170010
abbrev R.ANA_LOAD : Nat := 0x40170014
abbrev R.ANA_LC_RATIO (n : Nat) : Nat := 0x40170020 + 16 * n
abbrev R.ANA_LC_EXC (n : Nat) : Nat := 0x40170024 + 16 * n
abbrev R.ANA_LOADSTAT : Nat := 0x40170018

/-! ## Fields -/

abbrev F.TICK_NOW_LO_NOW_LO : Fld := ⟨R.TICK_NOW_LO, 31, 0⟩
abbrev F.TICK_NOW_HI_NOW_HI : Fld := ⟨R.TICK_NOW_HI, 31, 0⟩
abbrev F.TICK_NUM_LO_NUM_LO : Fld := ⟨R.TICK_NUM_LO, 31, 0⟩
abbrev F.TICK_NUM_HI_NUM_HI : Fld := ⟨R.TICK_NUM_HI, 31, 0⟩
abbrev F.TICK_STATUS_SLOW_POS : Fld := ⟨R.TICK_STATUS, 25, 16⟩
abbrev F.TICK_STATUS_RING_POS : Fld := ⟨R.TICK_STATUS, 10, 8⟩
abbrev F.TICK_STATUS_PHASE : Fld := ⟨R.TICK_STATUS, 3, 0⟩
abbrev F.TICK_MISS_PHASE_MISS : Fld := ⟨R.TICK_MISS, 8, 0⟩
abbrev F.TICK_MISSCNT_COUNT (n : Nat) : Fld := ⟨R.TICK_MISSCNT n, 15, 0⟩
abbrev F.TICK_IRQ_FOX_MISS : Fld := ⟨R.TICK_IRQ_FOX, 19, 19⟩
abbrev F.TICK_IRQ_FOX_SLOW : Fld := ⟨R.TICK_IRQ_FOX, 18, 18⟩
abbrev F.TICK_IRQ_FOX_RING : Fld := ⟨R.TICK_IRQ_FOX, 17, 17⟩
abbrev F.TICK_IRQ_FOX_TICK : Fld := ⟨R.TICK_IRQ_FOX, 16, 16⟩
abbrev F.TICK_IRQ_FOX_ALARM : Fld := ⟨R.TICK_IRQ_FOX, 3, 0⟩
abbrev F.TICK_IRQ_MARTEN_MISS : Fld := ⟨R.TICK_IRQ_MARTEN, 19, 19⟩
abbrev F.TICK_IRQ_MARTEN_SLOW : Fld := ⟨R.TICK_IRQ_MARTEN, 18, 18⟩
abbrev F.TICK_IRQ_MARTEN_RING : Fld := ⟨R.TICK_IRQ_MARTEN, 17, 17⟩
abbrev F.TICK_IRQ_MARTEN_TICK : Fld := ⟨R.TICK_IRQ_MARTEN, 16, 16⟩
abbrev F.TICK_IRQ_MARTEN_ALARM : Fld := ⟨R.TICK_IRQ_MARTEN, 3, 0⟩
abbrev F.TICK_IRQEN_FOX_SRC_EN : Fld := ⟨R.TICK_IRQEN_FOX, 19, 16⟩
abbrev F.TICK_IRQEN_FOX_ALARM_EN : Fld := ⟨R.TICK_IRQEN_FOX, 3, 0⟩
abbrev F.TICK_IRQEN_MARTEN_SRC_EN : Fld := ⟨R.TICK_IRQEN_MARTEN, 19, 16⟩
abbrev F.TICK_IRQEN_MARTEN_ALARM_EN : Fld := ⟨R.TICK_IRQEN_MARTEN, 3, 0⟩
abbrev F.TICK_ALARM_EN (n : Nat) : Fld := ⟨R.TICK_ALARM n, 31, 31⟩
abbrev F.TICK_ALARM_RATE (n : Nat) : Fld := ⟨R.TICK_ALARM n, 30, 29⟩
abbrev F.TICK_ALARM_OFFSET (n : Nat) : Fld := ⟨R.TICK_ALARM n, 16, 0⟩
abbrev F.POSX_LOCK_LOCK : Fld := ⟨R.POSX_LOCK, 0, 0⟩
abbrev F.POSX_IRQ_EMULOST : Fld := ⟨R.POSX_IRQ, 15, 15⟩
abbrev F.POSX_IRQ_HALLFLT : Fld := ⟨R.POSX_IRQ, 14, 13⟩
abbrev F.POSX_IRQ_SAT : Fld := ⟨R.POSX_IRQ, 12, 12⟩
abbrev F.POSX_IRQ_INCLOST : Fld := ⟨R.POSX_IRQ, 11, 11⟩
abbrev F.POSX_IRQ_ABSLOST : Fld := ⟨R.POSX_IRQ, 10, 10⟩
abbrev F.POSX_IRQ_ABSERR : Fld := ⟨R.POSX_IRQ, 9, 8⟩
abbrev F.POSX_IRQ_ILLEGAL : Fld := ⟨R.POSX_IRQ, 7, 4⟩
abbrev F.POSX_IRQ_DIRCHG : Fld := ⟨R.POSX_IRQ, 3, 0⟩
abbrev F.POSX_IRQEN_FOX_EN : Fld := ⟨R.POSX_IRQEN_FOX, 15, 0⟩
abbrev F.POSX_IRQEN_MARTEN_EN : Fld := ⟨R.POSX_IRQEN_MARTEN, 15, 0⟩
abbrev F.POSX_CNT_CFG_EN (n : Nat) : Fld := ⟨R.POSX_CNT_CFG n, 31, 31⟩
abbrev F.POSX_CNT_CFG_MODE (n : Nat) : Fld := ⟨R.POSX_CNT_CFG n, 30, 29⟩
abbrev F.POSX_CNT_CFG_INVDIR (n : Nat) : Fld := ⟨R.POSX_CNT_CFG n, 28, 28⟩
abbrev F.POSX_CNT_CFG_FILT (n : Nat) : Fld := ⟨R.POSX_CNT_CFG n, 27, 24⟩
abbrev F.POSX_CNT_CFG_LINECHK (n : Nat) : Fld := ⟨R.POSX_CNT_CFG n, 23, 23⟩
abbrev F.POSX_CNT_RAW_RAW (n : Nat) : Fld := ⟨R.POSX_CNT_RAW n, 31, 0⟩
abbrev F.POSX_CNT_STATUS_ILLCNT (n : Nat) : Fld := ⟨R.POSX_CNT_STATUS n, 31, 24⟩
abbrev F.POSX_CNT_STATUS_LINEFLT (n : Nat) : Fld := ⟨R.POSX_CNT_STATUS n, 10, 8⟩
abbrev F.POSX_CNT_STATUS_STILL (n : Nat) : Fld := ⟨R.POSX_CNT_STATUS n, 7, 7⟩
abbrev F.POSX_CNT_STATUS_SPDSRC (n : Nat) : Fld := ⟨R.POSX_CNT_STATUS n, 6, 6⟩
abbrev F.POSX_CNT_STATUS_DIR (n : Nat) : Fld := ⟨R.POSX_CNT_STATUS n, 5, 5⟩
abbrev F.POSX_CNT_STATUS_SAT (n : Nat) : Fld := ⟨R.POSX_CNT_STATUS n, 4, 4⟩
abbrev F.POSX_CNT_STATUS_ZSEEN (n : Nat) : Fld := ⟨R.POSX_CNT_STATUS n, 3, 3⟩
abbrev F.POSX_CNT_STATUS_DIRCHG (n : Nat) : Fld := ⟨R.POSX_CNT_STATUS n, 2, 2⟩
abbrev F.POSX_CNT_STATUS_ILLEGAL (n : Nat) : Fld := ⟨R.POSX_CNT_STATUS n, 1, 1⟩
abbrev F.POSX_CNT_SCALE_NUM (n : Nat) : Fld := ⟨R.POSX_CNT_SCALE n, 31, 16⟩
abbrev F.POSX_CNT_SCALE_DEN (n : Nat) : Fld := ⟨R.POSX_CNT_SCALE n, 15, 0⟩
abbrev F.POSX_CNT_OFFSET_OFFSET (n : Nat) : Fld := ⟨R.POSX_CNT_OFFSET n, 31, 0⟩
abbrev F.POSX_CNT_POS_POS (n : Nat) : Fld := ⟨R.POSX_CNT_POS n, 31, 0⟩
abbrev F.POSX_CNT_SPDCFG_STILL (n : Nat) : Fld := ⟨R.POSX_CNT_SPDCFG n, 31, 24⟩
abbrev F.POSX_CNT_SPDCFG_MINEDGE (n : Nat) : Fld := ⟨R.POSX_CNT_SPDCFG n, 23, 16⟩
abbrev F.POSX_CNT_SPDCFG_SPDMODE (n : Nat) : Fld := ⟨R.POSX_CNT_SPDCFG n, 15, 14⟩
abbrev F.POSX_CNT_SPDCFG_WIN (n : Nat) : Fld := ⟨R.POSX_CNT_SPDCFG n, 7, 0⟩
abbrev F.POSX_CNT_SPEED_SPEED (n : Nat) : Fld := ⟨R.POSX_CNT_SPEED n, 31, 0⟩
abbrev F.POSX_CNT_PERIOD_PERIOD (n : Nat) : Fld := ⟨R.POSX_CNT_PERIOD n, 31, 0⟩
abbrev F.POSX_ABS_CFG_EN (n : Nat) : Fld := ⟨R.POSX_ABS_CFG n, 31, 31⟩
abbrev F.POSX_ABS_CFG_PROTO (n : Nat) : Fld := ⟨R.POSX_ABS_CFG n, 30, 30⟩
abbrev F.POSX_ABS_CFG_CLK (n : Nat) : Fld := ⟨R.POSX_ABS_CFG n, 29, 28⟩
abbrev F.POSX_ABS_CFG_GRAY (n : Nat) : Fld := ⟨R.POSX_ABS_CFG n, 27, 27⟩
abbrev F.POSX_ABS_CFG_DOUBLE (n : Nat) : Fld := ⟨R.POSX_ABS_CFG n, 26, 26⟩
abbrev F.POSX_ABS_CFG_FORCEDEFER (n : Nat) : Fld := ⟨R.POSX_ABS_CFG n, 25, 25⟩
abbrev F.POSX_ABS_CFG_LEN (n : Nat) : Fld := ⟨R.POSX_ABS_CFG n, 21, 16⟩
abbrev F.POSX_ABS_CFG_SSIDLY (n : Nat) : Fld := ⟨R.POSX_ABS_CFG n, 15, 8⟩
abbrev F.POSX_ABS_DELAY_WINEND (n : Nat) : Fld := ⟨R.POSX_ABS_DELAY n, 31, 24⟩
abbrev F.POSX_ABS_DELAY_RTD (n : Nat) : Fld := ⟨R.POSX_ABS_DELAY n, 23, 0⟩
abbrev F.POSX_ABS_DATA_LO_DATA (n : Nat) : Fld := ⟨R.POSX_ABS_DATA_LO n, 31, 0⟩
abbrev F.POSX_ABS_DATA_HI_DATA (n : Nat) : Fld := ⟨R.POSX_ABS_DATA_HI n, 31, 0⟩
abbrev F.POSX_ABS_SCALE_NUM (n : Nat) : Fld := ⟨R.POSX_ABS_SCALE n, 31, 16⟩
abbrev F.POSX_ABS_SCALE_DEN (n : Nat) : Fld := ⟨R.POSX_ABS_SCALE n, 15, 0⟩
abbrev F.POSX_ABS_OFFSET_OFFSET (n : Nat) : Fld := ⟨R.POSX_ABS_OFFSET n, 31, 0⟩
abbrev F.POSX_ABS_POS_POS (n : Nat) : Fld := ⟨R.POSX_ABS_POS n, 31, 0⟩
abbrev F.POSX_ABS_STATUS_ERRTOT (n : Nat) : Fld := ⟨R.POSX_ABS_STATUS n, 31, 16⟩
abbrev F.POSX_ABS_STATUS_CONSEC (n : Nat) : Fld := ⟨R.POSX_ABS_STATUS n, 15, 8⟩
abbrev F.POSX_ABS_STATUS_VALID (n : Nat) : Fld := ⟨R.POSX_ABS_STATUS n, 7, 7⟩
abbrev F.POSX_ABS_STATUS_DEFER (n : Nat) : Fld := ⟨R.POSX_ABS_STATUS n, 6, 6⟩
abbrev F.POSX_ABS_STATUS_WARN (n : Nat) : Fld := ⟨R.POSX_ABS_STATUS n, 5, 5⟩
abbrev F.POSX_ABS_STATUS_ERRBIT (n : Nat) : Fld := ⟨R.POSX_ABS_STATUS n, 4, 4⟩
abbrev F.POSX_ABS_STATUS_CRCERR (n : Nat) : Fld := ⟨R.POSX_ABS_STATUS n, 3, 3⟩
abbrev F.POSX_ABS_STATUS_TIMEOUT (n : Nat) : Fld := ⟨R.POSX_ABS_STATUS n, 2, 2⟩
abbrev F.POSX_ABS_STATUS_LINEFLT (n : Nat) : Fld := ⟨R.POSX_ABS_STATUS n, 1, 1⟩
abbrev F.POSX_FUSE_CFG_EN : Fld := ⟨R.POSX_FUSE_CFG, 31, 31⟩
abbrev F.POSX_FUSE_CFG_ABSSEL : Fld := ⟨R.POSX_FUSE_CFG, 24, 24⟩
abbrev F.POSX_FUSE_CFG_GAIN : Fld := ⟨R.POSX_FUSE_CFG, 19, 16⟩
abbrev F.POSX_FUSE_CFG_CORRMAX : Fld := ⟨R.POSX_FUSE_CFG, 15, 8⟩
abbrev F.POSX_FUSE_CFG_REJECT : Fld := ⟨R.POSX_FUSE_CFG, 7, 0⟩
abbrev F.POSX_FUSE_SOFTMIN_LIMIT : Fld := ⟨R.POSX_FUSE_SOFTMIN, 31, 0⟩
abbrev F.POSX_FUSE_SOFTMAX_LIMIT : Fld := ⟨R.POSX_FUSE_SOFTMAX, 31, 0⟩
abbrev F.POSX_FUSE_POS_VALUE : Fld := ⟨R.POSX_FUSE_POS, 31, 0⟩
abbrev F.POSX_FUSE_SPEED_VALUE : Fld := ⟨R.POSX_FUSE_SPEED, 31, 0⟩
abbrev F.POSX_FUSE_OFFSET_VALUE : Fld := ⟨R.POSX_FUSE_OFFSET, 31, 0⟩
abbrev F.POSX_FUSE_INNOV_VALUE : Fld := ⟨R.POSX_FUSE_INNOV, 31, 0⟩
abbrev F.POSX_FUSE_STATUS_REJCNT : Fld := ⟨R.POSX_FUSE_STATUS, 15, 8⟩
abbrev F.POSX_FUSE_STATUS_STALE : Fld := ⟨R.POSX_FUSE_STATUS, 5, 5⟩
abbrev F.POSX_FUSE_STATUS_DEFER : Fld := ⟨R.POSX_FUSE_STATUS, 4, 4⟩
abbrev F.POSX_FUSE_STATUS_SAT : Fld := ⟨R.POSX_FUSE_STATUS, 3, 3⟩
abbrev F.POSX_FUSE_STATUS_INCLOST : Fld := ⟨R.POSX_FUSE_STATUS, 2, 2⟩
abbrev F.POSX_FUSE_STATUS_ABSLOST : Fld := ⟨R.POSX_FUSE_STATUS, 1, 1⟩
abbrev F.POSX_FUSE_STATUS_VALID : Fld := ⟨R.POSX_FUSE_STATUS, 0, 0⟩
abbrev F.POSX_HALL_CFG_EN (n : Nat) : Fld := ⟨R.POSX_HALL_CFG n, 31, 31⟩
abbrev F.POSX_HALL_CFG_ORDER (n : Nat) : Fld := ⟨R.POSX_HALL_CFG n, 30, 30⟩
abbrev F.POSX_HALL_CFG_FILT (n : Nat) : Fld := ⟨R.POSX_HALL_CFG n, 5, 0⟩
abbrev F.POSX_HALL_STATE_SKIP (n : Nat) : Fld := ⟨R.POSX_HALL_STATE n, 9, 9⟩
abbrev F.POSX_HALL_STATE_ILLEGAL (n : Nat) : Fld := ⟨R.POSX_HALL_STATE n, 8, 8⟩
abbrev F.POSX_HALL_STATE_SECTOR (n : Nat) : Fld := ⟨R.POSX_HALL_STATE n, 6, 4⟩
abbrev F.POSX_HALL_STATE_UVW (n : Nat) : Fld := ⟨R.POSX_HALL_STATE n, 2, 0⟩
abbrev F.POSX_HALL_PERIOD_VALUE (n : Nat) : Fld := ⟨R.POSX_HALL_PERIOD n, 31, 0⟩
abbrev F.POSX_HALL_STAMP_VALUE (n : Nat) : Fld := ⟨R.POSX_HALL_STAMP n, 31, 0⟩
abbrev F.POSX_EMU_CFG_EN : Fld := ⟨R.POSX_EMU_CFG, 31, 31⟩
abbrev F.POSX_EMU_CFG_ZMODE : Fld := ⟨R.POSX_EMU_CFG, 28, 28⟩
abbrev F.POSX_EMU_CFG_SRC : Fld := ⟨R.POSX_EMU_CFG, 1, 0⟩
abbrev F.POSX_EMU_RATIO_N : Fld := ⟨R.POSX_EMU_RATIO, 31, 16⟩
abbrev F.POSX_EMU_RATIO_M : Fld := ⟨R.POSX_EMU_RATIO, 15, 0⟩
abbrev F.POSX_EMU_STATUS_LOST : Fld := ⟨R.POSX_EMU_STATUS, 16, 16⟩
abbrev F.POSX_EMU_STATUS_BACKLOG : Fld := ⟨R.POSX_EMU_STATUS, 15, 0⟩
abbrev F.CMPL_CMPIRQ_CMP : Fld := ⟨R.CMPL_CMPIRQ, 31, 0⟩
abbrev F.CMPL_CMPEN_FOX_CMP : Fld := ⟨R.CMPL_CMPEN_FOX, 31, 0⟩
abbrev F.CMPL_CMPEN_MARTEN_CMP : Fld := ⟨R.CMPL_CMPEN_MARTEN, 31, 0⟩
abbrev F.CMPL_LATIRQ_LAT : Fld := ⟨R.CMPL_LATIRQ, 15, 0⟩
abbrev F.CMPL_LATEN_FOX_LAT : Fld := ⟨R.CMPL_LATEN_FOX, 15, 0⟩
abbrev F.CMPL_LATEN_MARTEN_LAT : Fld := ⟨R.CMPL_LATEN_MARTEN, 15, 0⟩
abbrev F.CMPL_CMP_CFG_EN (n : Nat) : Fld := ⟨R.CMPL_CMP_CFG n, 31, 31⟩
abbrev F.CMPL_CMP_CFG_DIRQ (n : Nat) : Fld := ⟨R.CMPL_CMP_CFG n, 30, 29⟩
abbrev F.CMPL_CMP_CFG_MODE (n : Nat) : Fld := ⟨R.CMPL_CMP_CFG n, 28, 28⟩
abbrev F.CMPL_CMP_CFG_FIRE_IF_PASSED (n : Nat) : Fld := ⟨R.CMPL_CMP_CFG n, 27, 27⟩
abbrev F.CMPL_CMP_CFG_EVT (n : Nat) : Fld := ⟨R.CMPL_CMP_CFG n, 26, 26⟩
abbrev F.CMPL_CMP_CFG_SRC (n : Nat) : Fld := ⟨R.CMPL_CMP_CFG n, 25, 23⟩
abbrev F.CMPL_CMP_CFG_HYST (n : Nat) : Fld := ⟨R.CMPL_CMP_CFG n, 15, 0⟩
abbrev F.CMPL_CMP_VALUE_VALUE (n : Nat) : Fld := ⟨R.CMPL_CMP_VALUE n, 31, 0⟩
abbrev F.CMPL_CMP_STATUS_COUNT (n : Nat) : Fld := ⟨R.CMPL_CMP_STATUS n, 31, 16⟩
abbrev F.CMPL_CMP_STATUS_ARMED (n : Nat) : Fld := ⟨R.CMPL_CMP_STATUS n, 5, 5⟩
abbrev F.CMPL_CMP_STATUS_DIR (n : Nat) : Fld := ⟨R.CMPL_CMP_STATUS n, 4, 4⟩
abbrev F.CMPL_CMP_STATUS_AT (n : Nat) : Fld := ⟨R.CMPL_CMP_STATUS n, 3, 3⟩
abbrev F.CMPL_CMP_STATUS_PASSED (n : Nat) : Fld := ⟨R.CMPL_CMP_STATUS n, 2, 2⟩
abbrev F.CMPL_CMP_STATUS_BEHIND (n : Nat) : Fld := ⟨R.CMPL_CMP_STATUS n, 1, 1⟩
abbrev F.CMPL_CMP_STATUS_FIRED (n : Nat) : Fld := ⟨R.CMPL_CMP_STATUS n, 0, 0⟩
abbrev F.CMPL_CMP_STAMP_STAMP (n : Nat) : Fld := ⟨R.CMPL_CMP_STAMP n, 31, 0⟩
abbrev F.CMPL_LAT_CFG_EN (n : Nat) : Fld := ⟨R.CMPL_LAT_CFG n, 31, 31⟩
abbrev F.CMPL_LAT_CFG_EDGE (n : Nat) : Fld := ⟨R.CMPL_LAT_CFG n, 30, 29⟩
abbrev F.CMPL_LAT_CFG_MODE (n : Nat) : Fld := ⟨R.CMPL_LAT_CFG n, 28, 28⟩
abbrev F.CMPL_LAT_CFG_CNTSEL (n : Nat) : Fld := ⟨R.CMPL_LAT_CFG n, 27, 26⟩
abbrev F.CMPL_LAT_CFG_SRC (n : Nat) : Fld := ⟨R.CMPL_LAT_CFG n, 6, 0⟩
abbrev F.CMPL_LAT_POS_VALUE (n : Nat) : Fld := ⟨R.CMPL_LAT_POS n, 31, 0⟩
abbrev F.CMPL_LAT_RAW_VALUE (n : Nat) : Fld := ⟨R.CMPL_LAT_RAW n, 31, 0⟩
abbrev F.CMPL_LAT_TS_LO_VALUE (n : Nat) : Fld := ⟨R.CMPL_LAT_TS_LO n, 31, 0⟩
abbrev F.CMPL_LAT_TS_HI_VALUE (n : Nat) : Fld := ⟨R.CMPL_LAT_TS_HI n, 31, 0⟩
abbrev F.CMPL_LAT_STATUS_PVALID (n : Nat) : Fld := ⟨R.CMPL_LAT_STATUS n, 3, 3⟩
abbrev F.CMPL_LAT_STATUS_DIR (n : Nat) : Fld := ⟨R.CMPL_LAT_STATUS n, 2, 2⟩
abbrev F.CMPL_LAT_STATUS_OVR (n : Nat) : Fld := ⟨R.CMPL_LAT_STATUS n, 1, 1⟩
abbrev F.CMPL_LAT_STATUS_FULL (n : Nat) : Fld := ⟨R.CMPL_LAT_STATUS n, 0, 0⟩
abbrev F.CMPL_LAT_CTRL_TRIG (n : Nat) : Fld := ⟨R.CMPL_LAT_CTRL n, 0, 0⟩
abbrev F.PGEN_CMD_TAG : Fld := ⟨R.PGEN_CMD, 31, 24⟩
abbrev F.PGEN_CMD_POSTGT : Fld := ⟨R.PGEN_CMD, 17, 17⟩
abbrev F.PGEN_CMD_EARLIEST : Fld := ⟨R.PGEN_CMD, 16, 16⟩
abbrev F.PGEN_CMD_OP : Fld := ⟨R.PGEN_CMD, 3, 0⟩
abbrev F.PGEN_TARGET_TARGET : Fld := ⟨R.PGEN_TARGET, 31, 0⟩
abbrev F.PGEN_STATUS_TAG : Fld := ⟨R.PGEN_STATUS, 31, 24⟩
abbrev F.PGEN_STATUS_CODE : Fld := ⟨R.PGEN_STATUS, 23, 16⟩
abbrev F.PGEN_STATUS_LEVELLED : Fld := ⟨R.PGEN_STATUS, 11, 11⟩
abbrev F.PGEN_STATUS_SAFESTOP : Fld := ⟨R.PGEN_STATUS, 10, 10⟩
abbrev F.PGEN_STATUS_KEPT : Fld := ⟨R.PGEN_STATUS, 9, 9⟩
abbrev F.PGEN_STATUS_DEGRADED : Fld := ⟨R.PGEN_STATUS, 8, 8⟩
abbrev F.PGEN_STATUS_MODE : Fld := ⟨R.PGEN_STATUS, 6, 4⟩
abbrev F.PGEN_STATUS_STATE : Fld := ⟨R.PGEN_STATUS, 3, 0⟩
abbrev F.PGEN_IRQ_DRIVELOST : Fld := ⟨R.PGEN_IRQ, 5, 5⟩
abbrev F.PGEN_IRQ_STOPPED : Fld := ⟨R.PGEN_IRQ, 4, 4⟩
abbrev F.PGEN_IRQ_LEVELLED : Fld := ⟨R.PGEN_IRQ, 3, 3⟩
abbrev F.PGEN_IRQ_ARRIVED : Fld := ⟨R.PGEN_IRQ, 2, 2⟩
abbrev F.PGEN_IRQ_REJECT : Fld := ⟨R.PGEN_IRQ, 1, 1⟩
abbrev F.PGEN_IRQ_ADOPT : Fld := ⟨R.PGEN_IRQ, 0, 0⟩
abbrev F.PGEN_IRQEN_FOX_DRIVELOST : Fld := ⟨R.PGEN_IRQEN_FOX, 5, 5⟩
abbrev F.PGEN_IRQEN_FOX_STOPPED : Fld := ⟨R.PGEN_IRQEN_FOX, 4, 4⟩
abbrev F.PGEN_IRQEN_FOX_LEVELLED : Fld := ⟨R.PGEN_IRQEN_FOX, 3, 3⟩
abbrev F.PGEN_IRQEN_FOX_ARRIVED : Fld := ⟨R.PGEN_IRQEN_FOX, 2, 2⟩
abbrev F.PGEN_IRQEN_FOX_REJECT : Fld := ⟨R.PGEN_IRQEN_FOX, 1, 1⟩
abbrev F.PGEN_IRQEN_FOX_ADOPT : Fld := ⟨R.PGEN_IRQEN_FOX, 0, 0⟩
abbrev F.PGEN_IRQEN_MARTEN_DRIVELOST : Fld := ⟨R.PGEN_IRQEN_MARTEN, 5, 5⟩
abbrev F.PGEN_IRQEN_MARTEN_STOPPED : Fld := ⟨R.PGEN_IRQEN_MARTEN, 4, 4⟩
abbrev F.PGEN_IRQEN_MARTEN_LEVELLED : Fld := ⟨R.PGEN_IRQEN_MARTEN, 3, 3⟩
abbrev F.PGEN_IRQEN_MARTEN_ARRIVED : Fld := ⟨R.PGEN_IRQEN_MARTEN, 2, 2⟩
abbrev F.PGEN_IRQEN_MARTEN_REJECT : Fld := ⟨R.PGEN_IRQEN_MARTEN, 1, 1⟩
abbrev F.PGEN_IRQEN_MARTEN_ADOPT : Fld := ⟨R.PGEN_IRQEN_MARTEN, 0, 0⟩
abbrev F.PGEN_TGT_VALUE : Fld := ⟨R.PGEN_TGT, 31, 0⟩
abbrev F.PGEN_COMP_VALUE : Fld := ⟨R.PGEN_COMP, 31, 0⟩
abbrev F.PGEN_REF_POS_VALUE : Fld := ⟨R.PGEN_REF_POS, 31, 0⟩
abbrev F.PGEN_REF_VEL_VALUE : Fld := ⟨R.PGEN_REF_VEL, 31, 0⟩
abbrev F.PGEN_REF_ACC_VALUE : Fld := ⟨R.PGEN_REF_ACC, 31, 0⟩
abbrev F.PGEN_REF_JERK_VALUE : Fld := ⟨R.PGEN_REF_JERK, 31, 0⟩
abbrev F.PGEN_VP_VALUE : Fld := ⟨R.PGEN_VP, 31, 0⟩
abbrev F.PGEN_STOPDIST_VALUE : Fld := ⟨R.PGEN_STOPDIST, 31, 0⟩
abbrev F.PGEN_REACH_VALUE : Fld := ⟨R.PGEN_REACH, 31, 0⟩
abbrev F.PGEN_TREM_VALUE : Fld := ⟨R.PGEN_TREM, 31, 0⟩
abbrev F.PGEN_LIM_V_VALUE : Fld := ⟨R.PGEN_LIM_V, 31, 0⟩
abbrev F.PGEN_LIM_A_VALUE : Fld := ⟨R.PGEN_LIM_A, 31, 0⟩
abbrev F.PGEN_LIM_J_VALUE : Fld := ⟨R.PGEN_LIM_J, 31, 0⟩
abbrev F.PGEN_TGTLAND_VALUE : Fld := ⟨R.PGEN_TGTLAND, 7, 0⟩
abbrev F.PGEN_SEG_VALUE : Fld := ⟨R.PGEN_SEG, 7, 0⟩
abbrev F.CENG_STATUS_CFGERR : Fld := ⟨R.CENG_STATUS, 3, 3⟩
abbrev F.CENG_STATUS_STOPREQ_I : Fld := ⟨R.CENG_STATUS, 2, 2⟩
abbrev F.CENG_STATUS_STOPREQ_C : Fld := ⟨R.CENG_STATUS, 1, 1⟩
abbrev F.CENG_BANKSEL_BANK : Fld := ⟨R.CENG_BANKSEL, 15, 0⟩
abbrev F.CENG_BANKACT_BANK : Fld := ⟨R.CENG_BANKACT, 15, 0⟩
abbrev F.CENG_SCHED_BUDGET : Fld := ⟨R.CENG_SCHED, 31, 16⟩
abbrev F.CENG_SCHED_LOAD : Fld := ⟨R.CENG_SCHED, 15, 0⟩
abbrev F.CENG_IRQ_STOPREQ : Fld := ⟨R.CENG_IRQ, 4, 4⟩
abbrev F.CENG_IRQ_FESTOP : Fld := ⟨R.CENG_IRQ, 3, 3⟩
abbrev F.CENG_IRQ_FEWARN : Fld := ⟨R.CENG_IRQ, 2, 2⟩
abbrev F.CENG_IRQ_OVR : Fld := ⟨R.CENG_IRQ, 1, 1⟩
abbrev F.CENG_IRQ_CFGERR : Fld := ⟨R.CENG_IRQ, 0, 0⟩
abbrev F.CENG_IRQEN_FOX_STOPREQ : Fld := ⟨R.CENG_IRQEN_FOX, 4, 4⟩
abbrev F.CENG_IRQEN_FOX_FESTOP : Fld := ⟨R.CENG_IRQEN_FOX, 3, 3⟩
abbrev F.CENG_IRQEN_FOX_FEWARN : Fld := ⟨R.CENG_IRQEN_FOX, 2, 2⟩
abbrev F.CENG_IRQEN_FOX_OVR : Fld := ⟨R.CENG_IRQEN_FOX, 1, 1⟩
abbrev F.CENG_IRQEN_FOX_CFGERR : Fld := ⟨R.CENG_IRQEN_FOX, 0, 0⟩
abbrev F.CENG_IRQEN_MARTEN_STOPREQ : Fld := ⟨R.CENG_IRQEN_MARTEN, 4, 4⟩
abbrev F.CENG_IRQEN_MARTEN_FESTOP : Fld := ⟨R.CENG_IRQEN_MARTEN, 3, 3⟩
abbrev F.CENG_IRQEN_MARTEN_FEWARN : Fld := ⟨R.CENG_IRQEN_MARTEN, 2, 2⟩
abbrev F.CENG_IRQEN_MARTEN_OVR : Fld := ⟨R.CENG_IRQEN_MARTEN, 1, 1⟩
abbrev F.CENG_IRQEN_MARTEN_CFGERR : Fld := ⟨R.CENG_IRQEN_MARTEN, 0, 0⟩
abbrev F.CENG_SETP_VALUE (n : Nat) : Fld := ⟨R.CENG_SETP n, 31, 0⟩
abbrev F.CENG_VAR_VALUE (n : Nat) : Fld := ⟨R.CENG_VAR n, 31, 0⟩
abbrev F.CENG_SLOT_CFG_EN (n : Nat) : Fld := ⟨R.CENG_SLOT_CFG n, 31, 31⟩
abbrev F.CENG_SLOT_CFG_KIND (n : Nat) : Fld := ⟨R.CENG_SLOT_CFG n, 30, 28⟩
abbrev F.CENG_SLOT_CFG_DIVSEL (n : Nat) : Fld := ⟨R.CENG_SLOT_CFG n, 27, 25⟩
abbrev F.CENG_SLOT_CFG_PHASE (n : Nat) : Fld := ⟨R.CENG_SLOT_CFG n, 24, 19⟩
abbrev F.CENG_SLOT_CFG_BUMPLESS (n : Nat) : Fld := ⟨R.CENG_SLOT_CFG n, 18, 18⟩
abbrev F.CENG_SLOT_CFG_EXTRAP (n : Nat) : Fld := ⟨R.CENG_SLOT_CFG n, 17, 17⟩
abbrev F.CENG_SLOT_CFG_EXTMAX (n : Nat) : Fld := ⟨R.CENG_SLOT_CFG n, 16, 15⟩
abbrev F.CENG_SLOT_CFG_VARSEL (n : Nat) : Fld := ⟨R.CENG_SLOT_CFG n, 14, 12⟩
abbrev F.CENG_SLOT_CFG_VAREN (n : Nat) : Fld := ⟨R.CENG_SLOT_CFG n, 11, 11⟩
abbrev F.CENG_SLOT_CFG_FEEN (n : Nat) : Fld := ⟨R.CENG_SLOT_CFG n, 7, 7⟩
abbrev F.CENG_SLOT_CFG_DF (n : Nat) : Fld := ⟨R.CENG_SLOT_CFG n, 6, 4⟩
abbrev F.CENG_SLOT_SRC_SP (n : Nat) : Fld := ⟨R.CENG_SLOT_SRC n, 31, 24⟩
abbrev F.CENG_SLOT_SRC_FB (n : Nat) : Fld := ⟨R.CENG_SLOT_SRC n, 23, 16⟩
abbrev F.CENG_SLOT_SRC_FF1 (n : Nat) : Fld := ⟨R.CENG_SLOT_SRC n, 15, 8⟩
abbrev F.CENG_SLOT_SRC_FF2 (n : Nat) : Fld := ⟨R.CENG_SLOT_SRC n, 7, 0⟩
abbrev F.CENG_SLOT_STATUS_BANK (n : Nat) : Fld := ⟨R.CENG_SLOT_STATUS n, 8, 8⟩
abbrev F.CENG_SLOT_STATUS_EXTRAP (n : Nat) : Fld := ⟨R.CENG_SLOT_STATUS n, 7, 7⟩
abbrev F.CENG_SLOT_STATUS_SATHI (n : Nat) : Fld := ⟨R.CENG_SLOT_STATUS n, 6, 6⟩
abbrev F.CENG_SLOT_STATUS_SATLO (n : Nat) : Fld := ⟨R.CENG_SLOT_STATUS n, 5, 5⟩
abbrev F.CENG_SLOT_STATUS_FROZEN (n : Nat) : Fld := ⟨R.CENG_SLOT_STATUS n, 4, 4⟩
abbrev F.CENG_SLOT_STATUS_FESTOP (n : Nat) : Fld := ⟨R.CENG_SLOT_STATUS n, 3, 3⟩
abbrev F.CENG_SLOT_STATUS_FEWARN (n : Nat) : Fld := ⟨R.CENG_SLOT_STATUS n, 2, 2⟩
abbrev F.CENG_SLOT_STATUS_HELD (n : Nat) : Fld := ⟨R.CENG_SLOT_STATUS n, 1, 1⟩
abbrev F.CENG_SLOT_STATUS_RAN (n : Nat) : Fld := ⟨R.CENG_SLOT_STATUS n, 0, 0⟩
abbrev F.CENG_SLOT_OVR_COUNT (n : Nat) : Fld := ⟨R.CENG_SLOT_OVR n, 31, 16⟩
abbrev F.CENG_SLOT_OVR_CONSEC (n : Nat) : Fld := ⟨R.CENG_SLOT_OVR n, 7, 0⟩
abbrev F.CENG_SLOT_ERR_VALUE (n : Nat) : Fld := ⟨R.CENG_SLOT_ERR n, 31, 0⟩
abbrev F.CENG_SLOT_INTEG_VALUE (n : Nat) : Fld := ⟨R.CENG_SLOT_INTEG n, 31, 0⟩
abbrev F.CENG_SLOT_OUT_VALUE (n : Nat) : Fld := ⟨R.CENG_SLOT_OUT n, 31, 0⟩
abbrev F.CENG_SLOT_PRE_VALUE (n : Nat) : Fld := ⟨R.CENG_SLOT_PRE n, 31, 0⟩
abbrev F.CENG_SLOT_FE_WLIM_LIMIT (n : Nat) : Fld := ⟨R.CENG_SLOT_FE_WLIM n, 31, 0⟩
abbrev F.CENG_SLOT_FE_SLIM_LIMIT (n : Nat) : Fld := ⟨R.CENG_SLOT_FE_SLIM n, 31, 0⟩
abbrev F.CENG_SLOT_FE_TIME_STOP (n : Nat) : Fld := ⟨R.CENG_SLOT_FE_TIME n, 31, 16⟩
abbrev F.CENG_SLOT_FE_TIME_WARN (n : Nat) : Fld := ⟨R.CENG_SLOT_FE_TIME n, 15, 0⟩
abbrev F.CENG_SLOT_KP_A_VALUE (n : Nat) : Fld := ⟨R.CENG_SLOT_KP_A n, 31, 0⟩
abbrev F.CENG_SLOT_KI_A_VALUE (n : Nat) : Fld := ⟨R.CENG_SLOT_KI_A n, 31, 0⟩
abbrev F.CENG_SLOT_KD_A_VALUE (n : Nat) : Fld := ⟨R.CENG_SLOT_KD_A n, 31, 0⟩
abbrev F.CENG_SLOT_KFF1_A_VALUE (n : Nat) : Fld := ⟨R.CENG_SLOT_KFF1_A n, 31, 0⟩
abbrev F.CENG_SLOT_KFF2_A_VALUE (n : Nat) : Fld := ⟨R.CENG_SLOT_KFF2_A n, 31, 0⟩
abbrev F.CENG_SLOT_OUTMIN_A_VALUE (n : Nat) : Fld := ⟨R.CENG_SLOT_OUTMIN_A n, 31, 0⟩
abbrev F.CENG_SLOT_OUTMAX_A_VALUE (n : Nat) : Fld := ⟨R.CENG_SLOT_OUTMAX_A n, 31, 0⟩
abbrev F.CENG_SLOT_RATE_A_VALUE (n : Nat) : Fld := ⟨R.CENG_SLOT_RATE_A n, 31, 0⟩
abbrev F.CENG_SLOT_KP_B_VALUE (n : Nat) : Fld := ⟨R.CENG_SLOT_KP_B n, 31, 0⟩
abbrev F.CENG_SLOT_KI_B_VALUE (n : Nat) : Fld := ⟨R.CENG_SLOT_KI_B n, 31, 0⟩
abbrev F.CENG_SLOT_KD_B_VALUE (n : Nat) : Fld := ⟨R.CENG_SLOT_KD_B n, 31, 0⟩
abbrev F.CENG_SLOT_KFF1_B_VALUE (n : Nat) : Fld := ⟨R.CENG_SLOT_KFF1_B n, 31, 0⟩
abbrev F.CENG_SLOT_KFF2_B_VALUE (n : Nat) : Fld := ⟨R.CENG_SLOT_KFF2_B n, 31, 0⟩
abbrev F.CENG_SLOT_OUTMIN_B_VALUE (n : Nat) : Fld := ⟨R.CENG_SLOT_OUTMIN_B n, 31, 0⟩
abbrev F.CENG_SLOT_OUTMAX_B_VALUE (n : Nat) : Fld := ⟨R.CENG_SLOT_OUTMAX_B n, 31, 0⟩
abbrev F.CENG_SLOT_RATE_B_VALUE (n : Nat) : Fld := ⟨R.CENG_SLOT_RATE_B n, 31, 0⟩
abbrev F.DOOR_CTRL_ALIGN (d : Nat) : Fld := ⟨R.DOOR_CTRL d, 1, 1⟩
abbrev F.DOOR_CTRL_EN (d : Nat) : Fld := ⟨R.DOOR_CTRL d, 0, 0⟩
abbrev F.DOOR_STATUS_FBSRC (d : Nat) : Fld := ⟨R.DOOR_STATUS d, 11, 10⟩
abbrev F.DOOR_STATUS_POSVALID (d : Nat) : Fld := ⟨R.DOOR_STATUS d, 9, 9⟩
abbrev F.DOOR_STATUS_SHIFT (d : Nat) : Fld := ⟨R.DOOR_STATUS d, 8, 8⟩
abbrev F.DOOR_STATUS_VSAT (d : Nat) : Fld := ⟨R.DOOR_STATUS d, 7, 7⟩
abbrev F.DOOR_STATUS_ALIGNBUSY (d : Nat) : Fld := ⟨R.DOOR_STATUS d, 6, 6⟩
abbrev F.DOOR_STATUS_ALIGNED (d : Nat) : Fld := ⟨R.DOOR_STATUS d, 5, 5⟩
abbrev F.DOOR_STATUS_OV (d : Nat) : Fld := ⟨R.DOOR_STATUS d, 4, 4⟩
abbrev F.DOOR_STATUS_UV (d : Nat) : Fld := ⟨R.DOOR_STATUS d, 3, 3⟩
abbrev F.DOOR_STATUS_OCFLT (d : Nat) : Fld := ⟨R.DOOR_STATUS d, 2, 2⟩
abbrev F.DOOR_STATUS_BRFLT (d : Nat) : Fld := ⟨R.DOOR_STATUS d, 1, 1⟩
abbrev F.DOOR_STATUS_DRVEN (d : Nat) : Fld := ⟨R.DOOR_STATUS d, 0, 0⟩
abbrev F.DOOR_IRQ_FBCHG (d : Nat) : Fld := ⟨R.DOOR_IRQ d, 5, 5⟩
abbrev F.DOOR_IRQ_FAULT (d : Nat) : Fld := ⟨R.DOOR_IRQ d, 4, 1⟩
abbrev F.DOOR_IRQ_ALIGNDONE (d : Nat) : Fld := ⟨R.DOOR_IRQ d, 0, 0⟩
abbrev F.DOOR_IRQEN_FOX_FBCHG (d : Nat) : Fld := ⟨R.DOOR_IRQEN_FOX d, 5, 5⟩
abbrev F.DOOR_IRQEN_FOX_FAULT (d : Nat) : Fld := ⟨R.DOOR_IRQEN_FOX d, 4, 1⟩
abbrev F.DOOR_IRQEN_FOX_ALIGNDONE (d : Nat) : Fld := ⟨R.DOOR_IRQEN_FOX d, 0, 0⟩
abbrev F.DOOR_IRQEN_MARTEN_FBCHG (d : Nat) : Fld := ⟨R.DOOR_IRQEN_MARTEN d, 5, 5⟩
abbrev F.DOOR_IRQEN_MARTEN_FAULT (d : Nat) : Fld := ⟨R.DOOR_IRQEN_MARTEN d, 4, 1⟩
abbrev F.DOOR_IRQEN_MARTEN_ALIGNDONE (d : Nat) : Fld := ⟨R.DOOR_IRQEN_MARTEN d, 0, 0⟩
abbrev F.DOOR_PERMIT_PERMIT (d : Nat) : Fld := ⟨R.DOOR_PERMIT d, 0, 0⟩
abbrev F.DOOR_CARR_PERIOD (d : Nat) : Fld := ⟨R.DOOR_CARR d, 15, 0⟩
abbrev F.DOOR_DEAD_DTCOMP (d : Nat) : Fld := ⟨R.DOOR_DEAD d, 31, 31⟩
abbrev F.DOOR_DEAD_MINP (d : Nat) : Fld := ⟨R.DOOR_DEAD d, 25, 16⟩
abbrev F.DOOR_DEAD_DEADT (d : Nat) : Fld := ⟨R.DOOR_DEAD d, 9, 0⟩
abbrev F.DOOR_FLTCFG_OVACT (d : Nat) : Fld := ⟨R.DOOR_FLTCFG d, 8, 8⟩
abbrev F.DOOR_FLTCFG_FLTPOL (d : Nat) : Fld := ⟨R.DOOR_FLTCFG d, 4, 4⟩
abbrev F.DOOR_FLTCFG_FLTFILT (d : Nat) : Fld := ⟨R.DOOR_FLTCFG d, 3, 0⟩
abbrev F.DOOR_MOT_R_VALUE (d : Nat) : Fld := ⟨R.DOOR_MOT_R d, 31, 0⟩
abbrev F.DOOR_MOT_R_R (d : Nat) : Fld := ⟨R.DOOR_MOT_R d, 15, 0⟩
abbrev F.DOOR_MOT_L_VALUE (d : Nat) : Fld := ⟨R.DOOR_MOT_L d, 31, 0⟩
abbrev F.DOOR_MOT_L_LDEN (d : Nat) : Fld := ⟨R.DOOR_MOT_L d, 31, 31⟩
abbrev F.DOOR_MOT_L_L (d : Nat) : Fld := ⟨R.DOOR_MOT_L d, 15, 0⟩
abbrev F.DOOR_MOT_KE_VALUE (d : Nat) : Fld := ⟨R.DOOR_MOT_KE d, 31, 0⟩
abbrev F.DOOR_MOT_EPM_VALUE (d : Nat) : Fld := ⟨R.DOOR_MOT_EPM d, 31, 0⟩
abbrev F.DOOR_ANGOFS_VALUE (d : Nat) : Fld := ⟨R.DOOR_ANGOFS d, 31, 0⟩
abbrev F.DOOR_ANGOFS_ANG (d : Nat) : Fld := ⟨R.DOOR_ANGOFS d, 15, 0⟩
abbrev F.DOOR_IMAX_LIMIT (d : Nat) : Fld := ⟨R.DOOR_IMAX d, 31, 0⟩
abbrev F.DOOR_VDCMIN_LIMIT (d : Nat) : Fld := ⟨R.DOOR_VDCMIN d, 31, 0⟩
abbrev F.DOOR_VDCMAX_LIMIT (d : Nat) : Fld := ⟨R.DOOR_VDCMAX d, 31, 0⟩
abbrev F.DOOR_SENSE_ISCALE (d : Nat) : Fld := ⟨R.DOOR_SENSE d, 31, 16⟩
abbrev F.DOOR_SENSE_VSCALE (d : Nat) : Fld := ⟨R.DOOR_SENSE d, 15, 8⟩
abbrev F.DOOR_SENSE_VTAU (d : Nat) : Fld := ⟨R.DOOR_SENSE d, 7, 0⟩
abbrev F.DOOR_IOFS_ZERO (d : Nat) (n : Nat) : Fld := ⟨R.DOOR_IOFS d n, 13, 0⟩
abbrev F.DOOR_FB_ENC_EN (d : Nat) : Fld := ⟨R.DOOR_FB d, 31, 31⟩
abbrev F.DOOR_FB_HALL_EN (d : Nat) : Fld := ⟨R.DOOR_FB d, 30, 30⟩
abbrev F.DOOR_FB_SL_EN (d : Nat) : Fld := ⟨R.DOOR_FB d, 29, 29⟩
abbrev F.DOOR_FB_CNTSEL (d : Nat) : Fld := ⟨R.DOOR_FB d, 27, 26⟩
abbrev F.DOOR_FB_HALLSEL (d : Nat) : Fld := ⟨R.DOOR_FB d, 25, 25⟩
abbrev F.DOOR_FB_HALLOFS (d : Nat) : Fld := ⟨R.DOOR_FB d, 15, 0⟩
abbrev F.DOOR_POSOFS_OFFSET (d : Nat) : Fld := ⟨R.DOOR_POSOFS d, 31, 0⟩
abbrev F.DOOR_POS_VALUE (d : Nat) : Fld := ⟨R.DOOR_POS d, 31, 0⟩
abbrev F.DOOR_SPEED_VALUE (d : Nat) : Fld := ⟨R.DOOR_SPEED d, 31, 0⟩
abbrev F.DOOR_ROTOR_VALUE (d : Nat) : Fld := ⟨R.DOOR_ROTOR d, 31, 0⟩
abbrev F.DOOR_IU_VALUE (d : Nat) : Fld := ⟨R.DOOR_IU d, 31, 0⟩
abbrev F.DOOR_IV_VALUE (d : Nat) : Fld := ⟨R.DOOR_IV d, 31, 0⟩
abbrev F.DOOR_IW_VALUE (d : Nat) : Fld := ⟨R.DOOR_IW d, 31, 0⟩
abbrev F.DOOR_VU_VALUE (d : Nat) : Fld := ⟨R.DOOR_VU d, 31, 0⟩
abbrev F.DOOR_VV_VALUE (d : Nat) : Fld := ⟨R.DOOR_VV d, 31, 0⟩
abbrev F.DOOR_VW_VALUE (d : Nat) : Fld := ⟨R.DOOR_VW d, 31, 0⟩
abbrev F.DOOR_VDC_VALUE (d : Nat) : Fld := ⟨R.DOOR_VDC d, 31, 0⟩
abbrev F.DOOR_AMP_VALUE (d : Nat) : Fld := ⟨R.DOOR_AMP d, 31, 0⟩
abbrev F.DOOR_ANGLE_VALUE (d : Nat) : Fld := ⟨R.DOOR_ANGLE d, 31, 0⟩
abbrev F.DOOR_RATE_VALUE (d : Nat) : Fld := ⟨R.DOOR_RATE d, 31, 0⟩
abbrev F.DOOR_ON_VALUE (d : Nat) (n : Nat) : Fld := ⟨R.DOOR_ON d n, 31, 0⟩
abbrev F.DOOR_TABLE_ENTRY (d : Nat) (n : Nat) : Fld := ⟨R.DOOR_TABLE d n, 15, 0⟩
abbrev F.DOOR_ZONE_LOCKED (d : Nat) : Fld := ⟨R.DOOR_ZONE d, 1, 1⟩
abbrev F.DOOR_ZONE_OPENOK (d : Nat) : Fld := ⟨R.DOOR_ZONE d, 0, 0⟩
abbrev F.DOOR_MOVE_TAG (d : Nat) : Fld := ⟨R.DOOR_MOVE d, 31, 24⟩
abbrev F.DOOR_MOVE_OP (d : Nat) : Fld := ⟨R.DOOR_MOVE d, 3, 0⟩
abbrev F.DOOR_MTGT_TARGET (d : Nat) : Fld := ⟨R.DOOR_MTGT d, 31, 0⟩
abbrev F.DOOR_MSTAT_TAG (d : Nat) : Fld := ⟨R.DOOR_MSTAT d, 31, 24⟩
abbrev F.DOOR_MSTAT_CODE (d : Nat) : Fld := ⟨R.DOOR_MSTAT d, 23, 16⟩
abbrev F.DOOR_MSTAT_LEARNED (d : Nat) : Fld := ⟨R.DOOR_MSTAT d, 15, 15⟩
abbrev F.DOOR_MSTAT_NUDGE (d : Nat) : Fld := ⟨R.DOOR_MSTAT d, 14, 14⟩
abbrev F.DOOR_MSTAT_REDUCED (d : Nat) : Fld := ⟨R.DOOR_MSTAT d, 13, 13⟩
abbrev F.DOOR_MSTAT_KEPT (d : Nat) : Fld := ⟨R.DOOR_MSTAT d, 12, 12⟩
abbrev F.DOOR_MSTAT_LOWMODE (d : Nat) : Fld := ⟨R.DOOR_MSTAT d, 11, 11⟩
abbrev F.DOOR_MSTAT_CAUSE (d : Nat) : Fld := ⟨R.DOOR_MSTAT d, 10, 8⟩
abbrev F.DOOR_MSTAT_STATE (d : Nat) : Fld := ⟨R.DOOR_MSTAT d, 3, 0⟩
abbrev F.DOOR_REFPOS_VALUE (d : Nat) : Fld := ⟨R.DOOR_REFPOS d, 31, 0⟩
abbrev F.DOOR_REFSPD_VALUE (d : Nat) : Fld := ⟨R.DOOR_REFSPD d, 31, 0⟩
abbrev F.DOOR_REMAIN_VALUE (d : Nat) : Fld := ⟨R.DOOR_REMAIN d, 31, 0⟩
abbrev F.DOOR_VLIM_VALUE (d : Nat) : Fld := ⟨R.DOOR_VLIM d, 31, 0⟩
abbrev F.DOOR_ILIM_VALUE (d : Nat) : Fld := ⟨R.DOOR_ILIM d, 31, 0⟩
abbrev F.DOOR_LOADANG_VALUE (d : Nat) : Fld := ⟨R.DOOR_LOADANG d, 31, 0⟩
abbrev F.DOOR_FEXT_VALUE (d : Nat) : Fld := ⟨R.DOOR_FEXT d, 31, 0⟩
abbrev F.DOOR_EMFSPD_VALUE (d : Nat) : Fld := ⟨R.DOOR_EMFSPD d, 31, 0⟩
abbrev F.DOOR_MASS_VALUE (d : Nat) : Fld := ⟨R.DOOR_MASS d, 31, 0⟩
abbrev F.DOOR_FRIC_CLOSE (d : Nat) (n : Nat) : Fld := ⟨R.DOOR_FRIC d n, 31, 16⟩
abbrev F.DOOR_FRIC_OPEN (d : Nat) (n : Nat) : Fld := ⟨R.DOOR_FRIC d n, 15, 0⟩
abbrev F.DOOR_MASSL_LEARNED (d : Nat) (n : Nat) : Fld := ⟨R.DOOR_MASSL d n, 31, 31⟩
abbrev F.DOOR_MASSL_MASS (d : Nat) (n : Nat) : Fld := ⟨R.DOOR_MASSL d n, 15, 0⟩
abbrev F.LRING_CTRL_DUALFORCE : Fld := ⟨R.LRING_CTRL, 2, 2⟩
abbrev F.LRING_CTRL_ENUM : Fld := ⟨R.LRING_CTRL, 1, 1⟩
abbrev F.LRING_CTRL_EN : Fld := ⟨R.LRING_CTRL, 0, 0⟩
abbrev F.LRING_STATUS_WRAPF : Fld := ⟨R.LRING_STATUS, 31, 24⟩
abbrev F.LRING_STATUS_WRAPR : Fld := ⟨R.LRING_STATUS, 23, 16⟩
abbrev F.LRING_STATUS_ENUMCODE : Fld := ⟨R.LRING_STATUS, 15, 8⟩
abbrev F.LRING_STATUS_LATE : Fld := ⟨R.LRING_STATUS, 7, 7⟩
abbrev F.LRING_STATUS_HOPSFLT : Fld := ⟨R.LRING_STATUS, 6, 6⟩
abbrev F.LRING_STATUS_DUAL : Fld := ⟨R.LRING_STATUS, 5, 5⟩
abbrev F.LRING_STATUS_CLOSED : Fld := ⟨R.LRING_STATUS, 4, 4⟩
abbrev F.LRING_STATUS_STATE : Fld := ⟨R.LRING_STATUS, 2, 0⟩
abbrev F.LRING_LOCK_LOCK : Fld := ⟨R.LRING_LOCK, 0, 0⟩
abbrev F.LRING_IRQ_RXQ : Fld := ⟨R.LRING_IRQ, 5, 5⟩
abbrev F.LRING_IRQ_ENUMDONE : Fld := ⟨R.LRING_IRQ, 4, 4⟩
abbrev F.LRING_IRQ_DUALCHG : Fld := ⟨R.LRING_IRQ, 3, 3⟩
abbrev F.LRING_IRQ_NODELOST : Fld := ⟨R.LRING_IRQ, 2, 2⟩
abbrev F.LRING_IRQ_HOPSFLT : Fld := ⟨R.LRING_IRQ, 1, 1⟩
abbrev F.LRING_IRQ_CYCLE : Fld := ⟨R.LRING_IRQ, 0, 0⟩
abbrev F.LRING_IRQEN_FOX_RXQ : Fld := ⟨R.LRING_IRQEN_FOX, 5, 5⟩
abbrev F.LRING_IRQEN_FOX_ENUMDONE : Fld := ⟨R.LRING_IRQEN_FOX, 4, 4⟩
abbrev F.LRING_IRQEN_FOX_DUALCHG : Fld := ⟨R.LRING_IRQEN_FOX, 3, 3⟩
abbrev F.LRING_IRQEN_FOX_NODELOST : Fld := ⟨R.LRING_IRQEN_FOX, 2, 2⟩
abbrev F.LRING_IRQEN_FOX_HOPSFLT : Fld := ⟨R.LRING_IRQEN_FOX, 1, 1⟩
abbrev F.LRING_IRQEN_FOX_CYCLE : Fld := ⟨R.LRING_IRQEN_FOX, 0, 0⟩
abbrev F.LRING_IRQEN_MARTEN_RXQ : Fld := ⟨R.LRING_IRQEN_MARTEN, 5, 5⟩
abbrev F.LRING_IRQEN_MARTEN_ENUMDONE : Fld := ⟨R.LRING_IRQEN_MARTEN, 4, 4⟩
abbrev F.LRING_IRQEN_MARTEN_DUALCHG : Fld := ⟨R.LRING_IRQEN_MARTEN, 3, 3⟩
abbrev F.LRING_IRQEN_MARTEN_NODELOST : Fld := ⟨R.LRING_IRQEN_MARTEN, 2, 2⟩
abbrev F.LRING_IRQEN_MARTEN_HOPSFLT : Fld := ⟨R.LRING_IRQEN_MARTEN, 1, 1⟩
abbrev F.LRING_IRQEN_MARTEN_CYCLE : Fld := ⟨R.LRING_IRQEN_MARTEN, 0, 0⟩
abbrev F.LRING_CYCLE_VALUE : Fld := ⟨R.LRING_CYCLE, 31, 0⟩
abbrev F.LRING_BUDGET_VALUE : Fld := ⟨R.LRING_BUDGET, 31, 0⟩
abbrev F.LRING_BUDGET_FRAME : Fld := ⟨R.LRING_BUDGET, 31, 16⟩
abbrev F.LRING_BUDGET_LAT : Fld := ⟨R.LRING_BUDGET, 15, 0⟩
abbrev F.LRING_HOPS_VALUE : Fld := ⟨R.LRING_HOPS, 31, 0⟩
abbrev F.LRING_HOPS_REV : Fld := ⟨R.LRING_HOPS, 31, 16⟩
abbrev F.LRING_HOPS_FWD : Fld := ⟨R.LRING_HOPS, 15, 0⟩
abbrev F.LRING_NODES_VALUE : Fld := ⟨R.LRING_NODES, 31, 0⟩
abbrev F.LRING_NODES_ACC : Fld := ⟨R.LRING_NODES, 23, 16⟩
abbrev F.LRING_NODES_M : Fld := ⟨R.LRING_NODES, 15, 8⟩
abbrev F.LRING_NODES_N : Fld := ⟨R.LRING_NODES, 7, 0⟩
abbrev F.LRING_LVHASH_VALUE : Fld := ⟨R.LRING_LVHASH, 31, 0⟩
abbrev F.LRING_CAR_CARNUM : Fld := ⟨R.LRING_CAR, 23, 16⟩
abbrev F.LRING_CAR_CARFLAGS : Fld := ⟨R.LRING_CAR, 15, 8⟩
abbrev F.LRING_CAR_CARLAND : Fld := ⟨R.LRING_CAR, 7, 0⟩
abbrev F.LRING_LOCKVEC_BITS (n : Nat) : Fld := ⟨R.LRING_LOCKVEC n, 31, 0⟩
abbrev F.LRING_PRESENT_BITS (n : Nat) : Fld := ⟨R.LRING_PRESENT n, 31, 0⟩
abbrev F.LRING_PTXBASE_ADDR : Fld := ⟨R.LRING_PTXBASE, 31, 0⟩
abbrev F.LRING_PRXBASE_ADDR : Fld := ⟨R.LRING_PRXBASE, 31, 0⟩
abbrev F.LRING_MTXBASE_ADDR : Fld := ⟨R.LRING_MTXBASE, 31, 0⟩
abbrev F.LRING_MRXBASE_ADDR : Fld := ⟨R.LRING_MRXBASE, 31, 0⟩
abbrev F.LRING_PTXCTL_SIZE : Fld := ⟨R.LRING_PTXCTL, 31, 24⟩
abbrev F.LRING_PTXCTL_HEAD : Fld := ⟨R.LRING_PTXCTL, 15, 8⟩
abbrev F.LRING_PTXCTL_TAIL : Fld := ⟨R.LRING_PTXCTL, 7, 0⟩
abbrev F.LRING_PRXCTL_SIZE : Fld := ⟨R.LRING_PRXCTL, 31, 24⟩
abbrev F.LRING_PRXCTL_HEAD : Fld := ⟨R.LRING_PRXCTL, 15, 8⟩
abbrev F.LRING_PRXCTL_TAIL : Fld := ⟨R.LRING_PRXCTL, 7, 0⟩
abbrev F.LRING_MTXCTL_SIZE : Fld := ⟨R.LRING_MTXCTL, 31, 24⟩
abbrev F.LRING_MTXCTL_HEAD : Fld := ⟨R.LRING_MTXCTL, 15, 8⟩
abbrev F.LRING_MTXCTL_TAIL : Fld := ⟨R.LRING_MTXCTL, 7, 0⟩
abbrev F.LRING_MRXCTL_SIZE : Fld := ⟨R.LRING_MRXCTL, 31, 24⟩
abbrev F.LRING_MRXCTL_HEAD : Fld := ⟨R.LRING_MRXCTL, 15, 8⟩
abbrev F.LRING_MRXCTL_TAIL : Fld := ⟨R.LRING_MRXCTL, 7, 0⟩
abbrev F.LRING_ERR_REJ (n : Nat) : Fld := ⟨R.LRING_ERR n, 31, 16⟩
abbrev F.LRING_ERR_MISS (n : Nat) : Fld := ⟨R.LRING_ERR n, 15, 8⟩
abbrev F.LRING_ERR_SEQ (n : Nat) : Fld := ⟨R.LRING_ERR n, 3, 0⟩
abbrev F.LRING_LMASK_BYTES (n : Nat) : Fld := ⟨R.LRING_LMASK n, 31, 0⟩
abbrev F.LRING_CLASS_BYTES (n : Nat) : Fld := ⟨R.LRING_CLASS n, 31, 0⟩
abbrev F.LRING_RAWF_BYTES (n : Nat) : Fld := ⟨R.LRING_RAWF n, 31, 0⟩
abbrev F.LRING_RAWR_BYTES (n : Nat) : Fld := ⟨R.LRING_RAWR n, 31, 0⟩
abbrev F.LRING_TXOUT_AUX (n : Nat) : Fld := ⟨R.LRING_TXOUT n, 31, 16⟩
abbrev F.LRING_TXOUT_OUT (n : Nat) : Fld := ⟨R.LRING_TXOUT n, 15, 0⟩
abbrev F.LRING_ORDER_UID (n : Nat) : Fld := ⟨R.LRING_ORDER n, 31, 16⟩
abbrev F.LRING_ORDER_CLASS (n : Nat) : Fld := ⟨R.LRING_ORDER n, 15, 8⟩
abbrev F.LRING_ORDER_ADDR (n : Nat) : Fld := ⟨R.LRING_ORDER n, 7, 0⟩
abbrev F.BID_CTRL_DESTEN : Fld := ⟨R.BID_CTRL, 4, 4⟩
abbrev F.BID_CTRL_HALLEN : Fld := ⟨R.BID_CTRL, 3, 3⟩
abbrev F.BID_CTRL_ANNEN : Fld := ⟨R.BID_CTRL, 2, 2⟩
abbrev F.BID_CTRL_BIDEN : Fld := ⟨R.BID_CTRL, 1, 1⟩
abbrev F.BID_CTRL_EN : Fld := ⟨R.BID_CTRL, 0, 0⟩
abbrev F.BID_STATUS_GROUPN : Fld := ⟨R.BID_STATUS, 31, 24⟩
abbrev F.BID_STATUS_NCALL : Fld := ⟨R.BID_STATUS, 23, 16⟩
abbrev F.BID_STATUS_NSTOP : Fld := ⟨R.BID_STATUS, 15, 8⟩
abbrev F.BID_STATUS_ISOLATED : Fld := ⟨R.BID_STATUS, 7, 7⟩
abbrev F.BID_STATUS_BUSY : Fld := ⟨R.BID_STATUS, 6, 6⟩
abbrev F.BID_STATUS_QUEUE : Fld := ⟨R.BID_STATUS, 5, 2⟩
abbrev F.BID_GROUP_MEMBER : Fld := ⟨R.BID_GROUP, 15, 0⟩
abbrev F.BID_IRQ_PLANCHG : Fld := ⟨R.BID_IRQ, 5, 5⟩
abbrev F.BID_IRQ_GROUPCHG : Fld := ⟨R.BID_IRQ, 4, 4⟩
abbrev F.BID_IRQ_LOST : Fld := ⟨R.BID_IRQ, 3, 3⟩
abbrev F.BID_IRQ_WON : Fld := ⟨R.BID_IRQ, 2, 2⟩
abbrev F.BID_IRQ_CLOSED : Fld := ⟨R.BID_IRQ, 1, 1⟩
abbrev F.BID_IRQ_CMDDONE : Fld := ⟨R.BID_IRQ, 0, 0⟩
abbrev F.BID_IRQEN_FOX_PLANCHG : Fld := ⟨R.BID_IRQEN_FOX, 5, 5⟩
abbrev F.BID_IRQEN_FOX_GROUPCHG : Fld := ⟨R.BID_IRQEN_FOX, 4, 4⟩
abbrev F.BID_IRQEN_FOX_LOST : Fld := ⟨R.BID_IRQEN_FOX, 3, 3⟩
abbrev F.BID_IRQEN_FOX_WON : Fld := ⟨R.BID_IRQEN_FOX, 2, 2⟩
abbrev F.BID_IRQEN_FOX_CLOSED : Fld := ⟨R.BID_IRQEN_FOX, 1, 1⟩
abbrev F.BID_IRQEN_FOX_CMDDONE : Fld := ⟨R.BID_IRQEN_FOX, 0, 0⟩
abbrev F.BID_IRQEN_MARTEN_PLANCHG : Fld := ⟨R.BID_IRQEN_MARTEN, 5, 5⟩
abbrev F.BID_IRQEN_MARTEN_GROUPCHG : Fld := ⟨R.BID_IRQEN_MARTEN, 4, 4⟩
abbrev F.BID_IRQEN_MARTEN_LOST : Fld := ⟨R.BID_IRQEN_MARTEN, 3, 3⟩
abbrev F.BID_IRQEN_MARTEN_WON : Fld := ⟨R.BID_IRQEN_MARTEN, 2, 2⟩
abbrev F.BID_IRQEN_MARTEN_CLOSED : Fld := ⟨R.BID_IRQEN_MARTEN, 1, 1⟩
abbrev F.BID_IRQEN_MARTEN_CMDDONE : Fld := ⟨R.BID_IRQEN_MARTEN, 0, 0⟩
abbrev F.BID_CMD_TAG : Fld := ⟨R.BID_CMD, 31, 24⟩
abbrev F.BID_CMD_OP : Fld := ⟨R.BID_CMD, 3, 0⟩
abbrev F.BID_ARG_ARG : Fld := ⟨R.BID_ARG, 31, 0⟩
abbrev F.BID_RESULT_TAG : Fld := ⟨R.BID_RESULT, 31, 24⟩
abbrev F.BID_RESULT_CODE : Fld := ⟨R.BID_RESULT, 23, 16⟩
abbrev F.BID_RESULT_CALLID : Fld := ⟨R.BID_RESULT, 15, 0⟩
abbrev F.BID_STOP_DEF_VALID (n : Nat) : Fld := ⟨R.BID_STOP_DEF n, 31, 31⟩
abbrev F.BID_STOP_DEF_COMMITTED (n : Nat) : Fld := ⟨R.BID_STOP_DEF n, 30, 30⟩
abbrev F.BID_STOP_DEF_CAR (n : Nat) : Fld := ⟨R.BID_STOP_DEF n, 29, 29⟩
abbrev F.BID_STOP_DEF_PICKUP (n : Nat) : Fld := ⟨R.BID_STOP_DEF n, 28, 28⟩
abbrev F.BID_STOP_DEF_DROP (n : Nat) : Fld := ⟨R.BID_STOP_DEF n, 27, 27⟩
abbrev F.BID_STOP_DEF_DEPART (n : Nat) : Fld := ⟨R.BID_STOP_DEF n, 26, 25⟩
abbrev F.BID_STOP_DEF_BOARD (n : Nat) : Fld := ⟨R.BID_STOP_DEF n, 23, 18⟩
abbrev F.BID_STOP_DEF_ALIGHT (n : Nat) : Fld := ⟨R.BID_STOP_DEF n, 17, 12⟩
abbrev F.BID_STOP_DEF_SIDE (n : Nat) : Fld := ⟨R.BID_STOP_DEF n, 9, 8⟩
abbrev F.BID_STOP_DEF_LANDING (n : Nat) : Fld := ⟨R.BID_STOP_DEF n, 6, 0⟩
abbrev F.BID_STOP_ETA_ETA (n : Nat) : Fld := ⟨R.BID_STOP_ETA n, 31, 0⟩
abbrev F.BID_CALL_WORD (n : Nat) : Fld := ⟨R.BID_CALL n, 31, 0⟩
abbrev F.XCMP_STATUS_CONSEC : Fld := ⟨R.XCMP_STATUS, 15, 8⟩
abbrev F.XCMP_STATUS_TRIP : Fld := ⟨R.XCMP_STATUS, 7, 7⟩
abbrev F.XCMP_STATUS_ITEMS : Fld := ⟨R.XCMP_STATUS, 5, 0⟩
abbrev F.XCMP_TRIPCAUSE_ITEMS : Fld := ⟨R.XCMP_TRIPCAUSE, 5, 0⟩
abbrev F.XCMP_LOCK_LOCK : Fld := ⟨R.XCMP_LOCK, 0, 0⟩
abbrev F.XCMP_TOL_POS_VALUE : Fld := ⟨R.XCMP_TOL_POS, 31, 0⟩
abbrev F.XCMP_TOL_SPD_VALUE : Fld := ⟨R.XCMP_TOL_SPD, 31, 0⟩
abbrev F.XCMP_TOL_SPD_REL : Fld := ⟨R.XCMP_TOL_SPD, 31, 24⟩
abbrev F.XCMP_TOL_SPD_ABS : Fld := ⟨R.XCMP_TOL_SPD, 23, 0⟩
abbrev F.XCMP_IRQ_BSTATE : Fld := ⟨R.XCMP_IRQ, 2, 2⟩
abbrev F.XCMP_IRQ_MISMATCH : Fld := ⟨R.XCMP_IRQ, 1, 1⟩
abbrev F.XCMP_IRQ_TRIP : Fld := ⟨R.XCMP_IRQ, 0, 0⟩
abbrev F.XCMP_IRQEN_FOX_BSTATE : Fld := ⟨R.XCMP_IRQEN_FOX, 2, 2⟩
abbrev F.XCMP_IRQEN_FOX_MISMATCH : Fld := ⟨R.XCMP_IRQEN_FOX, 1, 1⟩
abbrev F.XCMP_IRQEN_FOX_TRIP : Fld := ⟨R.XCMP_IRQEN_FOX, 0, 0⟩
abbrev F.XCMP_IRQEN_MARTEN_BSTATE : Fld := ⟨R.XCMP_IRQEN_MARTEN, 2, 2⟩
abbrev F.XCMP_IRQEN_MARTEN_MISMATCH : Fld := ⟨R.XCMP_IRQEN_MARTEN, 1, 1⟩
abbrev F.XCMP_IRQEN_MARTEN_TRIP : Fld := ⟨R.XCMP_IRQEN_MARTEN, 0, 0⟩
abbrev F.XCMP_A_POS_VALUE : Fld := ⟨R.XCMP_A_POS, 31, 0⟩
abbrev F.XCMP_A_SPD_VALUE : Fld := ⟨R.XCMP_A_SPD, 31, 0⟩
abbrev F.XCMP_A_CHAIN_VALUE : Fld := ⟨R.XCMP_A_CHAIN, 31, 0⟩
abbrev F.XCMP_A_CYCLE_VALUE : Fld := ⟨R.XCMP_A_CYCLE, 31, 0⟩
abbrev F.XCMP_A_LVHASH_VALUE : Fld := ⟨R.XCMP_A_LVHASH, 31, 0⟩
abbrev F.XCMP_A_OUT_VALUE : Fld := ⟨R.XCMP_A_OUT, 31, 0⟩
abbrev F.XCMP_A_STATE_VALUE : Fld := ⟨R.XCMP_A_STATE, 31, 0⟩
abbrev F.XCMP_A_STATE_INSPONLY : Fld := ⟨R.XCMP_A_STATE, 17, 17⟩
abbrev F.XCMP_A_STATE_LVL2 : Fld := ⟨R.XCMP_A_STATE, 16, 16⟩
abbrev F.XCMP_A_STATE_CAUSE : Fld := ⟨R.XCMP_A_STATE, 15, 8⟩
abbrev F.XCMP_A_STATE_STATE : Fld := ⟨R.XCMP_A_STATE, 2, 0⟩
abbrev F.XCMP_B_POS_VALUE : Fld := ⟨R.XCMP_B_POS, 31, 0⟩
abbrev F.XCMP_B_SPD_VALUE : Fld := ⟨R.XCMP_B_SPD, 31, 0⟩
abbrev F.XCMP_B_CHAIN_VALUE : Fld := ⟨R.XCMP_B_CHAIN, 31, 0⟩
abbrev F.XCMP_B_CYCLE_VALUE : Fld := ⟨R.XCMP_B_CYCLE, 31, 0⟩
abbrev F.XCMP_B_LVHASH_VALUE : Fld := ⟨R.XCMP_B_LVHASH, 31, 0⟩
abbrev F.XCMP_B_OUT_VALUE : Fld := ⟨R.XCMP_B_OUT, 31, 0⟩
abbrev F.XCMP_B_STATE_VALUE : Fld := ⟨R.XCMP_B_STATE, 31, 0⟩
abbrev F.XCMP_B_STATE_INSPONLY : Fld := ⟨R.XCMP_B_STATE, 17, 17⟩
abbrev F.XCMP_B_STATE_LVL2 : Fld := ⟨R.XCMP_B_STATE, 16, 16⟩
abbrev F.XCMP_B_STATE_CAUSE : Fld := ⟨R.XCMP_B_STATE, 15, 8⟩
abbrev F.XCMP_B_STATE_STATE : Fld := ⟨R.XCMP_B_STATE, 2, 0⟩
abbrev F.XCMP_A_COMMIT_VALID : Fld := ⟨R.XCMP_A_COMMIT, 31, 31⟩
abbrev F.XCMP_A_COMMIT_DEG : Fld := ⟨R.XCMP_A_COMMIT, 30, 30⟩
abbrev F.XCMP_A_COMMIT_TAG : Fld := ⟨R.XCMP_A_COMMIT, 7, 0⟩
abbrev F.XCMP_B_TPERIOD_VALUE : Fld := ⟨R.XCMP_B_TPERIOD, 31, 0⟩
abbrev F.XCMP_B_TPERIOD_COUNTS : Fld := ⟨R.XCMP_B_TPERIOD, 15, 0⟩
abbrev F.XCMP_B_FLAGS_VALUE : Fld := ⟨R.XCMP_B_FLAGS, 31, 0⟩
abbrev F.XCMP_B_FLAGS_REF : Fld := ⟨R.XCMP_B_FLAGS, 0, 0⟩
abbrev F.XCMP_B_FLAGS_DZ : Fld := ⟨R.XCMP_B_FLAGS, 1, 1⟩
abbrev F.XCMP_B_FLAGS_LOCKA : Fld := ⟨R.XCMP_B_FLAGS, 2, 2⟩
abbrev F.XCMP_B_FLAGS_LOCKB : Fld := ⟨R.XCMP_B_FLAGS, 3, 3⟩
abbrev F.XCMP_B_FLAGS_BYPASS : Fld := ⟨R.XCMP_B_FLAGS, 4, 4⟩
abbrev F.XCMP_B_FLAGS_LAND : Fld := ⟨R.XCMP_B_FLAGS, 15, 8⟩
abbrev F.XCMP_B_PCRC_VALUE : Fld := ⟨R.XCMP_B_PCRC, 31, 0⟩
abbrev F.XCMP_B_ACRC_VALUE : Fld := ⟨R.XCMP_B_ACRC, 31, 0⟩
abbrev F.XCMP_B_MPCRC_VALUE : Fld := ⟨R.XCMP_B_MPCRC, 31, 0⟩
abbrev F.XCMP_B_MACRC_VALUE : Fld := ⟨R.XCMP_B_MACRC, 31, 0⟩
abbrev F.XCMP_BPARAM_DATA : Fld := ⟨R.XCMP_BPARAM, 31, 0⟩
abbrev F.XCMP_BMAP_DATA : Fld := ⟨R.XCMP_BMAP, 31, 0⟩
abbrev F.SOUT_STATUS_TTSTATE : Fld := ⟨R.SOUT_STATUS, 11, 8⟩
abbrev F.SOUT_STATUS_BRKREL : Fld := ⟨R.SOUT_STATUS, 5, 4⟩
abbrev F.SOUT_STATUS_SEQ : Fld := ⟨R.SOUT_STATUS, 3, 0⟩
abbrev F.SOUT_APERM_PERM : Fld := ⟨R.SOUT_APERM, 4, 0⟩
abbrev F.SOUT_BPERM_PERM : Fld := ⟨R.SOUT_BPERM, 4, 0⟩
abbrev F.SOUT_IRQ_RESET : Fld := ⟨R.SOUT_IRQ, 4, 4⟩
abbrev F.SOUT_IRQ_TTEST : Fld := ⟨R.SOUT_IRQ, 3, 3⟩
abbrev F.SOUT_IRQ_OVERDUE : Fld := ⟨R.SOUT_IRQ, 2, 2⟩
abbrev F.SOUT_IRQ_FAULT : Fld := ⟨R.SOUT_IRQ, 1, 1⟩
abbrev F.SOUT_IRQ_SEQCHG : Fld := ⟨R.SOUT_IRQ, 0, 0⟩
abbrev F.SOUT_IRQEN_FOX_RESET : Fld := ⟨R.SOUT_IRQEN_FOX, 4, 4⟩
abbrev F.SOUT_IRQEN_FOX_TTEST : Fld := ⟨R.SOUT_IRQEN_FOX, 3, 3⟩
abbrev F.SOUT_IRQEN_FOX_OVERDUE : Fld := ⟨R.SOUT_IRQEN_FOX, 2, 2⟩
abbrev F.SOUT_IRQEN_FOX_FAULT : Fld := ⟨R.SOUT_IRQEN_FOX, 1, 1⟩
abbrev F.SOUT_IRQEN_FOX_SEQCHG : Fld := ⟨R.SOUT_IRQEN_FOX, 0, 0⟩
abbrev F.SOUT_IRQEN_MARTEN_RESET : Fld := ⟨R.SOUT_IRQEN_MARTEN, 4, 4⟩
abbrev F.SOUT_IRQEN_MARTEN_TTEST : Fld := ⟨R.SOUT_IRQEN_MARTEN, 3, 3⟩
abbrev F.SOUT_IRQEN_MARTEN_OVERDUE : Fld := ⟨R.SOUT_IRQEN_MARTEN, 2, 2⟩
abbrev F.SOUT_IRQEN_MARTEN_FAULT : Fld := ⟨R.SOUT_IRQEN_MARTEN, 1, 1⟩
abbrev F.SOUT_IRQEN_MARTEN_SEQCHG : Fld := ⟨R.SOUT_IRQEN_MARTEN, 0, 0⟩
abbrev F.SOUT_TEST_LASTRES : Fld := ⟨R.SOUT_TEST, 15, 12⟩
abbrev F.SOUT_TEST_NEXT : Fld := ⟨R.SOUT_TEST, 11, 8⟩
abbrev F.SOUT_TEST_KIND : Fld := ⟨R.SOUT_TEST, 4, 4⟩
abbrev F.SOUT_TEST_BUSY : Fld := ⟨R.SOUT_TEST, 0, 0⟩
abbrev F.SOUT_TTEST_VALUE : Fld := ⟨R.SOUT_TTEST, 31, 0⟩
abbrev F.SOUT_TTEST_HOURS : Fld := ⟨R.SOUT_TTEST, 31, 16⟩
abbrev F.SOUT_TTEST_DEV : Fld := ⟨R.SOUT_TTEST, 15, 0⟩
abbrev F.SOUT_RST_VALUE : Fld := ⟨R.SOUT_RST, 31, 0⟩
abbrev F.SOUT_RST_EDGES : Fld := ⟨R.SOUT_RST, 31, 16⟩
abbrev F.SOUT_RST_DISAGREE : Fld := ⟨R.SOUT_RST, 3, 3⟩
abbrev F.SOUT_RST_STUCK : Fld := ⟨R.SOUT_RST, 2, 2⟩
abbrev F.SOUT_RST_LEVELS : Fld := ⟨R.SOUT_RST, 1, 0⟩
abbrev F.SOUT_OUT_STATE_FAULT (n : Nat) : Fld := ⟨R.SOUT_OUT_STATE n, 19, 16⟩
abbrev F.SOUT_OUT_STATE_HCLASS (n : Nat) : Fld := ⟨R.SOUT_OUT_STATE n, 11, 10⟩
abbrev F.SOUT_OUT_STATE_LCLASS (n : Nat) : Fld := ⟨R.SOUT_OUT_STATE n, 9, 8⟩
abbrev F.SOUT_OUT_STATE_ECON (n : Nat) : Fld := ⟨R.SOUT_OUT_STATE n, 3, 3⟩
abbrev F.SOUT_OUT_STATE_DEMAND (n : Nat) : Fld := ⟨R.SOUT_OUT_STATE n, 2, 2⟩
abbrev F.SOUT_OUT_STATE_LS (n : Nat) : Fld := ⟨R.SOUT_OUT_STATE n, 1, 1⟩
abbrev F.SOUT_OUT_STATE_HS (n : Nat) : Fld := ⟨R.SOUT_OUT_STATE n, 0, 0⟩
abbrev F.SOUT_STO_STATE_FAULT (n : Nat) : Fld := ⟨R.SOUT_STO_STATE n, 19, 16⟩
abbrev F.SOUT_STO_STATE_HCLASS (n : Nat) : Fld := ⟨R.SOUT_STO_STATE n, 11, 10⟩
abbrev F.SOUT_STO_STATE_LCLASS (n : Nat) : Fld := ⟨R.SOUT_STO_STATE n, 9, 8⟩
abbrev F.SOUT_STO_STATE_ECON (n : Nat) : Fld := ⟨R.SOUT_STO_STATE n, 3, 3⟩
abbrev F.SOUT_STO_STATE_DEMAND (n : Nat) : Fld := ⟨R.SOUT_STO_STATE n, 2, 2⟩
abbrev F.SOUT_STO_STATE_LS (n : Nat) : Fld := ⟨R.SOUT_STO_STATE n, 1, 1⟩
abbrev F.SOUT_STO_STATE_HS (n : Nat) : Fld := ⟨R.SOUT_STO_STATE n, 0, 0⟩
abbrev F.SOUT_OUT_CURR_IH (n : Nat) : Fld := ⟨R.SOUT_OUT_CURR n, 31, 16⟩
abbrev F.SOUT_OUT_CURR_IL (n : Nat) : Fld := ⟨R.SOUT_OUT_CURR n, 15, 0⟩
abbrev F.SOUT_AGE_AGE (n : Nat) : Fld := ⟨R.SOUT_AGE n, 31, 0⟩
abbrev F.IO24_INLVL_BITS (n : Nat) : Fld := ⟨R.IO24_INLVL n, 31, 0⟩
abbrev F.IO24_INRAW_BITS (n : Nat) : Fld := ⟨R.IO24_INRAW n, 31, 0⟩
abbrev F.IO24_INCHG_BITS (n : Nat) : Fld := ⟨R.IO24_INCHG n, 31, 0⟩
abbrev F.IO24_IRQ_FIELD : Fld := ⟨R.IO24_IRQ, 4, 4⟩
abbrev F.IO24_IRQ_TPFLT : Fld := ⟨R.IO24_IRQ, 3, 3⟩
abbrev F.IO24_IRQ_THERM : Fld := ⟨R.IO24_IRQ, 2, 2⟩
abbrev F.IO24_IRQ_OUTFLT : Fld := ⟨R.IO24_IRQ, 1, 1⟩
abbrev F.IO24_IRQ_INCHG : Fld := ⟨R.IO24_IRQ, 0, 0⟩
abbrev F.IO24_IRQEN_FOX_FIELD : Fld := ⟨R.IO24_IRQEN_FOX, 4, 4⟩
abbrev F.IO24_IRQEN_FOX_TPFLT : Fld := ⟨R.IO24_IRQEN_FOX, 3, 3⟩
abbrev F.IO24_IRQEN_FOX_THERM : Fld := ⟨R.IO24_IRQEN_FOX, 2, 2⟩
abbrev F.IO24_IRQEN_FOX_OUTFLT : Fld := ⟨R.IO24_IRQEN_FOX, 1, 1⟩
abbrev F.IO24_IRQEN_FOX_INCHG : Fld := ⟨R.IO24_IRQEN_FOX, 0, 0⟩
abbrev F.IO24_IRQEN_MARTEN_FIELD : Fld := ⟨R.IO24_IRQEN_MARTEN, 4, 4⟩
abbrev F.IO24_IRQEN_MARTEN_TPFLT : Fld := ⟨R.IO24_IRQEN_MARTEN, 3, 3⟩
abbrev F.IO24_IRQEN_MARTEN_THERM : Fld := ⟨R.IO24_IRQEN_MARTEN, 2, 2⟩
abbrev F.IO24_IRQEN_MARTEN_OUTFLT : Fld := ⟨R.IO24_IRQEN_MARTEN, 1, 1⟩
abbrev F.IO24_IRQEN_MARTEN_INCHG : Fld := ⟨R.IO24_IRQEN_MARTEN, 0, 0⟩
abbrev F.IO24_OUTCMD_BITS : Fld := ⟨R.IO24_OUTCMD, 31, 0⟩
abbrev F.IO24_OUTSET_BITS : Fld := ⟨R.IO24_OUTSET, 31, 0⟩
abbrev F.IO24_OUTCLR_BITS : Fld := ⟨R.IO24_OUTCLR, 31, 0⟩
abbrev F.IO24_AFORCE_BITS : Fld := ⟨R.IO24_AFORCE, 31, 0⟩
abbrev F.IO24_SIN_VALUE : Fld := ⟨R.IO24_SIN, 31, 0⟩
abbrev F.IO24_SIN_TPFLT : Fld := ⟨R.IO24_SIN, 31, 16⟩
abbrev F.IO24_SIN_LVL : Fld := ⟨R.IO24_SIN, 15, 0⟩
abbrev F.IO24_TP_VALUE : Fld := ⟨R.IO24_TP, 31, 0⟩
abbrev F.IO24_TP_FLT : Fld := ⟨R.IO24_TP, 7, 4⟩
abbrev F.IO24_TP_LVL : Fld := ⟨R.IO24_TP, 3, 0⟩
abbrev F.IO24_CTAP_VALUE : Fld := ⟨R.IO24_CTAP, 31, 0⟩
abbrev F.IO24_CTAP_LVL : Fld := ⟨R.IO24_CTAP, 5, 0⟩
abbrev F.IO24_FIELD_STATE (n : Nat) : Fld := ⟨R.IO24_FIELD n, 17, 16⟩
abbrev F.IO24_FIELD_VOLT (n : Nat) : Fld := ⟨R.IO24_FIELD n, 15, 0⟩
abbrev F.IO24_CLRF_PAD : Fld := ⟨R.IO24_CLRF, 5, 0⟩
abbrev F.IO24_INCFG_TYPE (n : Nat) : Fld := ⟨R.IO24_INCFG n, 16, 16⟩
abbrev F.IO24_INCFG_FILT (n : Nat) : Fld := ⟨R.IO24_INCFG n, 15, 8⟩
abbrev F.IO24_INCFG_PAD (n : Nat) : Fld := ⟨R.IO24_INCFG n, 5, 0⟩
abbrev F.IO24_OUTMAP_PAD (n : Nat) : Fld := ⟨R.IO24_OUTMAP n, 5, 0⟩
abbrev F.IO24_OUTSTAT_CURR (n : Nat) : Fld := ⟨R.IO24_OUTSTAT n, 31, 16⟩
abbrev F.IO24_OUTSTAT_FAULT (n : Nat) : Fld := ⟨R.IO24_OUTSTAT n, 15, 12⟩
abbrev F.IO24_OUTSTAT_CLASS (n : Nat) : Fld := ⟨R.IO24_OUTSTAT n, 11, 10⟩
abbrev F.IO24_OUTSTAT_THERMCNT (n : Nat) : Fld := ⟨R.IO24_OUTSTAT n, 9, 8⟩
abbrev F.IO24_OUTSTAT_OLDEN (n : Nat) : Fld := ⟨R.IO24_OUTSTAT n, 4, 4⟩
abbrev F.IO24_OUTSTAT_SUSPECT (n : Nat) : Fld := ⟨R.IO24_OUTSTAT n, 2, 2⟩
abbrev F.IO24_OUTSTAT_TSD (n : Nat) : Fld := ⟨R.IO24_OUTSTAT n, 1, 1⟩
abbrev F.IO24_OUTSTAT_ON (n : Nat) : Fld := ⟨R.IO24_OUTSTAT n, 0, 0⟩
abbrev F.CANX_CFG_TERM (p : Nat) : Fld := ⟨R.CANX_CFG p, 15, 15⟩
abbrev F.CANX_CFG_NODEID (p : Nat) : Fld := ⟨R.CANX_CFG p, 14, 8⟩
abbrev F.CANX_CFG_DRATE (p : Nat) : Fld := ⟨R.CANX_CFG p, 7, 6⟩
abbrev F.CANX_CFG_NRATE (p : Nat) : Fld := ⟨R.CANX_CFG p, 5, 3⟩
abbrev F.CANX_CFG_MODE (p : Nat) : Fld := ⟨R.CANX_CFG p, 1, 0⟩
abbrev F.CANX_STATUS_TEC (p : Nat) : Fld := ⟨R.CANX_STATUS p, 31, 24⟩
abbrev F.CANX_STATUS_REC (p : Nat) : Fld := ⟨R.CANX_STATUS p, 23, 16⟩
abbrev F.CANX_STATUS_NMT (p : Nat) : Fld := ⟨R.CANX_STATUS p, 10, 8⟩
abbrev F.CANX_STATUS_BUSOFF (p : Nat) : Fld := ⟨R.CANX_STATUS p, 2, 2⟩
abbrev F.CANX_STATUS_EPASS (p : Nat) : Fld := ⟨R.CANX_STATUS p, 1, 1⟩
abbrev F.CANX_STATUS_OVR (p : Nat) : Fld := ⟨R.CANX_STATUS p, 0, 0⟩
abbrev F.CANX_IRQ_EMCY (p : Nat) : Fld := ⟨R.CANX_IRQ p, 2, 2⟩
abbrev F.CANX_IRQ_NMTCHG (p : Nat) : Fld := ⟨R.CANX_IRQ p, 1, 1⟩
abbrev F.CANX_IRQ_ERRCHG (p : Nat) : Fld := ⟨R.CANX_IRQ p, 0, 0⟩
abbrev F.CANX_IRQEN_FOX_EMCY (p : Nat) : Fld := ⟨R.CANX_IRQEN_FOX p, 2, 2⟩
abbrev F.CANX_IRQEN_FOX_NMTCHG (p : Nat) : Fld := ⟨R.CANX_IRQEN_FOX p, 1, 1⟩
abbrev F.CANX_IRQEN_FOX_ERRCHG (p : Nat) : Fld := ⟨R.CANX_IRQEN_FOX p, 0, 0⟩
abbrev F.CANX_IRQEN_MARTEN_EMCY (p : Nat) : Fld := ⟨R.CANX_IRQEN_MARTEN p, 2, 2⟩
abbrev F.CANX_IRQEN_MARTEN_NMTCHG (p : Nat) : Fld := ⟨R.CANX_IRQEN_MARTEN p, 1, 1⟩
abbrev F.CANX_IRQEN_MARTEN_ERRCHG (p : Nat) : Fld := ⟨R.CANX_IRQEN_MARTEN p, 0, 0⟩
abbrev F.ODE_STATUS_CARRY : Fld := ⟨R.ODE_STATUS, 16, 16⟩
abbrev F.ODE_STATUS_STAGED : Fld := ⟨R.ODE_STATUS, 8, 0⟩
abbrev F.ODE_L_REQ_WRITE (n : Nat) : Fld := ⟨R.ODE_L_REQ n, 31, 31⟩
abbrev F.ODE_L_REQ_LEN (n : Nat) : Fld := ⟨R.ODE_L_REQ n, 30, 24⟩
abbrev F.ODE_L_REQ_INDEX (n : Nat) : Fld := ⟨R.ODE_L_REQ n, 23, 8⟩
abbrev F.ODE_L_REQ_SUB (n : Nat) : Fld := ⟨R.ODE_L_REQ n, 7, 0⟩
abbrev F.ODE_L_OFS_END (n : Nat) : Fld := ⟨R.ODE_L_OFS n, 31, 31⟩
abbrev F.ODE_L_OFS_OFFSET (n : Nat) : Fld := ⟨R.ODE_L_OFS n, 19, 0⟩
abbrev F.ODE_L_DLEN_LENGTH (n : Nat) : Fld := ⟨R.ODE_L_DLEN n, 20, 0⟩
abbrev F.ODE_L_RES_VALUE (n : Nat) : Fld := ⟨R.ODE_L_RES n, 31, 0⟩
abbrev F.ODE_L_RES_BUSY (n : Nat) : Fld := ⟨R.ODE_L_RES n, 0, 0⟩
abbrev F.ODE_L_RES_LEN (n : Nat) : Fld := ⟨R.ODE_L_RES n, 14, 8⟩
abbrev F.ODE_L_ABORT_VALUE (n : Nat) : Fld := ⟨R.ODE_L_ABORT n, 31, 0⟩
abbrev F.ODE_L_DATA_VALUE (n : Nat) (k : Nat) : Fld := ⟨R.ODE_L_DATA n k, 31, 0⟩
abbrev F.ETH_STATUS_VALUE : Fld := ⟨R.ETH_STATUS, 31, 0⟩
abbrev F.ETH_STATUS_LINK : Fld := ⟨R.ETH_STATUS, 0, 0⟩
abbrev F.ETH_STATUS_FULL : Fld := ⟨R.ETH_STATUS, 1, 1⟩
abbrev F.ETH_STATUS_SESS : Fld := ⟨R.ETH_STATUS, 6, 4⟩
abbrev F.ETH_MAC_LO_VALUE : Fld := ⟨R.ETH_MAC_LO, 31, 0⟩
abbrev F.ETH_MAC_HI_VALUE : Fld := ⟨R.ETH_MAC_HI, 31, 0⟩
abbrev F.MEMC_DMAIRQ_ERR : Fld := ⟨R.MEMC_DMAIRQ, 15, 8⟩
abbrev F.MEMC_DMAIRQ_DONE : Fld := ⟨R.MEMC_DMAIRQ, 7, 0⟩
abbrev F.MEMC_DMAIRQEN_FOX_ERR : Fld := ⟨R.MEMC_DMAIRQEN_FOX, 15, 8⟩
abbrev F.MEMC_DMAIRQEN_FOX_DONE : Fld := ⟨R.MEMC_DMAIRQEN_FOX, 7, 0⟩
abbrev F.MEMC_DMAIRQEN_MARTEN_ERR : Fld := ⟨R.MEMC_DMAIRQEN_MARTEN, 15, 8⟩
abbrev F.MEMC_DMAIRQEN_MARTEN_DONE : Fld := ⟨R.MEMC_DMAIRQEN_MARTEN, 7, 0⟩
abbrev F.MEMC_DMA_CTRL_STOPERR (n : Nat) : Fld := ⟨R.MEMC_DMA_CTRL n, 3, 3⟩
abbrev F.MEMC_DMA_CTRL_ABORT (n : Nat) : Fld := ⟨R.MEMC_DMA_CTRL n, 2, 2⟩
abbrev F.MEMC_DMA_CTRL_START (n : Nat) : Fld := ⟨R.MEMC_DMA_CTRL n, 1, 1⟩
abbrev F.MEMC_DMA_CTRL_EN (n : Nat) : Fld := ⟨R.MEMC_DMA_CTRL n, 0, 0⟩
abbrev F.MEMC_DMA_STATUS_ECODE (n : Nat) : Fld := ⟨R.MEMC_DMA_STATUS n, 15, 8⟩
abbrev F.MEMC_DMA_STATUS_ERR (n : Nat) : Fld := ⟨R.MEMC_DMA_STATUS n, 2, 2⟩
abbrev F.MEMC_DMA_STATUS_DONE (n : Nat) : Fld := ⟨R.MEMC_DMA_STATUS n, 1, 1⟩
abbrev F.MEMC_DMA_STATUS_BUSY (n : Nat) : Fld := ⟨R.MEMC_DMA_STATUS n, 0, 0⟩
abbrev F.MEMC_DMA_HEAD_LO_VALUE (n : Nat) : Fld := ⟨R.MEMC_DMA_HEAD_LO n, 31, 0⟩
abbrev F.MEMC_DMA_HEAD_HI_VALUE (n : Nat) : Fld := ⟨R.MEMC_DMA_HEAD_HI n, 31, 0⟩
abbrev F.MEMC_DMA_CUR_LO_VALUE (n : Nat) : Fld := ⟨R.MEMC_DMA_CUR_LO n, 31, 0⟩
abbrev F.MEMC_DMA_CUR_HI_VALUE (n : Nat) : Fld := ⟨R.MEMC_DMA_CUR_HI n, 31, 0⟩
abbrev F.MEMC_DMA_PERM_BLOCK (n : Nat) : Fld := ⟨R.MEMC_DMA_PERM n, 26, 0⟩
abbrev F.MEMC_MWIN_BASE : Fld := ⟨R.MEMC_MWIN, 4, 0⟩
abbrev F.MEMC_IRQ_REPAIR : Fld := ⟨R.MEMC_IRQ, 3, 3⟩
abbrev F.MEMC_IRQ_CAND : Fld := ⟨R.MEMC_IRQ, 2, 2⟩
abbrev F.MEMC_IRQ_UE : Fld := ⟨R.MEMC_IRQ, 1, 1⟩
abbrev F.MEMC_IRQ_CE : Fld := ⟨R.MEMC_IRQ, 0, 0⟩
abbrev F.MEMC_IRQEN_FOX_REPAIR : Fld := ⟨R.MEMC_IRQEN_FOX, 3, 3⟩
abbrev F.MEMC_IRQEN_FOX_CAND : Fld := ⟨R.MEMC_IRQEN_FOX, 2, 2⟩
abbrev F.MEMC_IRQEN_FOX_UE : Fld := ⟨R.MEMC_IRQEN_FOX, 1, 1⟩
abbrev F.MEMC_IRQEN_FOX_CE : Fld := ⟨R.MEMC_IRQEN_FOX, 0, 0⟩
abbrev F.MEMC_IRQEN_MARTEN_REPAIR : Fld := ⟨R.MEMC_IRQEN_MARTEN, 3, 3⟩
abbrev F.MEMC_IRQEN_MARTEN_CAND : Fld := ⟨R.MEMC_IRQEN_MARTEN, 2, 2⟩
abbrev F.MEMC_IRQEN_MARTEN_UE : Fld := ⟨R.MEMC_IRQEN_MARTEN, 1, 1⟩
abbrev F.MEMC_IRQEN_MARTEN_CE : Fld := ⟨R.MEMC_IRQEN_MARTEN, 0, 0⟩
abbrev F.MEMC_CE_COUNT (n : Nat) : Fld := ⟨R.MEMC_CE n, 31, 0⟩
abbrev F.MEMC_UE_COUNT (n : Nat) : Fld := ⟨R.MEMC_UE n, 31, 0⟩
abbrev F.MEMC_ELOG_LO_VALUE : Fld := ⟨R.MEMC_ELOG_LO, 31, 0⟩
abbrev F.MEMC_ELOG_HI_VALUE : Fld := ⟨R.MEMC_ELOG_HI, 31, 0⟩
abbrev F.MEMC_ELOG_INFO_VALUE : Fld := ⟨R.MEMC_ELOG_INFO, 31, 0⟩
abbrev F.MEMC_ELOG_INFO_SYN : Fld := ⟨R.MEMC_ELOG_INFO, 15, 8⟩
abbrev F.MEMC_ELOG_INFO_MASTER : Fld := ⟨R.MEMC_ELOG_INFO, 7, 4⟩
abbrev F.MEMC_ELOG_INFO_INJ : Fld := ⟨R.MEMC_ELOG_INFO, 3, 3⟩
abbrev F.MEMC_ELOG_INFO_UNC : Fld := ⟨R.MEMC_ELOG_INFO, 2, 2⟩
abbrev F.MEMC_ELOG_INFO_REGION : Fld := ⟨R.MEMC_ELOG_INFO, 1, 0⟩
abbrev F.MEMC_FLIP_ADDR_LO_VALUE : Fld := ⟨R.MEMC_FLIP_ADDR_LO, 31, 0⟩
abbrev F.MEMC_FLIP_ADDR_HI_VALUE : Fld := ⟨R.MEMC_FLIP_ADDR_HI, 31, 0⟩
abbrev F.MEMC_FLIP_DMASK_LO_VALUE : Fld := ⟨R.MEMC_FLIP_DMASK_LO, 31, 0⟩
abbrev F.MEMC_FLIP_DMASK_HI_VALUE : Fld := ⟨R.MEMC_FLIP_DMASK_HI, 31, 0⟩
abbrev F.MEMC_FLIP_CMASK_VALUE : Fld := ⟨R.MEMC_FLIP_CMASK, 31, 0⟩
abbrev F.MEMC_FLIP_CTRL_DONE : Fld := ⟨R.MEMC_FLIP_CTRL, 1, 1⟩
abbrev F.MEMC_FLIP_CTRL_ARM : Fld := ⟨R.MEMC_FLIP_CTRL, 0, 0⟩
abbrev F.MEMC_FUSE_PROG_GO : Fld := ⟨R.MEMC_FUSE_PROG, 31, 31⟩
abbrev F.MEMC_FUSE_PROG_REGION : Fld := ⟨R.MEMC_FUSE_PROG, 30, 29⟩
abbrev F.MEMC_FUSE_PROG_ROW : Fld := ⟨R.MEMC_FUSE_PROG, 28, 0⟩
abbrev F.MEMC_PPR_REQ_GO : Fld := ⟨R.MEMC_PPR_REQ, 31, 31⟩
abbrev F.MEMC_PPR_REQ_REGION : Fld := ⟨R.MEMC_PPR_REQ, 30, 29⟩
abbrev F.MEMC_PPR_REQ_ROW : Fld := ⟨R.MEMC_PPR_REQ, 28, 0⟩
abbrev F.MEMC_FUSE_STATUS_LEFT : Fld := ⟨R.MEMC_FUSE_STATUS, 31, 16⟩
abbrev F.MEMC_FUSE_STATUS_RESULT : Fld := ⟨R.MEMC_FUSE_STATUS, 7, 4⟩
abbrev F.MEMC_FUSE_STATUS_BUSY : Fld := ⟨R.MEMC_FUSE_STATUS, 0, 0⟩
abbrev F.MEMC_PPR_STATUS_LEFT : Fld := ⟨R.MEMC_PPR_STATUS, 31, 16⟩
abbrev F.MEMC_PPR_STATUS_RESULT : Fld := ⟨R.MEMC_PPR_STATUS, 7, 4⟩
abbrev F.MEMC_PPR_STATUS_BUSY : Fld := ⟨R.MEMC_PPR_STATUS, 0, 0⟩
abbrev F.MEMC_CAND_VALID (n : Nat) : Fld := ⟨R.MEMC_CAND n, 31, 31⟩
abbrev F.MEMC_CAND_REGION (n : Nat) : Fld := ⟨R.MEMC_CAND n, 30, 29⟩
abbrev F.MEMC_CAND_ROW (n : Nat) : Fld := ⟨R.MEMC_CAND n, 28, 0⟩
abbrev F.MEMC_FUSE_REC_VALID (n : Nat) : Fld := ⟨R.MEMC_FUSE_REC n, 31, 31⟩
abbrev F.MEMC_FUSE_REC_REGION (n : Nat) : Fld := ⟨R.MEMC_FUSE_REC n, 30, 29⟩
abbrev F.MEMC_FUSE_REC_ROW (n : Nat) : Fld := ⟨R.MEMC_FUSE_REC n, 28, 0⟩
abbrev F.SCRB_STATUS_VALUE : Fld := ⟨R.SCRB_STATUS, 31, 0⟩
abbrev F.SCRB_STATUS_WSLOW : Fld := ⟨R.SCRB_STATUS, 1, 1⟩
abbrev F.SCRB_STATUS_ANTSLOW : Fld := ⟨R.SCRB_STATUS, 0, 0⟩
abbrev F.SCRB_ANTLAP_VALUE : Fld := ⟨R.SCRB_ANTLAP, 31, 0⟩
abbrev F.SCRB_WPOS_VALUE : Fld := ⟨R.SCRB_WPOS, 31, 0⟩
abbrev F.SCRB_WLAP_VALUE : Fld := ⟨R.SCRB_WLAP, 31, 0⟩
abbrev F.SCRB_WLAP_LAPS : Fld := ⟨R.SCRB_WLAP, 31, 16⟩
abbrev F.SCRB_WLAP_LAST : Fld := ⟨R.SCRB_WLAP, 15, 0⟩
abbrev F.SCRB_WCFG_LAPTIME : Fld := ⟨R.SCRB_WCFG, 31, 16⟩
abbrev F.SCRB_WCFG_VISIT : Fld := ⟨R.SCRB_WCFG, 7, 0⟩
abbrev F.FLSH_HEALTH_LIFE : Fld := ⟨R.FLSH_HEALTH, 15, 8⟩
abbrev F.FLSH_HEALTH_PREEOL : Fld := ⟨R.FLSH_HEALTH, 1, 0⟩
abbrev F.MBOX_PARK_HALTED : Fld := ⟨R.MBOX_PARK, 19, 16⟩
abbrev F.MBOX_PARK_START : Fld := ⟨R.MBOX_PARK, 11, 9⟩
abbrev F.MBOX_PARK_REFUSE : Fld := ⟨R.MBOX_PARK, 7, 5⟩
abbrev F.MBOX_PARK_STATE : Fld := ⟨R.MBOX_PARK, 3, 2⟩
abbrev F.MBOX_PARK_REQ : Fld := ⟨R.MBOX_PARK, 0, 0⟩
abbrev F.MBOX_IRQ_EMPTY (n : Nat) : Fld := ⟨R.MBOX_IRQ n, 31, 16⟩
abbrev F.MBOX_IRQ_DBELL (n : Nat) : Fld := ⟨R.MBOX_IRQ n, 15, 0⟩
abbrev F.MBOX_IRQEN_EMPTY (n : Nat) : Fld := ⟨R.MBOX_IRQEN n, 31, 16⟩
abbrev F.MBOX_IRQEN_DBELL (n : Nat) : Fld := ⟨R.MBOX_IRQEN n, 15, 0⟩
abbrev F.MBOX_IRQX_XWAIT (n : Nat) : Fld := ⟨R.MBOX_IRQX n, 15, 0⟩
abbrev F.MBOX_IRQXEN_XWAIT (n : Nat) : Fld := ⟨R.MBOX_IRQXEN n, 15, 0⟩
abbrev F.MBOX_CH_CFG_EN (n : Nat) : Fld := ⟨R.MBOX_CH_CFG n, 31, 31⟩
abbrev F.MBOX_CH_CFG_WAKE (n : Nat) : Fld := ⟨R.MBOX_CH_CFG n, 30, 30⟩
abbrev F.MBOX_CH_CFG_RECV (n : Nat) : Fld := ⟨R.MBOX_CH_CFG n, 11, 8⟩
abbrev F.MBOX_CH_CFG_SEND (n : Nat) : Fld := ⟨R.MBOX_CH_CFG n, 3, 0⟩
abbrev F.MBOX_CH_STATUS_TAG (n : Nat) : Fld := ⟨R.MBOX_CH_STATUS n, 15, 8⟩
abbrev F.MBOX_CH_STATUS_OVF (n : Nat) : Fld := ⟨R.MBOX_CH_STATUS n, 4, 4⟩
abbrev F.MBOX_CH_STATUS_XWAIT (n : Nat) : Fld := ⟨R.MBOX_CH_STATUS n, 3, 3⟩
abbrev F.MBOX_CH_STATUS_STALE_RX (n : Nat) : Fld := ⟨R.MBOX_CH_STATUS n, 2, 2⟩
abbrev F.MBOX_CH_STATUS_FENCEWAIT (n : Nat) : Fld := ⟨R.MBOX_CH_STATUS n, 1, 1⟩
abbrev F.MBOX_CH_STATUS_FULL (n : Nat) : Fld := ⟨R.MBOX_CH_STATUS n, 0, 0⟩
abbrev F.MBOX_CH_DESC_SEND (n : Nat) : Fld := ⟨R.MBOX_CH_DESC n, 31, 31⟩
abbrev F.MBOX_CH_DESC_FENCE (n : Nat) : Fld := ⟨R.MBOX_CH_DESC n, 30, 30⟩
abbrev F.MBOX_CH_DESC_RETRACT (n : Nat) : Fld := ⟨R.MBOX_CH_DESC n, 29, 29⟩
abbrev F.MBOX_CH_DESC_TAG (n : Nat) : Fld := ⟨R.MBOX_CH_DESC n, 15, 8⟩
abbrev F.MBOX_CH_DESC_LEN (n : Nat) : Fld := ⟨R.MBOX_CH_DESC n, 3, 0⟩
abbrev F.MBOX_CH_TAKE_TAKE (n : Nat) : Fld := ⟨R.MBOX_CH_TAKE n, 0, 0⟩
abbrev F.MBOX_CH_DATA_WORD (n : Nat) (k : Nat) : Fld := ⟨R.MBOX_CH_DATA n k, 31, 0⟩
abbrev F.MBOX_LOCK_OWNER (n : Nat) : Fld := ⟨R.MBOX_LOCK n, 3, 0⟩
abbrev F.EVR_STATUS_PENDING : Fld := ⟨R.EVR_STATUS, 7, 4⟩
abbrev F.EVR_STATUS_COPYING : Fld := ⟨R.EVR_STATUS, 3, 3⟩
abbrev F.EVR_STATUS_ARCHOFF : Fld := ⟨R.EVR_STATUS, 2, 2⟩
abbrev F.EVR_STATUS_FRREADY : Fld := ⟨R.EVR_STATUS, 1, 1⟩
abbrev F.EVR_STATUS_EVREADY : Fld := ⟨R.EVR_STATUS, 0, 0⟩
abbrev F.EVR_HEAD_LO_VALUE : Fld := ⟨R.EVR_HEAD_LO, 31, 0⟩
abbrev F.EVR_HEAD_HI_VALUE : Fld := ⟨R.EVR_HEAD_HI, 31, 0⟩
abbrev F.EVR_CURSOR_LO_VALUE : Fld := ⟨R.EVR_CURSOR_LO, 31, 0⟩
abbrev F.EVR_CURSOR_HI_VALUE : Fld := ⟨R.EVR_CURSOR_HI, 31, 0⟩
abbrev F.EVR_LOST_COUNT : Fld := ⟨R.EVR_LOST, 31, 0⟩
abbrev F.EVR_SUPPTOT_COUNT : Fld := ⟨R.EVR_SUPPTOT, 31, 0⟩
abbrev F.EVR_IRQ_LOST : Fld := ⟨R.EVR_IRQ, 2, 2⟩
abbrev F.EVR_IRQ_STORED : Fld := ⟨R.EVR_IRQ, 1, 1⟩
abbrev F.EVR_IRQ_FROZEN : Fld := ⟨R.EVR_IRQ, 0, 0⟩
abbrev F.EVR_IRQEN_FOX_LOST : Fld := ⟨R.EVR_IRQEN_FOX, 2, 2⟩
abbrev F.EVR_IRQEN_FOX_STORED : Fld := ⟨R.EVR_IRQEN_FOX, 1, 1⟩
abbrev F.EVR_IRQEN_FOX_FROZEN : Fld := ⟨R.EVR_IRQEN_FOX, 0, 0⟩
abbrev F.EVR_IRQEN_MARTEN_LOST : Fld := ⟨R.EVR_IRQEN_MARTEN, 2, 2⟩
abbrev F.EVR_IRQEN_MARTEN_STORED : Fld := ⟨R.EVR_IRQEN_MARTEN, 1, 1⟩
abbrev F.EVR_IRQEN_MARTEN_FROZEN : Fld := ⟨R.EVR_IRQEN_MARTEN, 0, 0⟩
abbrev F.EVR_FREEZE_TAG : Fld := ⟨R.EVR_FREEZE, 31, 0⟩
abbrev F.EVR_WINDOW_WORD (n : Nat) : Fld := ⟨R.EVR_WINDOW n, 31, 0⟩
abbrev F.BOOT_STATUS_HOSTATE : Fld := ⟨R.BOOT_STATUS, 11, 8⟩
abbrev F.BOOT_STATUS_QUAR : Fld := ⟨R.BOOT_STATUS, 7, 7⟩
abbrev F.BOOT_STATUS_UNLISTED : Fld := ⟨R.BOOT_STATUS, 6, 6⟩
abbrev F.BOOT_STATUS_VERIFYPEND : Fld := ⟨R.BOOT_STATUS, 5, 5⟩
abbrev F.BOOT_STATUS_ADOPTED : Fld := ⟨R.BOOT_STATUS, 4, 4⟩
abbrev F.BOOT_STATUS_APPSLOT : Fld := ⟨R.BOOT_STATUS, 2, 2⟩
abbrev F.BOOT_STATUS_SAFESLOT : Fld := ⟨R.BOOT_STATUS, 1, 1⟩
abbrev F.BOOT_STATUS_RECOVERY : Fld := ⟨R.BOOT_STATUS, 0, 0⟩
abbrev F.BOOT_VERS_ROMREV : Fld := ⟨R.BOOT_VERS, 23, 16⟩
abbrev F.BOOT_VERS_BREV : Fld := ⟨R.BOOT_VERS, 15, 8⟩
abbrev F.BOOT_VERS_SILREV : Fld := ⟨R.BOOT_VERS, 7, 0⟩
abbrev F.BOOT_HOCMD_OP : Fld := ⟨R.BOOT_HOCMD, 1, 0⟩
abbrev F.BOOT_CONFIRM_OP : Fld := ⟨R.BOOT_CONFIRM, 1, 0⟩
abbrev F.PRES_STATUS_DEBUG : Fld := ⟨R.PRES_STATUS, 7, 7⟩
abbrev F.PRES_STATUS_STUCK : Fld := ⟨R.PRES_STATUS, 6, 6⟩
abbrev F.PRES_STATUS_KEYFLT : Fld := ⟨R.PRES_STATUS, 5, 5⟩
abbrev F.PRES_STATUS_SAFEOK : Fld := ⟨R.PRES_STATUS, 4, 4⟩
abbrev F.PRES_STATUS_SEAL : Fld := ⟨R.PRES_STATUS, 3, 3⟩
abbrev F.PRES_STATUS_KEY : Fld := ⟨R.PRES_STATUS, 2, 2⟩
abbrev F.PRES_STATUS_LEVEL : Fld := ⟨R.PRES_STATUS, 1, 0⟩
abbrev F.PRES_SAFEOK_VALUE : Fld := ⟨R.PRES_SAFEOK, 0, 0⟩
abbrev F.PRES_DEBUG_VALUE : Fld := ⟨R.PRES_DEBUG, 0, 0⟩
abbrev F.SYS_ID_PART : Fld := ⟨R.SYS_ID, 31, 16⟩
abbrev F.SYS_ID_BREV : Fld := ⟨R.SYS_ID, 15, 8⟩
abbrev F.SYS_ID_SILREV : Fld := ⟨R.SYS_ID, 7, 0⟩
abbrev F.SYS_RSTCAUSE_CORE : Fld := ⟨R.SYS_RSTCAUSE, 7, 7⟩
abbrev F.SYS_RSTCAUSE_MODREQ : Fld := ⟨R.SYS_RSTCAUSE, 6, 6⟩
abbrev F.SYS_RSTCAUSE_APP : Fld := ⟨R.SYS_RSTCAUSE, 5, 5⟩
abbrev F.SYS_RSTCAUSE_SAFE : Fld := ⟨R.SYS_RSTCAUSE, 4, 4⟩
abbrev F.SYS_RSTCAUSE_WARM : Fld := ⟨R.SYS_RSTCAUSE, 3, 3⟩
abbrev F.SYS_RSTCAUSE_NMRST : Fld := ⟨R.SYS_RSTCAUSE, 2, 2⟩
abbrev F.SYS_RSTCAUSE_PWRFAIL : Fld := ⟨R.SYS_RSTCAUSE, 1, 1⟩
abbrev F.SYS_RSTCAUSE_POR : Fld := ⟨R.SYS_RSTCAUSE, 0, 0⟩
abbrev F.SYS_ROMREV_ROMREV : Fld := ⟨R.SYS_ROMREV, 7, 0⟩
abbrev F.SYS_RSTREQ_KEY : Fld := ⟨R.SYS_RSTREQ, 31, 16⟩
abbrev F.SYS_RSTREQ_KIND : Fld := ⟨R.SYS_RSTREQ, 2, 0⟩
abbrev F.ANA_VIN_VALUE : Fld := ⟨R.ANA_VIN, 31, 0⟩
abbrev F.ANA_VSAFE_VALUE : Fld := ⟨R.ANA_VSAFE, 31, 0⟩
abbrev F.ANA_HOLD_VALUE : Fld := ⟨R.ANA_HOLD, 31, 0⟩
abbrev F.ANA_LIDTEMP_VALUE : Fld := ⟨R.ANA_LIDTEMP, 31, 0⟩
abbrev F.ANA_HOLDCAP_VALUE : Fld := ⟨R.ANA_HOLDCAP, 31, 0⟩
abbrev F.ANA_HOLDCAP_CAP : Fld := ⟨R.ANA_HOLDCAP, 31, 16⟩
abbrev F.ANA_HOLDCAP_ENERGY : Fld := ⟨R.ANA_HOLDCAP, 15, 0⟩
abbrev F.ANA_LOAD_VALUE : Fld := ⟨R.ANA_LOAD, 31, 0⟩
abbrev F.ANA_LC_RATIO_VALUE (n : Nat) : Fld := ⟨R.ANA_LC_RATIO n, 31, 0⟩
abbrev F.ANA_LC_EXC_VALUE (n : Nat) : Fld := ⟨R.ANA_LC_EXC n, 31, 0⟩
abbrev F.ANA_LOADSTAT_ZEROLIM : Fld := ⟨R.ANA_LOADSTAT, 5, 5⟩
abbrev F.ANA_LOADSTAT_DISAGREE : Fld := ⟨R.ANA_LOADSTAT, 4, 4⟩
abbrev F.ANA_LOADSTAT_CHINV : Fld := ⟨R.ANA_LOADSTAT, 2, 1⟩
abbrev F.ANA_LOADSTAT_VALID : Fld := ⟨R.ANA_LOADSTAT, 0, 0⟩

/-! ## Descriptors, block by block in the order of R14 -/

def regsSYS : List RegDesc := [
  ⟨0x40000000, 0, 1, 0, 1, 0x0, false, [⟨31, 16, .ro⟩, ⟨15, 8, .ro⟩, ⟨7, 0, .ro⟩]⟩,
  ⟨0x40000004, 0, 1, 0, 1, 0x0, false, [⟨7, 7, .w1c⟩, ⟨6, 6, .w1c⟩, ⟨5, 5, .w1c⟩, ⟨4, 4, .w1c⟩, ⟨3, 3, .w1c⟩, ⟨2, 2, .w1c⟩, ⟨1, 1, .w1c⟩, ⟨0, 0, .w1c⟩]⟩,
  ⟨0x40000008, 0, 1, 0, 1, 0x0, false, [⟨7, 0, .ro⟩]⟩,
  ⟨0x40000010, 0, 1, 0, 1, 0x0, false, [⟨31, 16, .wo⟩, ⟨2, 0, .wo⟩]⟩]

def regsTICK : List RegDesc := [
  ⟨0x40010000, 0, 1, 0, 1, 0x0, false, [⟨31, 0, .ro⟩]⟩,
  ⟨0x40010004, 0, 1, 0, 1, 0x0, false, [⟨31, 0, .ro⟩]⟩,
  ⟨0x40010008, 0, 1, 0, 1, 0x0, false, [⟨31, 0, .ro⟩]⟩,
  ⟨0x4001000C, 0, 1, 0, 1, 0x0, false, [⟨31, 0, .ro⟩]⟩,
  ⟨0x40010010, 0, 1, 0, 1, 0x0, false, [⟨25, 16, .ro⟩, ⟨10, 8, .ro⟩, ⟨3, 0, .ro⟩]⟩,
  ⟨0x40010020, 0, 1, 0, 1, 0x0, false, [⟨8, 0, .w1c⟩]⟩,
  ⟨0x40010040, 4, 9, 0, 1, 0x0, false, [⟨15, 0, .rw⟩]⟩,
  ⟨0x40010080, 0, 1, 0, 1, 0x0, false, [⟨19, 19, .w1c⟩, ⟨18, 18, .w1c⟩, ⟨17, 17, .w1c⟩, ⟨16, 16, .w1c⟩, ⟨3, 0, .w1c⟩]⟩,
  ⟨0x40010088, 0, 1, 0, 1, 0x0, true, [⟨19, 19, .w1c⟩, ⟨18, 18, .w1c⟩, ⟨17, 17, .w1c⟩, ⟨16, 16, .w1c⟩, ⟨3, 0, .w1c⟩]⟩,
  ⟨0x40010084, 0, 1, 0, 1, 0x0, false, [⟨19, 16, .rw⟩, ⟨3, 0, .rw⟩]⟩,
  ⟨0x4001008C, 0, 1, 0, 1, 0x0, true, [⟨19, 16, .rw⟩, ⟨3, 0, .rw⟩]⟩,
  ⟨0x40010100, 4, 4, 0, 1, 0x0, false, [⟨31, 31, .rw⟩, ⟨30, 29, .rw⟩, ⟨16, 0, .rw⟩]⟩]

def regsPOSX : List RegDesc := [
  ⟨0x40020000, 0, 1, 0, 1, 0x0, true, [⟨0, 0, .w1s⟩]⟩,
  ⟨0x40020010, 0, 1, 0, 1, 0x0, false, [⟨15, 15, .w1c⟩, ⟨14, 13, .w1c⟩, ⟨12, 12, .w1c⟩, ⟨11, 11, .w1c⟩, ⟨10, 10, .w1c⟩, ⟨9, 8, .w1c⟩, ⟨7, 4, .w1c⟩, ⟨3, 0, .w1c⟩]⟩,
  ⟨0x40020014, 0, 1, 0, 1, 0x0, false, [⟨15, 0, .rw⟩]⟩,
  ⟨0x40020018, 0, 1, 0, 1, 0x0, true, [⟨15, 0, .rw⟩]⟩,
  ⟨0x40020100, 64, 4, 0, 1, 0x0, false, [⟨31, 31, .rw⟩, ⟨30, 29, .rw⟩, ⟨28, 28, .rw⟩, ⟨27, 24, .rw⟩, ⟨23, 23, .rw⟩]⟩,
  ⟨0x40020104, 64, 4, 0, 1, 0x0, false, [⟨31, 0, .ro⟩]⟩,
  ⟨0x40020108, 64, 4, 0, 1, 0x0, false, [⟨31, 24, .rw⟩, ⟨10, 8, .ro⟩, ⟨7, 7, .ro⟩, ⟨6, 6, .ro⟩, ⟨5, 5, .ro⟩, ⟨4, 4, .w1c⟩, ⟨3, 3, .w1c⟩, ⟨2, 2, .w1c⟩, ⟨1, 1, .w1c⟩]⟩,
  ⟨0x4002010C, 64, 4, 0, 1, 0x10001, false, [⟨31, 16, .rw⟩, ⟨15, 0, .rw⟩]⟩,
  ⟨0x40020110, 64, 4, 0, 1, 0x0, false, [⟨31, 0, .rw⟩]⟩,
  ⟨0x40020114, 64, 4, 0, 1, 0x0, false, [⟨31, 0, .ro⟩]⟩,
  ⟨0x40020118, 64, 4, 0, 1, 0x64100008, false, [⟨31, 24, .rw⟩, ⟨23, 16, .rw⟩, ⟨15, 14, .rw⟩, ⟨7, 0, .rw⟩]⟩,
  ⟨0x4002011C, 64, 4, 0, 1, 0x0, false, [⟨31, 0, .ro⟩]⟩,
  ⟨0x40020120, 64, 4, 0, 1, 0x0, false, [⟨31, 0, .ro⟩]⟩,
  ⟨0x40020200, 64, 2, 0, 1, 0x200000, false, [⟨31, 31, .rwl⟩, ⟨30, 30, .rwl⟩, ⟨29, 28, .rwl⟩, ⟨27, 27, .rwl⟩, ⟨26, 26, .rwl⟩, ⟨25, 25, .rwl⟩, ⟨21, 16, .rwl⟩, ⟨15, 8, .rwl⟩]⟩,
  ⟨0x40020204, 64, 2, 0, 1, 0xC000000, false, [⟨31, 24, .ro⟩, ⟨23, 0, .ro⟩]⟩,
  ⟨0x40020208, 64, 2, 0, 1, 0x0, false, [⟨31, 0, .ro⟩]⟩,
  ⟨0x4002020C, 64, 2, 0, 1, 0x0, false, [⟨31, 0, .ro⟩]⟩,
  ⟨0x40020210, 64, 2, 0, 1, 0x10001, false, [⟨31, 16, .rwl⟩, ⟨15, 0, .rwl⟩]⟩,
  ⟨0x40020214, 64, 2, 0, 1, 0x0, false, [⟨31, 0, .rwl⟩]⟩,
  ⟨0x40020218, 64, 2, 0, 1, 0x0, false, [⟨31, 0, .ro⟩]⟩,
  ⟨0x4002021C, 64, 2, 0, 1, 0x0, false, [⟨31, 16, .rw⟩, ⟨15, 8, .ro⟩, ⟨7, 7, .ro⟩, ⟨6, 6, .ro⟩, ⟨5, 5, .ro⟩, ⟨4, 4, .ro⟩, ⟨3, 3, .ro⟩, ⟨2, 2, .ro⟩, ⟨1, 1, .ro⟩]⟩,
  ⟨0x40020300, 0, 1, 0, 1, 0x31414, false, [⟨31, 31, .rwl⟩, ⟨24, 24, .rwl⟩, ⟨19, 16, .rwl⟩, ⟨15, 8, .rwl⟩, ⟨7, 0, .rwl⟩]⟩,
  ⟨0x40020304, 0, 1, 0, 1, 0x80000000, false, [⟨31, 0, .rwl⟩]⟩,
  ⟨0x40020308, 0, 1, 0, 1, 0x7FFFFFFF, false, [⟨31, 0, .rwl⟩]⟩]

def regsPOSX1 : List RegDesc := [
  ⟨0x4002030C, 0, 1, 0, 1, 0x0, false, [⟨31, 0, .ro⟩]⟩,
  ⟨0x40020310, 0, 1, 0, 1, 0x0, false, [⟨31, 0, .ro⟩]⟩,
  ⟨0x40020314, 0, 1, 0, 1, 0x0, false, [⟨31, 0, .ro⟩]⟩,
  ⟨0x40020318, 0, 1, 0, 1, 0x0, false, [⟨31, 0, .ro⟩]⟩,
  ⟨0x4002031C, 0, 1, 0, 1, 0x0, false, [⟨15, 8, .ro⟩, ⟨5, 5, .ro⟩, ⟨4, 4, .ro⟩, ⟨3, 3, .ro⟩, ⟨2, 2, .ro⟩, ⟨1, 1, .ro⟩, ⟨0, 0, .ro⟩]⟩,
  ⟨0x40020400, 16, 2, 0, 1, 0x0, false, [⟨31, 31, .rw⟩, ⟨30, 30, .rw⟩, ⟨5, 0, .rw⟩]⟩,
  ⟨0x40020404, 16, 2, 0, 1, 0x0, false, [⟨9, 9, .w1c⟩, ⟨8, 8, .w1c⟩, ⟨6, 4, .ro⟩, ⟨2, 0, .ro⟩]⟩,
  ⟨0x40020408, 16, 2, 0, 1, 0x0, false, [⟨31, 0, .ro⟩]⟩,
  ⟨0x4002040C, 16, 2, 0, 1, 0x0, false, [⟨31, 0, .ro⟩]⟩,
  ⟨0x40020500, 0, 1, 0, 1, 0x0, false, [⟨31, 31, .rw⟩, ⟨28, 28, .rw⟩, ⟨1, 0, .rw⟩]⟩,
  ⟨0x40020504, 0, 1, 0, 1, 0x10001, false, [⟨31, 16, .rw⟩, ⟨15, 0, .rw⟩]⟩,
  ⟨0x40020508, 0, 1, 0, 1, 0x0, false, [⟨16, 16, .w1c⟩, ⟨15, 0, .ro⟩]⟩]

def regsCMPL : List RegDesc := [
  ⟨0x40030010, 0, 1, 0, 1, 0x0, false, [⟨31, 0, .w1c⟩]⟩,
  ⟨0x40030014, 0, 1, 0, 1, 0x0, false, [⟨31, 0, .rw⟩]⟩,
  ⟨0x40030018, 0, 1, 0, 1, 0x0, true, [⟨31, 0, .rw⟩]⟩,
  ⟨0x40030020, 0, 1, 0, 1, 0x0, false, [⟨15, 0, .w1c⟩]⟩,
  ⟨0x40030024, 0, 1, 0, 1, 0x0, false, [⟨15, 0, .rw⟩]⟩,
  ⟨0x40030028, 0, 1, 0, 1, 0x0, true, [⟨15, 0, .rw⟩]⟩,
  ⟨0x40030100, 16, 32, 0, 1, 0x64, false, [⟨31, 31, .rw⟩, ⟨30, 29, .rw⟩, ⟨28, 28, .rw⟩, ⟨27, 27, .rw⟩, ⟨26, 26, .rw⟩, ⟨25, 23, .rw⟩, ⟨15, 0, .rw⟩]⟩,
  ⟨0x40030104, 16, 32, 0, 1, 0x0, false, [⟨31, 0, .rw⟩]⟩,
  ⟨0x40030108, 16, 32, 0, 1, 0x0, false, [⟨31, 16, .rw⟩, ⟨5, 5, .ro⟩, ⟨4, 4, .ro⟩, ⟨3, 3, .w1c⟩, ⟨2, 2, .w1c⟩, ⟨1, 1, .w1c⟩, ⟨0, 0, .w1c⟩]⟩,
  ⟨0x4003010C, 16, 32, 0, 1, 0x0, false, [⟨31, 0, .ro⟩]⟩,
  ⟨0x40030400, 32, 16, 0, 1, 0x0, false, [⟨31, 31, .rw⟩, ⟨30, 29, .rw⟩, ⟨28, 28, .rw⟩, ⟨27, 26, .rw⟩, ⟨6, 0, .rw⟩]⟩,
  ⟨0x40030404, 32, 16, 0, 1, 0x0, false, [⟨31, 0, .ro⟩]⟩,
  ⟨0x40030408, 32, 16, 0, 1, 0x0, false, [⟨31, 0, .ro⟩]⟩,
  ⟨0x4003040C, 32, 16, 0, 1, 0x0, false, [⟨31, 0, .ro⟩]⟩,
  ⟨0x40030410, 32, 16, 0, 1, 0x0, false, [⟨31, 0, .ro⟩]⟩,
  ⟨0x40030414, 32, 16, 0, 1, 0x0, false, [⟨3, 3, .ro⟩, ⟨2, 2, .ro⟩, ⟨1, 1, .w1c⟩, ⟨0, 0, .w1c⟩]⟩,
  ⟨0x40030418, 32, 16, 0, 1, 0x0, false, [⟨0, 0, .wo⟩]⟩]

def regsPGEN : List RegDesc := [
  ⟨0x40040000, 0, 1, 0, 1, 0x0, false, [⟨31, 24, .rw⟩, ⟨17, 17, .rw⟩, ⟨16, 16, .rw⟩, ⟨3, 0, .wo⟩]⟩,
  ⟨0x40040004, 0, 1, 0, 1, 0x0, false, [⟨31, 0, .rw⟩]⟩,
  ⟨0x40040010, 0, 1, 0, 1, 0x0, false, [⟨31, 24, .ro⟩, ⟨23, 16, .ro⟩, ⟨11, 11, .ro⟩, ⟨10, 10, .ro⟩, ⟨9, 9, .ro⟩, ⟨8, 8, .ro⟩, ⟨6, 4, .ro⟩, ⟨3, 0, .ro⟩]⟩,
  ⟨0x40040018, 0, 1, 0, 1, 0x0, false, [⟨5, 5, .w1c⟩, ⟨4, 4, .w1c⟩, ⟨3, 3, .w1c⟩, ⟨2, 2, .w1c⟩, ⟨1, 1, .w1c⟩, ⟨0, 0, .w1c⟩]⟩,
  ⟨0x4004001C, 0, 1, 0, 1, 0x0, false, [⟨5, 5, .rw⟩, ⟨4, 4, .rw⟩, ⟨3, 3, .rw⟩, ⟨2, 2, .rw⟩, ⟨1, 1, .rw⟩, ⟨0, 0, .rw⟩]⟩,
  ⟨0x40040020, 0, 1, 0, 1, 0x0, true, [⟨5, 5, .rw⟩, ⟨4, 4, .rw⟩, ⟨3, 3, .rw⟩, ⟨2, 2, .rw⟩, ⟨1, 1, .rw⟩, ⟨0, 0, .rw⟩]⟩,
  ⟨0x40040030, 0, 1, 0, 1, 0x0, false, [⟨31, 0, .ro⟩]⟩,
  ⟨0x40040038, 0, 1, 0, 1, 0x0, false, [⟨31, 0, .ro⟩]⟩,
  ⟨0x40040040, 0, 1, 0, 1, 0x0, false, [⟨31, 0, .ro⟩]⟩,
  ⟨0x40040044, 0, 1, 0, 1, 0x0, false, [⟨31, 0, .ro⟩]⟩,
  ⟨0x40040048, 0, 1, 0, 1, 0x0, false, [⟨31, 0, .ro⟩]⟩,
  ⟨0x4004004C, 0, 1, 0, 1, 0x0, false, [⟨31, 0, .ro⟩]⟩,
  ⟨0x40040050, 0, 1, 0, 1, 0x0, false, [⟨31, 0, .ro⟩]⟩,
  ⟨0x40040054, 0, 1, 0, 1, 0x0, false, [⟨31, 0, .ro⟩]⟩,
  ⟨0x40040058, 0, 1, 0, 1, 0x0, false, [⟨31, 0, .ro⟩]⟩,
  ⟨0x4004005C, 0, 1, 0, 1, 0x0, false, [⟨31, 0, .ro⟩]⟩,
  ⟨0x40040060, 0, 1, 0, 1, 0x0, false, [⟨31, 0, .ro⟩]⟩,
  ⟨0x40040064, 0, 1, 0, 1, 0x0, false, [⟨31, 0, .ro⟩]⟩,
  ⟨0x40040068, 0, 1, 0, 1, 0x0, false, [⟨31, 0, .ro⟩]⟩,
  ⟨0x40040034, 0, 1, 0, 1, 0xFF, false, [⟨7, 0, .ro⟩]⟩,
  ⟨0x4004006C, 0, 1, 0, 1, 0x0, false, [⟨7, 0, .ro⟩]⟩]

def regsCENG : List RegDesc := [
  ⟨0x40050000, 0, 1, 0, 1, 0x0, false, [⟨3, 3, .w1c⟩, ⟨2, 2, .ro⟩, ⟨1, 1, .ro⟩]⟩,
  ⟨0x40050004, 0, 1, 0, 1, 0x0, false, [⟨15, 0, .rw⟩]⟩,
  ⟨0x40050008, 0, 1, 0, 1, 0x0, false, [⟨15, 0, .ro⟩]⟩,
  ⟨0x4005000C, 0, 1, 0, 1, 0x5DC00000, false, [⟨31, 16, .ro⟩, ⟨15, 0, .ro⟩]⟩,
  ⟨0x40050010, 0, 1, 0, 1, 0x0, false, [⟨4, 4, .w1c⟩, ⟨3, 3, .w1c⟩, ⟨2, 2, .w1c⟩, ⟨1, 1, .w1c⟩, ⟨0, 0, .w1c⟩]⟩,
  ⟨0x40050014, 0, 1, 0, 1, 0x0, false, [⟨4, 4, .rw⟩, ⟨3, 3, .rw⟩, ⟨2, 2, .rw⟩, ⟨1, 1, .rw⟩, ⟨0, 0, .rw⟩]⟩,
  ⟨0x40050018, 0, 1, 0, 1, 0x0, true, [⟨4, 4, .rw⟩, ⟨3, 3, .rw⟩, ⟨2, 2, .rw⟩, ⟨1, 1, .rw⟩, ⟨0, 0, .rw⟩]⟩,
  ⟨0x40050040, 4, 4, 0, 1, 0x0, false, [⟨31, 0, .rw⟩]⟩,
  ⟨0x40050060, 4, 8, 0, 1, 0x0, false, [⟨31, 0, .ro⟩]⟩,
  ⟨0x40050200, 128, 16, 0, 1, 0x0, false, [⟨31, 31, .rw⟩, ⟨30, 28, .ro⟩, ⟨27, 25, .rw⟩, ⟨24, 19, .rw⟩, ⟨18, 18, .rw⟩, ⟨17, 17, .rw⟩, ⟨16, 15, .rw⟩, ⟨14, 12, .rw⟩, ⟨11, 11, .rw⟩, ⟨7, 7, .rw⟩, ⟨6, 4, .rw⟩]⟩,
  ⟨0x40050204, 128, 16, 0, 1, 0x0, false, [⟨31, 24, .rw⟩, ⟨23, 16, .rw⟩, ⟨15, 8, .rw⟩, ⟨7, 0, .rw⟩]⟩,
  ⟨0x40050208, 128, 16, 0, 1, 0x0, false, [⟨8, 8, .ro⟩, ⟨7, 7, .ro⟩, ⟨6, 6, .ro⟩, ⟨5, 5, .ro⟩, ⟨4, 4, .ro⟩, ⟨3, 3, .w1c⟩, ⟨2, 2, .w1c⟩, ⟨1, 1, .ro⟩, ⟨0, 0, .ro⟩]⟩,
  ⟨0x4005020C, 128, 16, 0, 1, 0x0, false, [⟨31, 16, .rw⟩, ⟨7, 0, .ro⟩]⟩,
  ⟨0x40050210, 128, 16, 0, 1, 0x0, false, [⟨31, 0, .ro⟩]⟩,
  ⟨0x40050214, 128, 16, 0, 1, 0x0, false, [⟨31, 0, .ro⟩]⟩,
  ⟨0x40050218, 128, 16, 0, 1, 0x0, false, [⟨31, 0, .ro⟩]⟩,
  ⟨0x4005021C, 128, 16, 0, 1, 0x0, false, [⟨31, 0, .ro⟩]⟩,
  ⟨0x40050220, 128, 16, 0, 1, 0x0, false, [⟨31, 0, .rw⟩]⟩,
  ⟨0x40050224, 128, 16, 0, 1, 0x0, false, [⟨31, 0, .rw⟩]⟩,
  ⟨0x40050228, 128, 16, 0, 1, 0x0, false, [⟨31, 16, .rw⟩, ⟨15, 0, .rw⟩]⟩,
  ⟨0x40050240, 128, 16, 0, 1, 0x0, false, [⟨31, 0, .rw⟩]⟩,
  ⟨0x40050244, 128, 16, 0, 1, 0x0, false, [⟨31, 0, .rw⟩]⟩,
  ⟨0x40050248, 128, 16, 0, 1, 0x0, false, [⟨31, 0, .rw⟩]⟩,
  ⟨0x4005024C, 128, 16, 0, 1, 0x0, false, [⟨31, 0, .rw⟩]⟩]

def regsCENG1 : List RegDesc := [
  ⟨0x40050250, 128, 16, 0, 1, 0x0, false, [⟨31, 0, .rw⟩]⟩,
  ⟨0x40050254, 128, 16, 0, 1, 0x0, false, [⟨31, 0, .rw⟩]⟩,
  ⟨0x40050258, 128, 16, 0, 1, 0x0, false, [⟨31, 0, .rw⟩]⟩,
  ⟨0x4005025C, 128, 16, 0, 1, 0x0, false, [⟨31, 0, .rw⟩]⟩,
  ⟨0x40050260, 128, 16, 0, 1, 0x0, false, [⟨31, 0, .rw⟩]⟩,
  ⟨0x40050264, 128, 16, 0, 1, 0x0, false, [⟨31, 0, .rw⟩]⟩,
  ⟨0x40050268, 128, 16, 0, 1, 0x0, false, [⟨31, 0, .rw⟩]⟩,
  ⟨0x4005026C, 128, 16, 0, 1, 0x0, false, [⟨31, 0, .rw⟩]⟩,
  ⟨0x40050270, 128, 16, 0, 1, 0x0, false, [⟨31, 0, .rw⟩]⟩,
  ⟨0x40050274, 128, 16, 0, 1, 0x0, false, [⟨31, 0, .rw⟩]⟩,
  ⟨0x40050278, 128, 16, 0, 1, 0x0, false, [⟨31, 0, .rw⟩]⟩,
  ⟨0x4005027C, 128, 16, 0, 1, 0x0, false, [⟨31, 0, .rw⟩]⟩]

def regsDOOR0 : List RegDesc := [
  ⟨0x40060000, 0, 1, 0, 1, 0x0, false, [⟨1, 1, .wo⟩, ⟨0, 0, .rw⟩]⟩,
  ⟨0x40060004, 0, 1, 0, 1, 0x0, false, [⟨11, 10, .ro⟩, ⟨9, 9, .ro⟩, ⟨8, 8, .ro⟩, ⟨7, 7, .ro⟩, ⟨6, 6, .ro⟩, ⟨5, 5, .ro⟩, ⟨4, 4, .w1c⟩, ⟨3, 3, .w1c⟩, ⟨2, 2, .w1c⟩, ⟨1, 1, .w1c⟩, ⟨0, 0, .ro⟩]⟩,
  ⟨0x40060008, 0, 1, 0, 1, 0x0, false, [⟨5, 5, .w1c⟩, ⟨4, 1, .w1c⟩, ⟨0, 0, .w1c⟩]⟩,
  ⟨0x4006000C, 0, 1, 0, 1, 0x0, false, [⟨5, 5, .rw⟩, ⟨4, 1, .rw⟩, ⟨0, 0, .rw⟩]⟩,
  ⟨0x40060010, 0, 1, 0, 1, 0x0, true, [⟨5, 5, .rw⟩, ⟨4, 1, .rw⟩, ⟨0, 0, .rw⟩]⟩,
  ⟨0x40060014, 0, 1, 0, 1, 0x0, true, [⟨0, 0, .rw⟩]⟩,
  ⟨0x40060020, 0, 1, 0, 1, 0x4E20, false, [⟨15, 0, .rwF⟩]⟩,
  ⟨0x40060024, 0, 1, 0, 1, 0xC80190, false, [⟨31, 31, .rw⟩, ⟨25, 16, .rwF⟩, ⟨9, 0, .rwF⟩]⟩,
  ⟨0x40060028, 0, 1, 0, 1, 0x104, false, [⟨8, 8, .rw⟩, ⟨4, 4, .rwF⟩, ⟨3, 0, .rwF⟩]⟩,
  ⟨0x40060030, 0, 1, 0, 1, 0x0, false, [⟨31, 0, .rwF⟩]⟩,
  ⟨0x40060034, 0, 1, 0, 1, 0x80000000, false, [⟨31, 0, .rwF⟩]⟩,
  ⟨0x40060038, 0, 1, 0, 1, 0x0, false, [⟨31, 0, .rwF⟩]⟩,
  ⟨0x4006003C, 0, 1, 0, 1, 0x0, false, [⟨31, 0, .rwF⟩]⟩,
  ⟨0x40060040, 0, 1, 0, 1, 0x0, false, [⟨31, 0, .rwF⟩]⟩,
  ⟨0x40060048, 0, 1, 0, 1, 0x2710, false, [⟨31, 0, .rw⟩]⟩,
  ⟨0x4006004C, 0, 1, 0, 1, 0x4650, false, [⟨31, 0, .rw⟩]⟩,
  ⟨0x40060050, 0, 1, 0, 1, 0xEA60, false, [⟨31, 0, .rw⟩]⟩,
  ⟨0x40060054, 0, 1, 0, 1, 0x0, false, [⟨31, 16, .rw⟩, ⟨15, 8, .rw⟩, ⟨7, 0, .rw⟩]⟩,
  ⟨0x40060058, 4, 3, 0, 1, 0x2000, false, [⟨13, 0, .rw⟩]⟩,
  ⟨0x40060070, 0, 1, 0, 1, 0x0, false, [⟨31, 31, .rw⟩, ⟨30, 30, .rw⟩, ⟨29, 29, .rw⟩, ⟨27, 26, .rwF⟩, ⟨25, 25, .rwF⟩, ⟨15, 0, .rwF⟩]⟩,
  ⟨0x40060078, 0, 1, 0, 1, 0x0, false, [⟨31, 0, .rw⟩]⟩,
  ⟨0x40060080, 0, 1, 0, 1, 0x0, false, [⟨31, 0, .ro⟩]⟩,
  ⟨0x40060084, 0, 1, 0, 1, 0x0, false, [⟨31, 0, .ro⟩]⟩,
  ⟨0x40060088, 0, 1, 0, 1, 0x0, false, [⟨31, 0, .ro⟩]⟩]

def regsDOOR01 : List RegDesc := [
  ⟨0x4006008C, 0, 1, 0, 1, 0x0, false, [⟨31, 0, .ro⟩]⟩,
  ⟨0x40060090, 0, 1, 0, 1, 0x0, false, [⟨31, 0, .ro⟩]⟩,
  ⟨0x40060094, 0, 1, 0, 1, 0x0, false, [⟨31, 0, .ro⟩]⟩,
  ⟨0x40060098, 0, 1, 0, 1, 0x0, false, [⟨31, 0, .ro⟩]⟩,
  ⟨0x4006009C, 0, 1, 0, 1, 0x0, false, [⟨31, 0, .ro⟩]⟩,
  ⟨0x400600A0, 0, 1, 0, 1, 0x0, false, [⟨31, 0, .ro⟩]⟩,
  ⟨0x400600A4, 0, 1, 0, 1, 0x0, false, [⟨31, 0, .ro⟩]⟩,
  ⟨0x400600B0, 0, 1, 0, 1, 0x0, false, [⟨31, 0, .ro⟩]⟩,
  ⟨0x400600B4, 0, 1, 0, 1, 0x0, false, [⟨31, 0, .ro⟩]⟩,
  ⟨0x400600B8, 0, 1, 0, 1, 0x0, false, [⟨31, 0, .ro⟩]⟩,
  ⟨0x400600C0, 4, 3, 0, 1, 0x0, false, [⟨31, 0, .ro⟩]⟩,
  ⟨0x40061000, 4, 1024, 0, 1, 0x0, false, [⟨15, 0, .rwF⟩]⟩,
  ⟨0x40060018, 0, 1, 0, 1, 0x0, true, [⟨1, 1, .rw⟩, ⟨0, 0, .rw⟩]⟩,
  ⟨0x40060100, 0, 1, 0, 1, 0x0, false, [⟨31, 24, .rw⟩, ⟨3, 0, .wo⟩]⟩,
  ⟨0x40060104, 0, 1, 0, 1, 0x0, false, [⟨31, 0, .rw⟩]⟩,
  ⟨0x40060108, 0, 1, 0, 1, 0x0, false, [⟨31, 24, .ro⟩, ⟨23, 16, .ro⟩, ⟨15, 15, .ro⟩, ⟨14, 14, .ro⟩, ⟨13, 13, .ro⟩, ⟨12, 12, .ro⟩, ⟨11, 11, .ro⟩, ⟨10, 8, .ro⟩, ⟨3, 0, .ro⟩]⟩,
  ⟨0x40060110, 0, 1, 0, 1, 0x0, false, [⟨31, 0, .ro⟩]⟩,
  ⟨0x40060114, 0, 1, 0, 1, 0x0, false, [⟨31, 0, .ro⟩]⟩,
  ⟨0x40060118, 0, 1, 0, 1, 0x0, false, [⟨31, 0, .ro⟩]⟩,
  ⟨0x4006011C, 0, 1, 0, 1, 0x0, false, [⟨31, 0, .ro⟩]⟩,
  ⟨0x40060120, 0, 1, 0, 1, 0x0, false, [⟨31, 0, .ro⟩]⟩,
  ⟨0x40060124, 0, 1, 0, 1, 0x0, false, [⟨31, 0, .ro⟩]⟩,
  ⟨0x40060128, 0, 1, 0, 1, 0x0, false, [⟨31, 0, .ro⟩]⟩,
  ⟨0x4006012C, 0, 1, 0, 1, 0x0, false, [⟨31, 0, .ro⟩]⟩]

def regsDOOR02 : List RegDesc := [
  ⟨0x40060130, 0, 1, 0, 1, 0x0, false, [⟨31, 0, .ro⟩]⟩,
  ⟨0x40060200, 4, 64, 0, 1, 0x0, false, [⟨31, 16, .rwp⟩, ⟨15, 0, .rwp⟩]⟩,
  ⟨0x40060400, 4, 128, 0, 1, 0x0, false, [⟨31, 31, .rwp⟩, ⟨15, 0, .rwp⟩]⟩]

def regsDOOR1 : List RegDesc := [
  ⟨0x40070000, 0, 1, 0, 1, 0x0, false, [⟨1, 1, .wo⟩, ⟨0, 0, .rw⟩]⟩,
  ⟨0x40070004, 0, 1, 0, 1, 0x0, false, [⟨11, 10, .ro⟩, ⟨9, 9, .ro⟩, ⟨8, 8, .ro⟩, ⟨7, 7, .ro⟩, ⟨6, 6, .ro⟩, ⟨5, 5, .ro⟩, ⟨4, 4, .w1c⟩, ⟨3, 3, .w1c⟩, ⟨2, 2, .w1c⟩, ⟨1, 1, .w1c⟩, ⟨0, 0, .ro⟩]⟩,
  ⟨0x40070008, 0, 1, 0, 1, 0x0, false, [⟨5, 5, .w1c⟩, ⟨4, 1, .w1c⟩, ⟨0, 0, .w1c⟩]⟩,
  ⟨0x4007000C, 0, 1, 0, 1, 0x0, false, [⟨5, 5, .rw⟩, ⟨4, 1, .rw⟩, ⟨0, 0, .rw⟩]⟩,
  ⟨0x40070010, 0, 1, 0, 1, 0x0, true, [⟨5, 5, .rw⟩, ⟨4, 1, .rw⟩, ⟨0, 0, .rw⟩]⟩,
  ⟨0x40070014, 0, 1, 0, 1, 0x0, true, [⟨0, 0, .rw⟩]⟩,
  ⟨0x40070020, 0, 1, 0, 1, 0x4E20, false, [⟨15, 0, .rwF⟩]⟩,
  ⟨0x40070024, 0, 1, 0, 1, 0xC80190, false, [⟨31, 31, .rw⟩, ⟨25, 16, .rwF⟩, ⟨9, 0, .rwF⟩]⟩,
  ⟨0x40070028, 0, 1, 0, 1, 0x104, false, [⟨8, 8, .rw⟩, ⟨4, 4, .rwF⟩, ⟨3, 0, .rwF⟩]⟩,
  ⟨0x40070030, 0, 1, 0, 1, 0x0, false, [⟨31, 0, .rwF⟩]⟩,
  ⟨0x40070034, 0, 1, 0, 1, 0x80000000, false, [⟨31, 0, .rwF⟩]⟩,
  ⟨0x40070038, 0, 1, 0, 1, 0x0, false, [⟨31, 0, .rwF⟩]⟩,
  ⟨0x4007003C, 0, 1, 0, 1, 0x0, false, [⟨31, 0, .rwF⟩]⟩,
  ⟨0x40070040, 0, 1, 0, 1, 0x0, false, [⟨31, 0, .rwF⟩]⟩,
  ⟨0x40070048, 0, 1, 0, 1, 0x2710, false, [⟨31, 0, .rw⟩]⟩,
  ⟨0x4007004C, 0, 1, 0, 1, 0x4650, false, [⟨31, 0, .rw⟩]⟩,
  ⟨0x40070050, 0, 1, 0, 1, 0xEA60, false, [⟨31, 0, .rw⟩]⟩,
  ⟨0x40070054, 0, 1, 0, 1, 0x0, false, [⟨31, 16, .rw⟩, ⟨15, 8, .rw⟩, ⟨7, 0, .rw⟩]⟩,
  ⟨0x40070058, 4, 3, 0, 1, 0x2000, false, [⟨13, 0, .rw⟩]⟩,
  ⟨0x40070070, 0, 1, 0, 1, 0x0, false, [⟨31, 31, .rw⟩, ⟨30, 30, .rw⟩, ⟨29, 29, .rw⟩, ⟨27, 26, .rwF⟩, ⟨25, 25, .rwF⟩, ⟨15, 0, .rwF⟩]⟩,
  ⟨0x40070078, 0, 1, 0, 1, 0x0, false, [⟨31, 0, .rw⟩]⟩,
  ⟨0x40070080, 0, 1, 0, 1, 0x0, false, [⟨31, 0, .ro⟩]⟩,
  ⟨0x40070084, 0, 1, 0, 1, 0x0, false, [⟨31, 0, .ro⟩]⟩,
  ⟨0x40070088, 0, 1, 0, 1, 0x0, false, [⟨31, 0, .ro⟩]⟩]

def regsDOOR11 : List RegDesc := [
  ⟨0x4007008C, 0, 1, 0, 1, 0x0, false, [⟨31, 0, .ro⟩]⟩,
  ⟨0x40070090, 0, 1, 0, 1, 0x0, false, [⟨31, 0, .ro⟩]⟩,
  ⟨0x40070094, 0, 1, 0, 1, 0x0, false, [⟨31, 0, .ro⟩]⟩,
  ⟨0x40070098, 0, 1, 0, 1, 0x0, false, [⟨31, 0, .ro⟩]⟩,
  ⟨0x4007009C, 0, 1, 0, 1, 0x0, false, [⟨31, 0, .ro⟩]⟩,
  ⟨0x400700A0, 0, 1, 0, 1, 0x0, false, [⟨31, 0, .ro⟩]⟩,
  ⟨0x400700A4, 0, 1, 0, 1, 0x0, false, [⟨31, 0, .ro⟩]⟩,
  ⟨0x400700B0, 0, 1, 0, 1, 0x0, false, [⟨31, 0, .ro⟩]⟩,
  ⟨0x400700B4, 0, 1, 0, 1, 0x0, false, [⟨31, 0, .ro⟩]⟩,
  ⟨0x400700B8, 0, 1, 0, 1, 0x0, false, [⟨31, 0, .ro⟩]⟩,
  ⟨0x400700C0, 4, 3, 0, 1, 0x0, false, [⟨31, 0, .ro⟩]⟩,
  ⟨0x40071000, 4, 1024, 0, 1, 0x0, false, [⟨15, 0, .rwF⟩]⟩,
  ⟨0x40070018, 0, 1, 0, 1, 0x0, true, [⟨1, 1, .rw⟩, ⟨0, 0, .rw⟩]⟩,
  ⟨0x40070100, 0, 1, 0, 1, 0x0, false, [⟨31, 24, .rw⟩, ⟨3, 0, .wo⟩]⟩,
  ⟨0x40070104, 0, 1, 0, 1, 0x0, false, [⟨31, 0, .rw⟩]⟩,
  ⟨0x40070108, 0, 1, 0, 1, 0x0, false, [⟨31, 24, .ro⟩, ⟨23, 16, .ro⟩, ⟨15, 15, .ro⟩, ⟨14, 14, .ro⟩, ⟨13, 13, .ro⟩, ⟨12, 12, .ro⟩, ⟨11, 11, .ro⟩, ⟨10, 8, .ro⟩, ⟨3, 0, .ro⟩]⟩,
  ⟨0x40070110, 0, 1, 0, 1, 0x0, false, [⟨31, 0, .ro⟩]⟩,
  ⟨0x40070114, 0, 1, 0, 1, 0x0, false, [⟨31, 0, .ro⟩]⟩,
  ⟨0x40070118, 0, 1, 0, 1, 0x0, false, [⟨31, 0, .ro⟩]⟩,
  ⟨0x4007011C, 0, 1, 0, 1, 0x0, false, [⟨31, 0, .ro⟩]⟩,
  ⟨0x40070120, 0, 1, 0, 1, 0x0, false, [⟨31, 0, .ro⟩]⟩,
  ⟨0x40070124, 0, 1, 0, 1, 0x0, false, [⟨31, 0, .ro⟩]⟩,
  ⟨0x40070128, 0, 1, 0, 1, 0x0, false, [⟨31, 0, .ro⟩]⟩,
  ⟨0x4007012C, 0, 1, 0, 1, 0x0, false, [⟨31, 0, .ro⟩]⟩]

def regsDOOR12 : List RegDesc := [
  ⟨0x40070130, 0, 1, 0, 1, 0x0, false, [⟨31, 0, .ro⟩]⟩,
  ⟨0x40070200, 4, 64, 0, 1, 0x0, false, [⟨31, 16, .rwp⟩, ⟨15, 0, .rwp⟩]⟩,
  ⟨0x40070400, 4, 128, 0, 1, 0x0, false, [⟨31, 31, .rwp⟩, ⟨15, 0, .rwp⟩]⟩]

def regsLRING : List RegDesc := [
  ⟨0x40080000, 0, 1, 0, 1, 0x0, false, [⟨2, 2, .rw⟩, ⟨1, 1, .wo⟩, ⟨0, 0, .rw⟩]⟩,
  ⟨0x40080004, 0, 1, 0, 1, 0x0, false, [⟨31, 24, .ro⟩, ⟨23, 16, .ro⟩, ⟨15, 8, .ro⟩, ⟨7, 7, .w1c⟩, ⟨6, 6, .ro⟩, ⟨5, 5, .ro⟩, ⟨4, 4, .ro⟩, ⟨2, 0, .ro⟩]⟩,
  ⟨0x40080008, 0, 1, 0, 1, 0x0, true, [⟨0, 0, .w1s⟩]⟩,
  ⟨0x40080010, 0, 1, 0, 1, 0x0, false, [⟨5, 5, .w1c⟩, ⟨4, 4, .w1c⟩, ⟨3, 3, .w1c⟩, ⟨2, 2, .w1c⟩, ⟨1, 1, .w1c⟩, ⟨0, 0, .w1c⟩]⟩,
  ⟨0x40080014, 0, 1, 0, 1, 0x0, false, [⟨5, 5, .rw⟩, ⟨4, 4, .rw⟩, ⟨3, 3, .rw⟩, ⟨2, 2, .rw⟩, ⟨1, 1, .rw⟩, ⟨0, 0, .rw⟩]⟩,
  ⟨0x40080018, 0, 1, 0, 1, 0x0, true, [⟨5, 5, .rw⟩, ⟨4, 4, .rw⟩, ⟨3, 3, .rw⟩, ⟨2, 2, .rw⟩, ⟨1, 1, .rw⟩, ⟨0, 0, .rw⟩]⟩,
  ⟨0x40080020, 0, 1, 0, 1, 0x0, false, [⟨31, 0, .ro⟩]⟩,
  ⟨0x40080024, 0, 1, 0, 1, 0x0, false, [⟨31, 0, .ro⟩]⟩,
  ⟨0x40080028, 0, 1, 0, 1, 0x0, false, [⟨31, 0, .ro⟩]⟩,
  ⟨0x4008002C, 0, 1, 0, 1, 0x0, false, [⟨31, 0, .ro⟩]⟩,
  ⟨0x40080078, 0, 1, 0, 1, 0x0, false, [⟨31, 0, .ro⟩]⟩,
  ⟨0x40080030, 0, 1, 0, 1, 0xFF, false, [⟨23, 16, .rw⟩, ⟨15, 8, .rw⟩, ⟨7, 0, .rw⟩]⟩,
  ⟨0x40080040, 4, 6, 0, 1, 0x0, false, [⟨31, 0, .ro⟩]⟩,
  ⟨0x40080060, 4, 6, 0, 1, 0x0, false, [⟨31, 0, .ro⟩]⟩,
  ⟨0x40080080, 0, 1, 0, 1, 0x0, false, [⟨31, 0, .rw⟩]⟩,
  ⟨0x40080088, 0, 1, 0, 1, 0x0, false, [⟨31, 0, .rw⟩]⟩,
  ⟨0x40080090, 0, 1, 0, 1, 0x0, false, [⟨31, 0, .rw⟩]⟩,
  ⟨0x40080098, 0, 1, 0, 1, 0x0, false, [⟨31, 0, .rw⟩]⟩,
  ⟨0x40080084, 0, 1, 0, 1, 0x0, false, [⟨31, 24, .rw⟩, ⟨15, 8, .rw⟩, ⟨7, 0, .ro⟩]⟩,
  ⟨0x4008008C, 0, 1, 0, 1, 0x0, false, [⟨31, 24, .rw⟩, ⟨15, 8, .ro⟩, ⟨7, 0, .rw⟩]⟩,
  ⟨0x40080094, 0, 1, 0, 1, 0x0, false, [⟨31, 24, .rw⟩, ⟨15, 8, .rw⟩, ⟨7, 0, .ro⟩]⟩,
  ⟨0x4008009C, 0, 1, 0, 1, 0x0, false, [⟨31, 24, .rw⟩, ⟨15, 8, .ro⟩, ⟨7, 0, .rw⟩]⟩,
  ⟨0x40080400, 4, 192, 0, 1, 0x0, false, [⟨31, 16, .rw⟩, ⟨15, 8, .ro⟩, ⟨3, 0, .ro⟩]⟩,
  ⟨0x40080800, 4, 48, 0, 1, 0x0, false, [⟨31, 0, .rwl⟩]⟩]

def regsLRING1 : List RegDesc := [
  ⟨0x40080900, 4, 48, 0, 1, 0x0, false, [⟨31, 0, .rwp⟩]⟩,
  ⟨0x40081000, 8, 192, 0, 1, 0x0, false, [⟨31, 0, .ro⟩]⟩,
  ⟨0x40081004, 8, 192, 0, 1, 0x0, false, [⟨31, 0, .ro⟩]⟩,
  ⟨0x40081800, 8, 192, 0, 1, 0x0, false, [⟨31, 0, .ro⟩]⟩,
  ⟨0x40081804, 8, 192, 0, 1, 0x0, false, [⟨31, 0, .ro⟩]⟩,
  ⟨0x40082000, 4, 192, 0, 1, 0x0, false, [⟨31, 16, .rw⟩, ⟨15, 0, .rw⟩]⟩,
  ⟨0x40082400, 4, 192, 0, 1, 0x0, false, [⟨31, 16, .ro⟩, ⟨15, 8, .ro⟩, ⟨7, 0, .ro⟩]⟩]

def regsBID : List RegDesc := [
  ⟨0x40090000, 0, 1, 0, 1, 0x0, false, [⟨4, 4, .rw⟩, ⟨3, 3, .rw⟩, ⟨2, 2, .rw⟩, ⟨1, 1, .rw⟩, ⟨0, 0, .rw⟩]⟩,
  ⟨0x40090004, 0, 1, 0, 1, 0x0, false, [⟨31, 24, .ro⟩, ⟨23, 16, .ro⟩, ⟨15, 8, .ro⟩, ⟨7, 7, .ro⟩, ⟨6, 6, .ro⟩, ⟨5, 2, .ro⟩]⟩,
  ⟨0x40090008, 0, 1, 0, 1, 0x0, false, [⟨15, 0, .ro⟩]⟩,
  ⟨0x40090010, 0, 1, 0, 1, 0x0, false, [⟨5, 5, .w1c⟩, ⟨4, 4, .w1c⟩, ⟨3, 3, .w1c⟩, ⟨2, 2, .w1c⟩, ⟨1, 1, .w1c⟩, ⟨0, 0, .w1c⟩]⟩,
  ⟨0x40090014, 0, 1, 0, 1, 0x0, false, [⟨5, 5, .rw⟩, ⟨4, 4, .rw⟩, ⟨3, 3, .rw⟩, ⟨2, 2, .rw⟩, ⟨1, 1, .rw⟩, ⟨0, 0, .rw⟩]⟩,
  ⟨0x40090018, 0, 1, 0, 1, 0x0, true, [⟨5, 5, .rw⟩, ⟨4, 4, .rw⟩, ⟨3, 3, .rw⟩, ⟨2, 2, .rw⟩, ⟨1, 1, .rw⟩, ⟨0, 0, .rw⟩]⟩,
  ⟨0x40090020, 0, 1, 0, 1, 0x0, false, [⟨31, 24, .rw⟩, ⟨3, 0, .wo⟩]⟩,
  ⟨0x40090024, 0, 1, 0, 1, 0x0, false, [⟨31, 0, .rw⟩]⟩,
  ⟨0x40090028, 0, 1, 0, 1, 0x0, false, [⟨31, 24, .ro⟩, ⟨23, 16, .ro⟩, ⟨15, 0, .ro⟩]⟩,
  ⟨0x40090100, 8, 64, 0, 1, 0x0, false, [⟨31, 31, .ro⟩, ⟨30, 30, .ro⟩, ⟨29, 29, .ro⟩, ⟨28, 28, .ro⟩, ⟨27, 27, .ro⟩, ⟨26, 25, .ro⟩, ⟨23, 18, .ro⟩, ⟨17, 12, .ro⟩, ⟨9, 8, .ro⟩, ⟨6, 0, .ro⟩]⟩,
  ⟨0x40090104, 8, 64, 0, 1, 0xFFFFFFFF, false, [⟨31, 0, .ro⟩]⟩,
  ⟨0x40091000, 16, 256, 0, 1, 0x0, false, [⟨31, 0, .ro⟩]⟩,
  ⟨0x40091004, 16, 256, 0, 1, 0x0, false, [⟨31, 0, .ro⟩]⟩,
  ⟨0x40091008, 16, 256, 0, 1, 0x0, false, [⟨31, 0, .ro⟩]⟩,
  ⟨0x4009100C, 16, 256, 0, 1, 0x0, false, [⟨31, 0, .ro⟩]⟩]

def regsCANX0 : List RegDesc := [
  ⟨0x400A0000, 0, 1, 0, 1, 0x0, false, [⟨15, 15, .ro⟩, ⟨14, 8, .ro⟩, ⟨7, 6, .ro⟩, ⟨5, 3, .ro⟩, ⟨1, 0, .ro⟩]⟩,
  ⟨0x400A0004, 0, 1, 0, 1, 0x0, false, [⟨31, 24, .ro⟩, ⟨23, 16, .ro⟩, ⟨10, 8, .ro⟩, ⟨2, 2, .ro⟩, ⟨1, 1, .ro⟩, ⟨0, 0, .w1c⟩]⟩,
  ⟨0x400A0010, 0, 1, 0, 1, 0x0, false, [⟨2, 2, .w1c⟩, ⟨1, 1, .w1c⟩, ⟨0, 0, .w1c⟩]⟩,
  ⟨0x400A0014, 0, 1, 0, 1, 0x0, false, [⟨2, 2, .rw⟩, ⟨1, 1, .rw⟩, ⟨0, 0, .rw⟩]⟩,
  ⟨0x400A0018, 0, 1, 0, 1, 0x0, true, [⟨2, 2, .rw⟩, ⟨1, 1, .rw⟩, ⟨0, 0, .rw⟩]⟩]

def regsCANX1 : List RegDesc := [
  ⟨0x400B0000, 0, 1, 0, 1, 0x0, false, [⟨15, 15, .ro⟩, ⟨14, 8, .ro⟩, ⟨7, 6, .ro⟩, ⟨5, 3, .ro⟩, ⟨1, 0, .ro⟩]⟩,
  ⟨0x400B0004, 0, 1, 0, 1, 0x0, false, [⟨31, 24, .ro⟩, ⟨23, 16, .ro⟩, ⟨10, 8, .ro⟩, ⟨2, 2, .ro⟩, ⟨1, 1, .ro⟩, ⟨0, 0, .w1c⟩]⟩,
  ⟨0x400B0010, 0, 1, 0, 1, 0x0, false, [⟨2, 2, .w1c⟩, ⟨1, 1, .w1c⟩, ⟨0, 0, .w1c⟩]⟩,
  ⟨0x400B0014, 0, 1, 0, 1, 0x0, false, [⟨2, 2, .rw⟩, ⟨1, 1, .rw⟩, ⟨0, 0, .rw⟩]⟩,
  ⟨0x400B0018, 0, 1, 0, 1, 0x0, true, [⟨2, 2, .rw⟩, ⟨1, 1, .rw⟩, ⟨0, 0, .rw⟩]⟩]

def regsODE : List RegDesc := [
  ⟨0x400C0000, 0, 1, 0, 1, 0x0, false, [⟨16, 16, .ro⟩, ⟨8, 0, .ro⟩]⟩,
  ⟨0x400C0100, 128, 5, 0, 1, 0x0, false, [⟨31, 31, .rw⟩, ⟨30, 24, .rw⟩, ⟨23, 8, .rw⟩, ⟨7, 0, .rw⟩]⟩,
  ⟨0x400C010C, 128, 5, 0, 1, 0x0, false, [⟨31, 31, .rw⟩, ⟨19, 0, .rw⟩]⟩,
  ⟨0x400C0110, 128, 5, 0, 1, 0x0, false, [⟨20, 0, .ro⟩]⟩,
  ⟨0x400C0104, 128, 5, 0, 1, 0x0, false, [⟨31, 0, .ro⟩]⟩,
  ⟨0x400C0108, 128, 5, 0, 1, 0x0, false, [⟨31, 0, .ro⟩]⟩,
  ⟨0x400C0140, 128, 5, 4, 16, 0x0, false, [⟨31, 0, .rw⟩]⟩]

def regsIO24 : List RegDesc := [
  ⟨0x400D0000, 4, 2, 0, 1, 0x0, false, [⟨31, 0, .ro⟩]⟩,
  ⟨0x400D0008, 4, 2, 0, 1, 0x0, false, [⟨31, 0, .ro⟩]⟩,
  ⟨0x400D0020, 4, 2, 0, 1, 0x0, false, [⟨31, 0, .w1c⟩]⟩,
  ⟨0x400D0010, 0, 1, 0, 1, 0x0, false, [⟨4, 4, .w1c⟩, ⟨3, 3, .w1c⟩, ⟨2, 2, .w1c⟩, ⟨1, 1, .w1c⟩, ⟨0, 0, .w1c⟩]⟩,
  ⟨0x400D0014, 0, 1, 0, 1, 0x0, false, [⟨4, 4, .rw⟩, ⟨3, 3, .rw⟩, ⟨2, 2, .rw⟩, ⟨1, 1, .rw⟩, ⟨0, 0, .rw⟩]⟩,
  ⟨0x400D0018, 0, 1, 0, 1, 0x0, true, [⟨4, 4, .rw⟩, ⟨3, 3, .rw⟩, ⟨2, 2, .rw⟩, ⟨1, 1, .rw⟩, ⟨0, 0, .rw⟩]⟩,
  ⟨0x400D0030, 0, 1, 0, 1, 0x0, false, [⟨31, 0, .rw⟩]⟩,
  ⟨0x400D0034, 0, 1, 0, 1, 0x0, false, [⟨31, 0, .wo⟩]⟩,
  ⟨0x400D0038, 0, 1, 0, 1, 0x0, false, [⟨31, 0, .wo⟩]⟩,
  ⟨0x400D003C, 0, 1, 0, 1, 0x0, true, [⟨31, 0, .rw⟩]⟩,
  ⟨0x400D0050, 0, 1, 0, 1, 0x0, false, [⟨31, 0, .ro⟩]⟩,
  ⟨0x400D0054, 0, 1, 0, 1, 0x0, false, [⟨31, 0, .ro⟩]⟩,
  ⟨0x400D0058, 0, 1, 0, 1, 0x0, false, [⟨31, 0, .ro⟩]⟩,
  ⟨0x400D0060, 4, 2, 0, 1, 0x0, false, [⟨17, 16, .ro⟩, ⟨15, 0, .ro⟩]⟩,
  ⟨0x400D0070, 0, 1, 0, 1, 0x0, false, [⟨5, 0, .wo⟩]⟩,
  ⟨0x400D0100, 4, 52, 0, 1, 0x0, false, [⟨16, 16, .rw⟩, ⟨15, 8, .rw⟩, ⟨5, 0, .rwp⟩]⟩,
  ⟨0x400D0200, 4, 32, 0, 1, 0x0, false, [⟨5, 0, .rwp⟩]⟩,
  ⟨0x400D0300, 4, 36, 0, 1, 0x0, false, [⟨31, 16, .ro⟩, ⟨15, 12, .ro⟩, ⟨11, 10, .ro⟩, ⟨9, 8, .ro⟩, ⟨4, 4, .rw⟩, ⟨2, 2, .ro⟩, ⟨1, 1, .ro⟩, ⟨0, 0, .ro⟩]⟩]

def regsSOUT : List RegDesc := [
  ⟨0x400E0000, 0, 1, 0, 1, 0x0, false, [⟨11, 8, .ro⟩, ⟨5, 4, .ro⟩, ⟨3, 0, .ro⟩]⟩,
  ⟨0x400E0004, 0, 1, 0, 1, 0x0, true, [⟨4, 0, .rw⟩]⟩,
  ⟨0x400E0008, 0, 1, 0, 1, 0x0, false, [⟨4, 0, .ro⟩]⟩,
  ⟨0x400E0010, 0, 1, 0, 1, 0x0, false, [⟨4, 4, .w1c⟩, ⟨3, 3, .w1c⟩, ⟨2, 2, .w1c⟩, ⟨1, 1, .w1c⟩, ⟨0, 0, .w1c⟩]⟩,
  ⟨0x400E0014, 0, 1, 0, 1, 0x0, false, [⟨4, 4, .rw⟩, ⟨3, 3, .rw⟩, ⟨2, 2, .rw⟩, ⟨1, 1, .rw⟩, ⟨0, 0, .rw⟩]⟩,
  ⟨0x400E0018, 0, 1, 0, 1, 0x0, true, [⟨4, 4, .rw⟩, ⟨3, 3, .rw⟩, ⟨2, 2, .rw⟩, ⟨1, 1, .rw⟩, ⟨0, 0, .rw⟩]⟩,
  ⟨0x400E0020, 0, 1, 0, 1, 0x0, false, [⟨15, 12, .ro⟩, ⟨11, 8, .ro⟩, ⟨4, 4, .ro⟩, ⟨0, 0, .ro⟩]⟩,
  ⟨0x400E0024, 0, 1, 0, 1, 0x0, false, [⟨31, 0, .ro⟩]⟩,
  ⟨0x400E0028, 0, 1, 0, 1, 0x0, false, [⟨31, 0, .ro⟩]⟩,
  ⟨0x400E0100, 16, 4, 0, 1, 0x0, false, [⟨19, 16, .ro⟩, ⟨11, 10, .ro⟩, ⟨9, 8, .ro⟩, ⟨3, 3, .ro⟩, ⟨2, 2, .ro⟩, ⟨1, 1, .ro⟩, ⟨0, 0, .ro⟩]⟩,
  ⟨0x400E0180, 16, 2, 0, 1, 0x0, false, [⟨19, 16, .ro⟩, ⟨11, 10, .ro⟩, ⟨9, 8, .ro⟩, ⟨3, 3, .ro⟩, ⟨2, 2, .ro⟩, ⟨1, 1, .ro⟩, ⟨0, 0, .ro⟩]⟩,
  ⟨0x400E0104, 16, 4, 0, 1, 0x0, false, [⟨31, 16, .ro⟩, ⟨15, 0, .ro⟩]⟩,
  ⟨0x400E0200, 4, 10, 0, 1, 0x0, false, [⟨31, 0, .ro⟩]⟩]

def regsXCMP : List RegDesc := [
  ⟨0x400F0000, 0, 1, 0, 1, 0x0, false, [⟨15, 8, .ro⟩, ⟨7, 7, .ro⟩, ⟨5, 0, .ro⟩]⟩,
  ⟨0x400F0004, 0, 1, 0, 1, 0x0, false, [⟨5, 0, .ro⟩]⟩,
  ⟨0x400F0008, 0, 1, 0, 1, 0x0, true, [⟨0, 0, .w1s⟩]⟩,
  ⟨0x400F0010, 0, 1, 0, 1, 0xC350, false, [⟨31, 0, .rwl⟩]⟩,
  ⟨0x400F0014, 0, 1, 0, 1, 0x200C350, false, [⟨31, 0, .rwl⟩]⟩,
  ⟨0x400F0020, 0, 1, 0, 1, 0x0, false, [⟨2, 2, .w1c⟩, ⟨1, 1, .w1c⟩, ⟨0, 0, .w1c⟩]⟩,
  ⟨0x400F0024, 0, 1, 0, 1, 0x0, false, [⟨2, 2, .rw⟩, ⟨1, 1, .rw⟩, ⟨0, 0, .rw⟩]⟩,
  ⟨0x400F0028, 0, 1, 0, 1, 0x0, true, [⟨2, 2, .rw⟩, ⟨1, 1, .rw⟩, ⟨0, 0, .rw⟩]⟩,
  ⟨0x400F0040, 0, 1, 0, 1, 0x0, true, [⟨31, 0, .rw⟩]⟩,
  ⟨0x400F0044, 0, 1, 0, 1, 0x0, true, [⟨31, 0, .rw⟩]⟩,
  ⟨0x400F0048, 0, 1, 0, 1, 0x0, true, [⟨31, 0, .rw⟩]⟩,
  ⟨0x400F004C, 0, 1, 0, 1, 0x0, true, [⟨31, 0, .rw⟩]⟩,
  ⟨0x400F0050, 0, 1, 0, 1, 0x0, true, [⟨31, 0, .rw⟩]⟩,
  ⟨0x400F0054, 0, 1, 0, 1, 0x0, true, [⟨31, 0, .rw⟩]⟩,
  ⟨0x400F0058, 0, 1, 0, 1, 0x0, true, [⟨31, 0, .rw⟩]⟩,
  ⟨0x400F0080, 0, 1, 0, 1, 0x0, false, [⟨31, 0, .ro⟩]⟩,
  ⟨0x400F0084, 0, 1, 0, 1, 0x0, false, [⟨31, 0, .ro⟩]⟩,
  ⟨0x400F0088, 0, 1, 0, 1, 0x0, false, [⟨31, 0, .ro⟩]⟩,
  ⟨0x400F008C, 0, 1, 0, 1, 0x0, false, [⟨31, 0, .ro⟩]⟩,
  ⟨0x400F0090, 0, 1, 0, 1, 0x0, false, [⟨31, 0, .ro⟩]⟩,
  ⟨0x400F0094, 0, 1, 0, 1, 0x0, false, [⟨31, 0, .ro⟩]⟩,
  ⟨0x400F0098, 0, 1, 0, 1, 0x0, false, [⟨31, 0, .ro⟩]⟩,
  ⟨0x400F005C, 0, 1, 0, 1, 0x0, true, [⟨31, 31, .wo⟩, ⟨30, 30, .wo⟩, ⟨7, 0, .wo⟩]⟩,
  ⟨0x400F009C, 0, 1, 0, 1, 0x0, false, [⟨31, 0, .ro⟩]⟩]

def regsXCMP1 : List RegDesc := [
  ⟨0x400F00A0, 0, 1, 0, 1, 0x0, false, [⟨31, 0, .ro⟩]⟩,
  ⟨0x400F00A4, 0, 1, 0, 1, 0x0, false, [⟨31, 0, .ro⟩]⟩,
  ⟨0x400F00A8, 0, 1, 0, 1, 0x0, false, [⟨31, 0, .ro⟩]⟩,
  ⟨0x400F00AC, 0, 1, 0, 1, 0x0, false, [⟨31, 0, .ro⟩]⟩,
  ⟨0x400F00B0, 0, 1, 0, 1, 0x0, false, [⟨31, 0, .ro⟩]⟩,
  ⟨0x400F0100, 0, 1, 0, 1, 0x0, true, [⟨31, 0, .wo⟩]⟩,
  ⟨0x400F0104, 0, 1, 0, 1, 0x0, true, [⟨31, 0, .wo⟩]⟩]

def regsMBOX : List RegDesc := [
  ⟨0x40100000, 0, 1, 0, 1, 0x0, false, [⟨19, 16, .ro⟩, ⟨11, 9, .wo⟩, ⟨7, 5, .ro⟩, ⟨3, 2, .ro⟩, ⟨0, 0, .wo⟩]⟩,
  ⟨0x40100010, 16, 5, 0, 1, 0x0, false, [⟨31, 16, .w1c⟩, ⟨15, 0, .w1c⟩]⟩,
  ⟨0x40100014, 16, 5, 0, 1, 0x0, false, [⟨31, 16, .rw⟩, ⟨15, 0, .rw⟩]⟩,
  ⟨0x40100018, 16, 5, 0, 1, 0x0, false, [⟨15, 0, .w1c⟩]⟩,
  ⟨0x4010001C, 16, 5, 0, 1, 0x0, false, [⟨15, 0, .rw⟩]⟩,
  ⟨0x40100100, 64, 16, 0, 1, 0x0, false, [⟨31, 31, .rw⟩, ⟨30, 30, .rw⟩, ⟨11, 8, .rw⟩, ⟨3, 0, .rw⟩]⟩,
  ⟨0x40100104, 64, 16, 0, 1, 0x0, false, [⟨15, 8, .ro⟩, ⟨4, 4, .w1c⟩, ⟨3, 3, .ro⟩, ⟨2, 2, .ro⟩, ⟨1, 1, .ro⟩, ⟨0, 0, .ro⟩]⟩,
  ⟨0x40100108, 64, 16, 0, 1, 0x0, false, [⟨31, 31, .wo⟩, ⟨30, 30, .rw⟩, ⟨29, 29, .rw⟩, ⟨15, 8, .rw⟩, ⟨3, 0, .rw⟩]⟩,
  ⟨0x4010010C, 64, 16, 0, 1, 0x0, false, [⟨0, 0, .wo⟩]⟩,
  ⟨0x40100120, 64, 16, 4, 8, 0x0, false, [⟨31, 0, .rw⟩]⟩,
  ⟨0x40100800, 4, 32, 0, 1, 0x0, false, [⟨3, 0, .rw⟩]⟩]

def regsMEMC : List RegDesc := [
  ⟨0x40110300, 0, 1, 0, 1, 0x0, false, [⟨15, 8, .w1c⟩, ⟨7, 0, .w1c⟩]⟩,
  ⟨0x40110304, 0, 1, 0, 1, 0x0, false, [⟨15, 8, .rw⟩, ⟨7, 0, .rw⟩]⟩,
  ⟨0x40110308, 0, 1, 0, 1, 0x0, true, [⟨15, 8, .rw⟩, ⟨7, 0, .rw⟩]⟩,
  ⟨0x40110600, 32, 8, 0, 1, 0x0, false, [⟨3, 3, .rw⟩, ⟨2, 2, .wo⟩, ⟨1, 1, .wo⟩, ⟨0, 0, .rw⟩]⟩,
  ⟨0x40110604, 32, 8, 0, 1, 0x0, false, [⟨15, 8, .ro⟩, ⟨2, 2, .w1c⟩, ⟨1, 1, .w1c⟩, ⟨0, 0, .ro⟩]⟩,
  ⟨0x40110608, 32, 8, 0, 1, 0x0, false, [⟨31, 0, .rw⟩]⟩,
  ⟨0x4011060C, 32, 8, 0, 1, 0x0, false, [⟨31, 0, .rw⟩]⟩,
  ⟨0x40110610, 32, 8, 0, 1, 0x0, false, [⟨31, 0, .ro⟩]⟩,
  ⟨0x40110614, 32, 8, 0, 1, 0x0, false, [⟨31, 0, .ro⟩]⟩,
  ⟨0x40110618, 32, 8, 0, 1, 0x0, false, [⟨26, 0, .rw⟩]⟩,
  ⟨0x40110004, 0, 1, 0, 1, 0x0, true, [⟨4, 0, .rw⟩]⟩,
  ⟨0x40110010, 0, 1, 0, 1, 0x0, false, [⟨3, 3, .w1c⟩, ⟨2, 2, .w1c⟩, ⟨1, 1, .w1c⟩, ⟨0, 0, .w1c⟩]⟩,
  ⟨0x40110014, 0, 1, 0, 1, 0x0, false, [⟨3, 3, .rw⟩, ⟨2, 2, .rw⟩, ⟨1, 1, .rw⟩, ⟨0, 0, .rw⟩]⟩,
  ⟨0x40110018, 0, 1, 0, 1, 0x0, true, [⟨3, 3, .rw⟩, ⟨2, 2, .rw⟩, ⟨1, 1, .rw⟩, ⟨0, 0, .rw⟩]⟩,
  ⟨0x40110020, 4, 3, 0, 1, 0x0, false, [⟨31, 0, .rw⟩]⟩,
  ⟨0x40110030, 4, 3, 0, 1, 0x0, false, [⟨31, 0, .rw⟩]⟩,
  ⟨0x40110040, 0, 1, 0, 1, 0x0, false, [⟨31, 0, .ro⟩]⟩,
  ⟨0x40110044, 0, 1, 0, 1, 0x0, false, [⟨31, 0, .ro⟩]⟩,
  ⟨0x40110048, 0, 1, 0, 1, 0x0, false, [⟨31, 0, .ro⟩]⟩,
  ⟨0x40110080, 0, 1, 0, 1, 0x0, false, [⟨31, 0, .rw⟩]⟩,
  ⟨0x40110084, 0, 1, 0, 1, 0x0, false, [⟨31, 0, .rw⟩]⟩,
  ⟨0x40110088, 0, 1, 0, 1, 0x0, false, [⟨31, 0, .rw⟩]⟩,
  ⟨0x4011008C, 0, 1, 0, 1, 0x0, false, [⟨31, 0, .rw⟩]⟩,
  ⟨0x40110090, 0, 1, 0, 1, 0x0, false, [⟨31, 0, .rw⟩]⟩]

def regsMEMC1 : List RegDesc := [
  ⟨0x40110094, 0, 1, 0, 1, 0x0, false, [⟨1, 1, .w1c⟩, ⟨0, 0, .rw⟩]⟩,
  ⟨0x40110100, 0, 1, 0, 1, 0x0, false, [⟨31, 31, .rwi⟩, ⟨30, 29, .rwi⟩, ⟨28, 0, .rwi⟩]⟩,
  ⟨0x40110110, 0, 1, 0, 1, 0x0, false, [⟨31, 31, .rwi⟩, ⟨30, 29, .rwi⟩, ⟨28, 0, .rwi⟩]⟩,
  ⟨0x40110104, 0, 1, 0, 1, 0x0, false, [⟨31, 16, .ro⟩, ⟨7, 4, .ro⟩, ⟨0, 0, .ro⟩]⟩,
  ⟨0x40110114, 0, 1, 0, 1, 0x0, false, [⟨31, 16, .ro⟩, ⟨7, 4, .ro⟩, ⟨0, 0, .ro⟩]⟩,
  ⟨0x40110200, 4, 16, 0, 1, 0x0, false, [⟨31, 31, .ro⟩, ⟨30, 29, .ro⟩, ⟨28, 0, .ro⟩]⟩,
  ⟨0x40110400, 4, 64, 0, 1, 0x0, false, [⟨31, 31, .ro⟩, ⟨30, 29, .ro⟩, ⟨28, 0, .ro⟩]⟩]

def regsSCRB : List RegDesc := [
  ⟨0x40120000, 0, 1, 0, 1, 0x0, false, [⟨31, 0, .ro⟩]⟩,
  ⟨0x40120004, 0, 1, 0, 1, 0x0, false, [⟨31, 0, .ro⟩]⟩,
  ⟨0x40120014, 0, 1, 0, 1, 0x0, false, [⟨31, 0, .ro⟩]⟩,
  ⟨0x40120018, 0, 1, 0, 1, 0x0, false, [⟨31, 0, .ro⟩]⟩,
  ⟨0x40120010, 0, 1, 0, 1, 0x5A0000A, false, [⟨31, 16, .rw⟩, ⟨7, 0, .rw⟩]⟩]

def regsEVR : List RegDesc := [
  ⟨0x40130000, 0, 1, 0, 1, 0x0, false, [⟨7, 4, .ro⟩, ⟨3, 3, .ro⟩, ⟨2, 2, .ro⟩, ⟨1, 1, .ro⟩, ⟨0, 0, .ro⟩]⟩,
  ⟨0x40130004, 0, 1, 0, 1, 0x0, false, [⟨31, 0, .ro⟩]⟩,
  ⟨0x40130008, 0, 1, 0, 1, 0x0, false, [⟨31, 0, .ro⟩]⟩,
  ⟨0x4013000C, 0, 1, 0, 1, 0x0, false, [⟨31, 0, .rw⟩]⟩,
  ⟨0x40130010, 0, 1, 0, 1, 0x0, false, [⟨31, 0, .rw⟩]⟩,
  ⟨0x40130014, 0, 1, 0, 1, 0x0, false, [⟨31, 0, .rw⟩]⟩,
  ⟨0x40130018, 0, 1, 0, 1, 0x0, false, [⟨31, 0, .rw⟩]⟩,
  ⟨0x40130020, 0, 1, 0, 1, 0x0, false, [⟨2, 2, .w1c⟩, ⟨1, 1, .w1c⟩, ⟨0, 0, .w1c⟩]⟩,
  ⟨0x40130024, 0, 1, 0, 1, 0x0, false, [⟨2, 2, .rw⟩, ⟨1, 1, .rw⟩, ⟨0, 0, .rw⟩]⟩,
  ⟨0x40130028, 0, 1, 0, 1, 0x0, true, [⟨2, 2, .rw⟩, ⟨1, 1, .rw⟩, ⟨0, 0, .rw⟩]⟩,
  ⟨0x40130030, 0, 1, 0, 1, 0x0, false, [⟨31, 0, .wo⟩]⟩,
  ⟨0x40131000, 4, 1024, 0, 1, 0x0, false, [⟨31, 0, .ro⟩]⟩]

def regsFLSH : List RegDesc := [
  ⟨0x40150000, 0, 1, 0, 1, 0x0, false, [⟨15, 8, .ro⟩, ⟨1, 0, .ro⟩]⟩]

def regsPRES : List RegDesc := [
  ⟨0x40160000, 0, 1, 0, 1, 0x0, false, [⟨7, 7, .ro⟩, ⟨6, 6, .ro⟩, ⟨5, 5, .ro⟩, ⟨4, 4, .ro⟩, ⟨3, 3, .ro⟩, ⟨2, 2, .ro⟩, ⟨1, 0, .ro⟩]⟩,
  ⟨0x40160004, 0, 1, 0, 1, 0x0, true, [⟨0, 0, .rw⟩]⟩,
  ⟨0x40160008, 0, 1, 0, 1, 0x0, false, [⟨0, 0, .rwi⟩]⟩]

def regsANA : List RegDesc := [
  ⟨0x40170000, 0, 1, 0, 1, 0x0, false, [⟨31, 0, .ro⟩]⟩,
  ⟨0x40170004, 0, 1, 0, 1, 0x0, false, [⟨31, 0, .ro⟩]⟩,
  ⟨0x40170008, 0, 1, 0, 1, 0x0, false, [⟨31, 0, .ro⟩]⟩,
  ⟨0x4017000C, 0, 1, 0, 1, 0x0, false, [⟨31, 0, .ro⟩]⟩,
  ⟨0x40170010, 0, 1, 0, 1, 0x0, false, [⟨31, 0, .ro⟩]⟩,
  ⟨0x40170014, 0, 1, 0, 1, 0x0, false, [⟨31, 0, .ro⟩]⟩,
  ⟨0x40170020, 16, 2, 0, 1, 0x0, false, [⟨31, 0, .ro⟩]⟩,
  ⟨0x40170024, 16, 2, 0, 1, 0x0, false, [⟨31, 0, .ro⟩]⟩,
  ⟨0x40170018, 0, 1, 0, 1, 0x0, false, [⟨5, 5, .ro⟩, ⟨4, 4, .ro⟩, ⟨2, 1, .ro⟩, ⟨0, 0, .ro⟩]⟩]

def regsETH : List RegDesc := [
  ⟨0x40180000, 0, 1, 0, 1, 0x0, false, [⟨31, 0, .ro⟩]⟩,
  ⟨0x40180004, 0, 1, 0, 1, 0x0, false, [⟨31, 0, .ro⟩]⟩,
  ⟨0x40180008, 0, 1, 0, 1, 0x0, false, [⟨31, 0, .ro⟩]⟩]

def regsBOOT : List RegDesc := [
  ⟨0x401A0000, 0, 1, 0, 1, 0x0, false, [⟨11, 8, .ro⟩, ⟨7, 7, .ro⟩, ⟨6, 6, .ro⟩, ⟨5, 5, .ro⟩, ⟨4, 4, .ro⟩, ⟨2, 2, .ro⟩, ⟨1, 1, .ro⟩, ⟨0, 0, .ro⟩]⟩,
  ⟨0x401A0004, 0, 1, 0, 1, 0x0, false, [⟨23, 16, .ro⟩, ⟨15, 8, .ro⟩, ⟨7, 0, .ro⟩]⟩,
  ⟨0x401A0020, 0, 1, 0, 1, 0x0, false, [⟨1, 0, .wo⟩]⟩,
  ⟨0x401A0024, 0, 1, 0, 1, 0x0, false, [⟨1, 0, .wo⟩]⟩]

/-- The register table of the block with the given number (its base is 0x4000_0000 + 0x1_0000 × number). -/
def blockRegs : Nat → List RegDesc
  | 0 => regsSYS
  | 1 => regsTICK
  | 2 => regsPOSX ++ regsPOSX1
  | 3 => regsCMPL
  | 4 => regsPGEN
  | 5 => regsCENG ++ regsCENG1
  | 6 => regsDOOR0 ++ regsDOOR01 ++ regsDOOR02
  | 7 => regsDOOR1 ++ regsDOOR11 ++ regsDOOR12
  | 8 => regsLRING ++ regsLRING1
  | 9 => regsBID
  | 10 => regsCANX0
  | 11 => regsCANX1
  | 12 => regsODE
  | 13 => regsIO24
  | 14 => regsSOUT
  | 15 => regsXCMP ++ regsXCMP1
  | 16 => regsMBOX
  | 17 => regsMEMC ++ regsMEMC1
  | 18 => regsSCRB
  | 19 => regsEVR
  | 20 => []
  | 21 => regsFLSH
  | 22 => regsPRES
  | 23 => regsANA
  | 24 => regsETH
  | 25 => []
  | 26 => regsBOOT
  | _ => []

/-- The descriptor of the register at an address, if a register stands there. (DEDUCED, log 2) -/
def regDesc? (a : Nat) : Option RegDesc :=
  (blockRegs (a / 0x10000 % 0x4000)).find? (fun d => d.covers a)

/-- A field's width in bits. -/
def Fld.width (f : Fld) : Nat := f.hi + 1 - f.lo

/-- The mask of bits `lo` to `hi`. -/
def bitMask (hi lo : Nat) : Nat := (2 ^ (hi + 1 - lo) - 1) * 2 ^ lo

/-- The bits of a descriptor whose access code satisfies `p`. -/
def RegDesc.maskOf (d : RegDesc) (p : Acc → Bool) : Nat :=
  d.bits.foldl (fun m b => if p b.acc then m + bitMask b.hi b.lo else m) 0

/-! ## The sine table at reset (R136): round(32,767 × sin(2πi/1,024)), quarter wave -/

def sineQ0 : List Nat := [0, 201, 402, 603, 804, 1005, 1206, 1407, 1608, 1809, 2009, 2210, 2410, 2611, 2811, 3012, 3212, 3412, 3612, 3811, 4011, 4210, 4410, 4609, 4808, 5007, 5205, 5404, 5602, 5800, 5998, 6195]
def sineQ1 : List Nat := [6393, 6590, 6786, 6983, 7179, 7375, 7571, 7767, 7962, 8157, 8351, 8545, 8739, 8933, 9126, 9319, 9512, 9704, 9896, 10087, 10278, 10469, 10659, 10849, 11039, 11228, 11417, 11605, 11793, 11980, 12167, 12353]
def sineQ2 : List Nat := [12539, 12725, 12910, 13094, 13279, 13462, 13645, 13828, 14010, 14191, 14372, 14553, 14732, 14912, 15090, 15269, 15446, 15623, 15800, 15976, 16151, 16325, 16499, 16673, 16846, 17018, 17189, 17360, 17530, 17700, 17869, 18037]
def sineQ3 : List Nat := [18204, 18371, 18537, 18703, 18868, 19032, 19195, 19357, 19519, 19680, 19841, 20000, 20159, 20317, 20475, 20631, 20787, 20942, 21096, 21250, 21403, 21554, 21705, 21856, 22005, 22154, 22301, 22448, 22594, 22739, 22884, 23027]
def sineQ4 : List Nat := [23170, 23311, 23452, 23592, 23731, 23870, 24007, 24143, 24279, 24413, 24547, 24680, 24811, 24942, 25072, 25201, 25329, 25456, 25582, 25708, 25832, 25955, 26077, 26198, 26319, 26438, 26556, 26674, 26790, 26905, 27019, 27133]
def sineQ5 : List Nat := [27245, 27356, 27466, 27575, 27683, 27790, 27896, 28001, 28105, 28208, 28310, 28411, 28510, 28609, 28706, 28803, 28898, 28992, 29085, 29177, 29268, 29358, 29447, 29534, 29621, 29706, 29791, 29874, 29956, 30037, 30117, 30195]
def sineQ6 : List Nat := [30273, 30349, 30424, 30498, 30571, 30643, 30714, 30783, 30852, 30919, 30985, 31050, 31113, 31176, 31237, 31297, 31356, 31414, 31470, 31526, 31580, 31633, 31685, 31736, 31785, 31833, 31880, 31926, 31971, 32014, 32057, 32098]
def sineQ7 : List Nat := [32137, 32176, 32213, 32250, 32285, 32318, 32351, 32382, 32412, 32441, 32469, 32495, 32521, 32545, 32567, 32589, 32609, 32628, 32646, 32663, 32678, 32692, 32705, 32717, 32728, 32737, 32745, 32752, 32757, 32761, 32765, 32766]
def sineQ8 : List Nat := [32767]

/-- Entry `i` of the quarter wave, 0 to 256. (DESIGN CHOICE, log 66) -/
def sineQuarter (i : Nat) : Nat :=
  (match i / 32 with
    | 0 => sineQ0 | 1 => sineQ1 | 2 => sineQ2 | 3 => sineQ3 | 4 => sineQ4
    | 5 => sineQ5 | 6 => sineQ6 | 7 => sineQ7 | _ => sineQ8).getD (i % 32) 0

/-- Entry `i` of the default sine table as a 16-bit two's complement number. (DESIGN CHOICE, log 66) -/
def sineTable (i : Nat) : Nat :=
  let k := i % 1024
  let v := if k ≤ 256 then sineQuarter k else if k ≤ 512 then sineQuarter (512 - k)
           else if k ≤ 768 then sineQuarter (k - 512) else sineQuarter (1024 - k)
  if k ≤ 512 then v else (65536 - v) % 65536

/-- The reset words that depend on the index or on manufacture (R440): SYS.ID, SYS.ROMREV, CENG.SLOT[n].CFG, MBOX.CH[n].CFG, IO24.INCFG[c], IO24.OUTMAP[n],
DOOR[d].FB and DOOR[d].TABLE[i]. -/
def resetIndexed (a : Nat) : Nat :=
  if a = R.SYS_ID then 0x01280000 + 256 * Config.badgerRevision.toNat + Config.siliconRevision.toNat
  else if a = R.SYS_ROMREV then Config.romRevision.toNat
  else if R.CENG_SLOT_CFG 0 ≤ a ∧ a < R.CENG_SLOT_CFG 16 ∧ (a - R.CENG_SLOT_CFG 0) % 128 = 0 then
    (let n := (a - R.CENG_SLOT_CFG 0) / 128
     if n = 0 then 0x10000000 else if n ≤ 2 then 0x20000000 else 0x30000000)
  else if R.MBOX_CH_CFG 0 ≤ a ∧ a < R.MBOX_CH_CFG 16 ∧ (a - R.MBOX_CH_CFG 0) % 64 = 0 then
    (let n := (a - R.MBOX_CH_CFG 0) / 64
     if n ≤ 3 then 0x80000501 + n else if n ≤ 7 then 0xC0000005 + 0x100 * (n - 3) else 0)
  else if R.IO24_INCFG 0 ≤ a ∧ a < R.IO24_INCFG 52 then 0x1E00 + (a - R.IO24_INCFG 0) / 4
  else if R.IO24_OUTMAP 0 ≤ a ∧ a < R.IO24_OUTMAP 32 then (a - R.IO24_OUTMAP 0) / 4
  else if a = R.DOOR_FB 0 then 0x04000000
  else if a = R.DOOR_FB 1 then 0x0A000000
  else if R.DOOR_TABLE 0 0 ≤ a ∧ a < R.DOOR_TABLE 0 1024 then sineTable ((a - R.DOOR_TABLE 0 0) / 4)
  else if R.DOOR_TABLE 1 0 ≤ a ∧ a < R.DOOR_TABLE 1 1024 then sineTable ((a - R.DOOR_TABLE 1 0) / 4)
  else 0

/-- The reset words that are not zero at an address with one register (R9: what holds no register reads 0). (DEDUCED, log 2) -/
def resetWord (a : Nat) : BitVec 32 :=
  match regDesc? a with
  | some d => BitVec.ofNat 32 (if d.rst = 0 then resetIndexed a else d.rst)
  | none => 0

end Sys2Proof.Machine
end

