-- ==== Sys2Proof/Machine/Float.lean ====
section
/-! DEFINITION. IEEE 754 binary64 as PGEN and BID compute it (R91): a finite value is m · 2^e with |m| < 2^53, every operation
is exact and then rounded to nearest, ties to even, with gradual underflow. The values of R89 to R106 stay far inside the
range, so infinities do not arise; a division by zero answers 0 and no routine asks for one. -/

namespace Sys2Proof.Machine

/-- A finite binary64 value m · 2^e. -/
structure F64 where
  m : Int := 0
  e : Int := 0
  deriving DecidableEq, Repr


/-- The number of bits of a natural number. -/
def F64.bits (n : Nat) : Nat := if n = 0 then 0 else Nat.log2 n + 1

/-- Round n / 2^k to nearest, ties to even. -/
def F64.roundShift (n k : Nat) : Nat :=
  let q := n / 2 ^ k
  let r := n % 2 ^ k
  if k = 0 then n
  else if 2 * r < 2 ^ k then q
  else if 2 ^ k < 2 * r then q + 1
  else if q % 2 = 0 then q else q + 1

/-- The binary64 value nearest to m · 2^e. -/
def F64.rnd (m e : Int) : F64 :=
  let a := m.natAbs
  if a = 0 then ⟨0, 0⟩
  else
    let excess := bits a - 53
    let under := (-1074 - e).toNat
    let k := Nat.max excess under
    let q := roundShift a k
    if q = 0 then ⟨0, 0⟩ else ⟨if m < 0 then -(q : Int) else q, e + k⟩

/-- Two values brought to the smaller exponent. -/
def F64.aligned (x y : F64) : Int × Int × Int :=
  let e : Int := if x.e ≤ y.e then x.e else y.e
  (x.m * 2 ^ (x.e - e).toNat, y.m * 2 ^ (y.e - e).toNat, e)

def F64.add (x y : F64) : F64 := let t := aligned x y; rnd (t.1 + t.2.1) t.2.2
def F64.neg (x : F64) : F64 := ⟨-x.m, x.e⟩
def F64.sub (x y : F64) : F64 := add x (neg y)
def F64.mul (x y : F64) : F64 := rnd (x.m * y.m) (x.e + y.e)

/-- The quotient: 128 extra bits and a sticky bit, then one rounding. -/
def F64.div (x y : F64) : F64 :=
  if y.m = 0 then ⟨0, 0⟩
  else
    let n := x.m.natAbs * 2 ^ 128
    let d := y.m.natAbs
    let q := 2 * (n / d) + (if n % d = 0 then 0 else 1)
    rnd (if (x.m < 0) = (y.m < 0) then (q : Int) else -(q : Int)) (x.e - y.e - 129)

/-- The integer square root by bits. -/
def F64.isq : Nat → Nat → Nat → Nat
  | 0, _, r => r
  | n + 1, x, r => if (r + 2 ^ n) * (r + 2 ^ n) ≤ x then isq n x (r + 2 ^ n) else isq n x r

/-- The square root of a value that is not negative: an even exponent, 128 extra bits and a sticky bit, one rounding. -/
def F64.sqrt (x : F64) : F64 :=
  if x.m ≤ 0 then ⟨0, 0⟩
  else
    let odd := x.e % 2
    let n := x.m.natAbs * 2 ^ (128 + odd.toNat)
    let r := isq (bits n / 2 + 1) n 0
    let q := 2 * r + (if r * r = n then 0 else 1)
    rnd q ((x.e - odd - 128) / 2 - 1)

def F64.lt (x y : F64) : Bool := let t := aligned x y; decide (t.1 < t.2.1)
def F64.le (x y : F64) : Bool := let t := aligned x y; decide (t.1 ≤ t.2.1)
def F64.abs (x : F64) : F64 := ⟨|x.m|, x.e⟩
def F64.max (x y : F64) : F64 := if lt x y then y else x
def F64.ofInt (n : Int) : F64 := rnd n 0
def F64.isZero (x : F64) : Bool := x.m == 0

/-- The nearest whole number, ties away from zero (R91). -/
def F64.round (x : F64) : Int :=
  if 0 ≤ x.e then x.m * 2 ^ x.e.toNat
  else
    let k := (-x.e).toNat
    let q := (2 * x.m.natAbs + 2 ^ k) / 2 ^ (k + 1)
    if x.m < 0 then -(q : Int) else q

/-- The smallest whole number not below (R91: times are rounded up). -/
def F64.ceil (x : F64) : Int :=
  if 0 ≤ x.e then x.m * 2 ^ x.e.toNat else -((-x.m) / 2 ^ (-x.e).toNat)

/-! ## The arctangent, sine and cosine of the door law (R141, R165)

They are formed in fixed point with 110 fraction bits and rounded once to binary64. -/

/-- π with 110 fraction bits. -/
def piFx : Int := 4078020416507594100416871540687068

/-- One unit with 110 fraction bits. -/
def oneFx : Int := 2 ^ 110

def sqrtFx (x : Int) : Int := let n := x.toNat * 2 ^ 110; (F64.isq (F64.bits n / 2 + 1) n 0 : Nat)

/-- The halving of an arctangent: tan(a/2) from t = tan a. -/
def halfTan (t : Int) : Int := t * oneFx / (oneFx + sqrtFx (oneFx + t * t / oneFx))

/-- The series of the arctangent: `n` terms from the (2k+1)-th power p. -/
def atanSeries : Nat → Nat → Int → Int → Int
  | 0, _, _, _ => 0
  | n + 1, k, p, t2 => (if k % 2 = 0 then p else -p) / ((2 * k + 1 : Nat) : Int) + atanSeries n (k + 1) (p * t2 / oneFx) t2

/-- atan t for 0 ≤ t ≤ 1. -/
def atanFx (t : Int) : Int :=
  let h := halfTan (halfTan (halfTan t))
  8 * atanSeries 20 0 h (h * h / oneFx)

/-- The direction of (x, y), in (-π, π]; 0 for the zero vector. -/
def atan2Fx (y x : Int) : Int :=
  if x = 0 ∧ y = 0 then 0
  else
    let a : Int := |x|
    let b : Int := |y|
    let q := if b ≤ a then atanFx (b * oneFx / a) else piFx / 2 - atanFx (a * oneFx / b)
    let h := if x < 0 then piFx - q else q
    if y < 0 then -h else h

def F64.atan2 (y x : F64) : F64 := let t := aligned y x; rnd (atan2Fx t.1 t.2.1) (-110)

/-- The series of sine and cosine: x^k / k! taken at every second k. -/
def sinSeries : Nat → Nat → Int → Int → Int
  | 0, _, _, _ => 0
  | n + 1, k, p, x2 => p - sinSeries n (k + 2) (p * x2 / oneFx / (((k + 1) * (k + 2) : Nat) : Int)) x2

/-- The sine and the cosine of an angle in units of 1/65,536 turn. -/
def sinUnits (u : Int) : F64 :=
  let v := ((u + 32768) % 65536) - 32768
  let x := v * piFx / 32768
  F64.rnd (sinSeries 24 1 x (x * x / oneFx)) (-110)

def cosUnits (u : Int) : F64 := sinUnits (u + 16384)

/-- The binary64 value of π. -/
def F64.pi : F64 := ⟨884279719003555, -48⟩

end Sys2Proof.Machine
end

