-- ==== Sys2Proof/Machine/State.lean ====
section
/-! DEFINITION. The state of the module as plain data: the register words (Dev.regs, every register of the spec's register
tables under its own address), the object dictionary (Dev.od), what each block holds behind its registers, what survives a
loss of power (Dev.nv), the memory system, and the queue of waiting commands. -/

namespace Sys2Proof.Machine

/-- Why a step stops with a fault. The spec gives every command of its table an effect, so no command raises one. (DESIGN CHOICE, log 116) -/
inductive Fault where
  deriving DecidableEq, Repr

/-- Why a command has no meaning. (DESIGN CHOICE, log 116) -/
inductive Refusal where
  /-- A command that this model does not model yet, by its mnemonic: raised by its arm of exec. Safe. -/
  | notModelled (mnemonic : String)
  deriving DecidableEq, Repr

/-- The queue of waiting commands, first in first out. -/
abbrev Queue := List Instr

/-! ## POSX: counters, absolute channels, fusion, Hall triplets, emulation (R42 to R69) -/

/-- A count as a capture may look back to it (R71): its cycle, and the total, its sign and the direction changes from it on. -/
structure CountMark where
  at_   : Nat
  total : Int
  sign  : Int
  turns : Nat
  deriving DecidableEq, Repr

/-- What a counter channel holds behind its registers: the filtered line levels, the total signed count, the stamps of the
last counts in fabric cycles, the totals at past sample points and the recent counts, latest first. -/
structure CntCh where
  a        : Bool := false
  b        : Bool := false
  total    : Int := 0
  snap     : Int := 0
  lastSign : Int := 0
  stamped  : Bool := false
  lastAt   : Nat := 0
  period   : Nat := 0
  gross    : Nat := 0
  turns    : Nat := 0
  illSlow  : Nat := 0
  hist     : List (Int × Nat) := []
  trail    : List CountMark := []
  deriving DecidableEq, Repr

/-- The outcome of an absolute frame: whether it was valid, its position, and the count snapshot it pairs with. -/
structure AbsReading where
  valid : Bool := false
  pos   : Int := 0
  deriving DecidableEq, Repr

/-- What an absolute channel holds behind its registers: whether a frame has started since reset; whether a deferred frame of
the present tick is still awaited, with its window end in µs; the reading for this tick's fusion (undeferred) and the reading
of the tick before (deferred); whether this tick's undeferred frame has been judged; a line fault seen since the last frame. -/
structure AbsCh where
  seen     : Bool := false
  await    : Bool := false
  winEnd   : Nat := 60
  got      : Bool := false
  nowR     : Option AbsReading := none
  lateR    : Option AbsReading := none
  lineBad  : Bool := false
  deriving DecidableEq, Repr

/-- What fusion holds behind its registers (R59 to R63). -/
structure FuseSt where
  seeded  : Bool := false
  reseed  : Bool := false
  off     : Int := 0
  pos     : Int := 0
  noAcc   : Nat := 0
  recov   : List Int := []
  align   : Bool := false
  lastE   : Int := 0
  illSlow : Nat := 0
  lineRun : Nat := 0
  dirty   : Bool := false
  aHist   : List Int := []
  misses  : Nat := 0
  missNow : Bool := false
  prevI   : Int := 0
  deriving DecidableEq, Repr

/-- A Hall triplet: the time of the last sector change and its direction. -/
structure HallCh where
  known  : Bool := false
  lastAt : Nat := 0
  timed  : Bool := false
  dir    : Int := 0
  skips  : Nat := 0
  steps  : Int := 0
  deriving DecidableEq, Repr

/-- Encoder emulation (R66): accumulator, waiting edges (true forward), the output state, the last edge time, and
the Z output. -/
structure EmuSt where
  acc    : Int := 0
  back   : List Bool := []
  quad   : Nat := 0
  lastAt : Option Nat := none
  zArm   : Bool := false
  zOut   : Bool := false
  deriving DecidableEq, Repr

structure PosxSt where
  cnt  : Vector CntCh 4 := Vector.replicate 4 {}
  abs  : Vector AbsCh 2 := Vector.replicate 2 {}
  fuse : FuseSt := {}
  hall : Vector HallCh 2 := Vector.replicate 2 {}
  emu  : EmuSt := {}
  deriving DecidableEq, Repr

/-! ## EVR: events, the flight recorder (R374 to R384) -/

/-- An event as a block reports it (R375): time in ns, code, source master, parameters, suppressed count, flags. -/
structure EvRec where
  ts   : Nat := 0
  code : Nat := 0
  src  : Nat := 0
  p1   : Nat := 0
  p2   : Nat := 0
  p3   : Nat := 0
  supp : Nat := 0
  sat  : Bool := false
  deriving DecidableEq, Repr

/-- The token bucket of one event code (R378): tokens, the cycle at which it last fell below B, the tokens added since, and
the suppressed count. -/
structure Bucket where
  code   : Nat
  tokens : Nat
  t0     : Nat := 0
  added  : Nat := 0
  supp   : Nat := 0
  deriving DecidableEq, Repr

/-- A frozen flight-recorder window (R383, R384): number, trigger kind and tick, first and last tick (exclusive), tag. -/
structure Window where
  num   : Nat
  kind  : Nat
  trig  : Nat
  first : Nat
  last  : Nat
  tag   : Word := 0
  copying : Bool := false
  deriving DecidableEq, Repr

structure EvrSt where
  general  : List EvRec := []
  safety   : List EvRec := []
  buckets  : List Bucket := []
  gap      : Bool := false
  dropped  : Nat := 0
  dropCls  : Nat := 0
  windows  : List Window := []
  winEnd   : Nat := 0
  wear     : List Nat := []
  firstFr  : Option Nat := none
  archNext : Nat := 0
  started  : Bool := false
  deriving DecidableEq, Repr

/-! ## CMPL and the shaft map (R70 to R88) -/

/-- A compare channel: armed, and VALUE or CFG written since its last judgement (R85). -/
structure CmpCh where
  armed : Bool := false
  wrote : Bool := false
  deriving DecidableEq, Repr

/-- A captured edge (R71): time in ns, signed count, sign of the latest count, rising, and the direction changes so far. -/
structure Capture where
  ns     : Nat
  count  : Int
  dir    : Bool
  rising : Bool
  turns  : Nat
  deriving DecidableEq, Repr

/-- A latch unit: the captured edge that its next report shows (R72). -/
structure LatCh where
  pend : Option Capture := none
  deriving DecidableEq, Repr

/-- One reported edge of a door-zone passage (R81): position, validity, and direction changes of CNT[0] so far. -/
structure PassEdge where
  pos   : Int
  ok    : Bool
  turns : Nat
  deriving DecidableEq, Repr

/-- The four edges of the passage in progress, in the order of LAT[12] to LAT[15]. -/
structure Passage where
  r0 : Option PassEdge := none
  f0 : Option PassEdge := none
  r1 : Option PassEdge := none
  f1 : Option PassEdge := none
  deriving DecidableEq, Repr

/-- The learning or verification run (R78 to R80, R410): leg 1 down, 2 up, 0 none; whether it verifies; the captured
switch positions; the landings found; and whether the leg's stop has begun. -/
structure LearnSt where
  leg     : Nat := 0
  verify  : Bool := false
  started : Bool := false
  swLow   : Option Int := none
  swHigh  : Option Int := none
  found   : List Int := []
  stopped : Bool := false
  bad     : Bool := false
  deriving DecidableEq, Repr

structure CmplSt where
  cmp   : Vector CmpCh 32 := Vector.replicate 32 {}
  prev  : Vector Int 5 := Vector.replicate 5 0
  lat   : Vector LatCh 16 := Vector.replicate 16 {}
  pass  : Passage := {}
  drift : List (Nat × List Int) := []
  learn : LearnSt := {}
  candLow  : Int := 0
  candHigh : Int := 0
  candOk   : Bool := false
  accLow   : Int := 0
  accHigh  : Int := 0
  acceptArmed : Bool := false
  dirtyW : Bool := false
  deriving DecidableEq, Repr

/-! ## PGEN (R89 to R112) -/

/-- A captured command: master, CMD word and TARGET word (R96). -/
structure PgenCmd where
  m      : Master
  word   : Word
  target : Word
  deriving DecidableEq, Repr

/-- A plan (R89, R93): the tick of its clock start, the state it starts from in m, m/s and m/s², its seven segments as jerk
and duration, its plan time, its peak speed, the position in m at which it ends, and its target in µm. -/
structure Plan where
  t0     : Nat
  p      : F64
  v      : F64
  a      : F64
  segs   : List (F64 × F64)
  total  : F64
  vp     : F64
  endP   : F64
  target : Int
  deriving DecidableEq, Repr

/-- What PGEN holds behind its registers: the reference state X in m, m/s, m/s², and the tick that it belongs to; the plan in force;
the command waiting for the next sample point; the kept target; the last adopted target; the cycle at which the start window began; the
start tick and position; the kind of the stop being made; the stops it requests; the re-levelling watch; the cycle of the last
arrival; the demand of the channels in the tick before (0 none, 1 STOP_CONTROLLED, 2 STOP_IMMEDIATE); 0x2210:01 to :04 as staged
in the tick before. -/
structure PgenSt where
  p      : F64 := {}
  v      : F64 := {}
  a      : F64 := {}
  xTick  : Nat := 0
  plan   : Option Plan := none
  pend   : Option PgenCmd := none
  tgt    : Option Int := none
  land   : Option Nat := none
  levTgt : Option Int := none
  levLand : Option Nat := none
  since  : Nat := 0
  startTick : Nat := 0
  startPos  : Int := 0
  stopKind  : Nat := 0
  reqInvalid : Bool := false
  reqDrive   : Bool := false
  driveAt    : Nat := 0
  statAt     : Option Nat := none
  relSince   : Option Nat := none
  relWait    : Bool := false
  incSeen    : Bool := false
  arrivedAt  : Nat := 0
  demandWas  : Nat := 2
  staged     : Vector Nat 4 := Vector.replicate 4 0
  deriving DecidableEq, Repr

/-! ## CENG (R113 to R132) -/

/-- A control slot behind its registers, with 16 fraction bits: integrator, filtered derivative, last error, last output;
whether the next run is its first; the start ticks of the two following-error windows; extrapolated ticks in a row; the
requests that stand; whether its last run was held. -/
structure SlotSt where
  I     : Int := 0
  Df    : Int := 0
  eLast : Int := 0
  yLast : Int := 0
  first : Bool := true
  feW   : Option Nat := none
  feS   : Option Nat := none
  ext   : Nat := 0
  reqC  : Bool := false
  reqI  : Bool := false
  reqFe : Bool := false
  held  : Bool := false
  tripW : Bool := false
  tripS : Bool := false
  deriving DecidableEq, Repr

/-- The loop engine: its slots, which variables are invalid because their producer's last run was held, the latched values of
the tick before (R130), and whether SLOT[0] ran and was not held in this tick. -/
structure CengSt where
  slot   : Vector SlotSt 16 := Vector.replicate 16 {}
  varBad : Vector Bool 8 := Vector.replicate 8 false
  lastRef : Int := 0
  lastVel : Int := 0
  lastPos : Int := 0
  lastSpd : Int := 0
  refRan : Bool := false
  deriving DecidableEq, Repr

/-! ## The door units (R134 to R179) -/

/-- A voltage vector (R139): amplitude in mV, angle and rate, the cycle count of T(k + 1) and the cycle of its commit. -/
structure DoorVec where
  amp   : Nat := 0
  angle : Nat := 0
  rate  : Int := 0
  ref   : Nat := 0
  commit : Nat := 0
  thr   : Int := 0
  dir   : Int := 0
  deriving DecidableEq, Repr

/-- One conversion of a carrier period: the cycle of its sample instant and its seven codes. -/
structure DoorSample where
  c   : Nat
  adc : CarrierAdc
  deriving DecidableEq, Repr

/-- A feedback source's supervision (R151): run lengths of its conditions, whether it is unusable, whether a condition showed
in the present slow tick, and whether it has been free of them for a whole one. -/
structure FbSource where
  run1  : Nat := 0
  run2  : Nat := 0
  bad   : Bool := false
  dirty : Bool := false
  clean : Bool := false
  deriving DecidableEq, Repr

/-- The electrical side of a door unit: the vector committed in the tick and the one before it; the samples of the tick, the last one, and
the cycle at which the last carrier period began; whether the next period, or the present one, charges the bootstraps (R136); the gate on-times
and the on-time of the present period; the short of OVACT, and the bridge fault input (R146); the supervision of encoder and Hall
(R151); a carried-over offset; the sensorless position (R150); the alignment: step, start, position, and who asked for it (R152);
whether vectors are committed (R153). -/
structure DoorSt where
  vec     : DoorVec := {}
  vecOld  : DoorVec := {}
  samples : List DoorSample := []
  last    : Option DoorSample := none
  lastC   : Option Nat := none
  boot    : Bool := false
  gateHi  : Vector Nat 3 := Vector.replicate 3 0
  gateLo  : Vector Nat 3 := Vector.replicate 3 0
  ovShort : Bool := false
  bflt    : Bool := false
  enc     : FbSource := {}
  hall    : FbSource := {}
  carry   : Int := 0
  slPos   : Int := 0
  alStep  : Nat := 0
  alAt    : Nat := 0
  alPos   : Int := 0
  alPend  : Option Master := none
  vecOn   : Bool := false
  booting : Bool := false
  onNow   : Vector Nat 3 := Vector.replicate 3 0
  deriving DecidableEq, Repr

/-- A captured door command: master, MOVE word, MTGT word (R160). -/
structure DoorCmd where
  m    : Master
  word : Word
  tgt  : Word
  deriving DecidableEq, Repr

/-- Sums of one friction bin: force and ticks (R175, R176). -/
structure BinSum where
  f : F64 := {}
  n : Nat := 0
  deriving DecidableEq, Repr

/-- Door motion: the reference and the one of the tick before; the target; the waiting command; the kind of the stop in
progress with its code; since when the speed is low in the end zone, and in an end state; the runs of the five criteria; the
estimates of the tick before and of this tick; the tick of the last reversal; the pushing direction while holding; whether
the move is clean; the sums for learning; the learning step; the speed of a stop in 1/8,000 µm/s; the tick in which the reference
was set to the door anew. -/
structure MotionSt where
  xr      : Int := 0
  vr      : Int := 0
  vPrev   : Int := 0
  tgt     : Option Int := none
  pend    : Option DoorCmd := none
  stopCode : Nat := 0
  slowAt  : Option Nat := none
  stillAt : Option Nat := none
  runs    : Vector Nat 5 := Vector.replicate 5 0
  iPrev   : Vector Int 3 := Vector.replicate 3 0
  vltPrev : Vector Int 3 := Vector.replicate 3 0
  theta   : Nat := 0
  force   : F64 := {}
  fext    : F64 := {}
  vemf    : F64 := {}
  deltaX  : Nat := 0
  revTick : Option Nat := none
  hold    : Int := 0
  clean   : Bool := true
  opened  : Bool := false
  curtain : Bool := false
  bins    : List (Nat × BinSum) := []
  sumFA   : F64 := {}
  sumAA   : F64 := {}
  step    : Nat := 0
  lrnBins : List (Nat × BinSum) := []
  posDir  : Nat := 0
  vStop   : Int := 0
  restTick : Option Nat := none
  deriving DecidableEq, Repr

/-! ## LRING (R180 to R208) -/

/-- What LRING keeps for a node address (R190, R191): consecutive missing cycles, SEQ of the last accepted slot, PRESENT, a SEQ
reference after a loss, the last accepted LOCK byte, the REQ bit of the last accepted slot. -/
structure NodeSt where
  miss    : Nat := 0
  seq     : Nat := 0
  present : Bool := false
  ref     : Bool := false
  lock    : Byte := 0
  req     : Bool := false
  two     : Bool := false
  deriving DecidableEq, Repr

/-- A frame as it returned: the port, its bytes after SD (none for a violation), and the fabric cycles from T(8n) to its end. -/
structure RingFrame where
  port  : Nat
  bytes : List (Option Byte)
  endC  : Nat
  deriving DecidableEq, Repr

/-- A payload entry sent in the cycle: address, place in the transmit queue if it carries an entry. -/
structure SentEntry where
  addr : Nat
  slot : Option Nat
  deriving DecidableEq, Repr

/-- The outcome of a finished cycle, waiting for its delivery at T(8n + 8): the accepted slots, the node-count fault, the tail
values, the drive node's process block, and the group messages of the machine slots. -/
structure RingOut where
  n      : Nat := 0
  acc    : List (Nat × List Byte) := []
  rawF   : List (Nat × List Byte) := []
  rawR   : List (Nat × List Byte) := []
  hopsF  : Nat := 0
  hopsR  : Nat := 0
  wrapF  : Nat := 0
  wrapR  : Nat := 0
  closed : Bool := false
  drive  : Option (List Byte) := none
  grpIn  : List (List Byte) := []
  deriving DecidableEq, Repr

/-- One enumeration result: ring position, address, class, UID (R202). -/
structure EnumNode where
  pos  : Nat
  addr : Nat
  cls  : Nat
  uid  : Nat
  deriving DecidableEq, Repr

/-- What LRING holds behind its registers. -/
structure RingSt where
  nodes   : List (Nat × NodeSt) := []
  cycle   : Nat := 0
  started : Bool := false
  open_   : Bool := false
  rx      : List RingFrame := []
  sent    : Vector (List Byte) 2 := Vector.replicate 2 []
  idle    : Vector Nat 2 := Vector.replicate 2 0
  kind    : Nat := 0
  entries : List SentEntry := []
  msgs    : List (Nat × Nat) := []
  lastServed : Nat := 0
  svc     : List (Nat × Nat) := []
  msvc    : List (Nat × Nat) := []
  out     : Option RingOut := none
  hopsRun : Nat := 0
  hopsFlt : Bool := false
  dualNext : Bool := false
  dualClean : Nat := 0
  dualFor : Nat := 0
  syncLeft : Nat := 0
  enums   : List (List EnumNode) := []
  acmd    : Option Word := none
  lat     : Nat := 0
  sideLost : Vector Bool 2 := Vector.replicate 2 false
  disable : Bool := false
  bClosed : Nat := 0
  grp     : Bool := false
  deriving DecidableEq, Repr

/-! ## BID (R209 to R235) -/

/-- What a stop serves (R212): kind 0 a car call, 1 a pickup, 2 a drop-off; CALLID, passengers, call type, and for a
destination call the landing at its other end. -/
structure StopItem where
  kind : Nat
  id   : Nat := 0
  pax  : Nat := 0
  typ  : Nat := 0
  mate : Nat := 0
  side : Nat := 0
  deriving DecidableEq, Repr

/-- A stop of the plan: its landing and what it serves. -/
structure PlanStop where
  land  : Nat
  items : List StopItem
  deriving DecidableEq, Repr

/-- An answer to an announcement (R221 BID): the bidder, NOBID, HOLDER, cost, pickup arrival, positions. -/
structure BidAnswer where
  car    : Nat
  none_  : Bool
  holder : Bool := false
  cost   : Nat := 0
  arr    : Nat := 0
  deriving DecidableEq, Repr

/-- An entry of the call table (R222, R230) with the auction that this car runs on it: t_a, the kind of auction (0 plain,
1 REAUCTION, 2 REJOIN, 4 DROPOUT), the answers, the awaited ACCEPT (how often the AWARD was sent), the attempts without a bid. -/
structure CallEnt where
  id    : Nat := 0
  typ   : Nat := 0
  state : Nat := 0
  holder : Nat := 0
  announcer : Nat := 0
  pax   : Nat := 0
  dst   : Nat := 0
  org   : Nat := 0
  side  : Nat := 0
  cost  : Nat := 0
  arr   : Nat := 0
  used  : Bool := false
  freed : Nat := 0
  since : Nat := 0
  running : Bool := false
  ta    : Nat := 0
  kind  : Nat := 0
  hcost : Nat := 0
  harr  : Nat := 0
  ours  : Bool := false
  due   : Bool := false
  answers : List BidAnswer := []
  awarded : Bool := false
  awardAt : Nat := 0
  tries : Nat := 0
  attempts : Nat := 0
  deriving DecidableEq, Repr

/-- An announcement that waits for its evaluation, and the answer that an evaluation has formed. -/
structure AnnWait where
  sender : Nat
  flags  : Nat
  id     : Nat
  typ    : Nat
  org    : Nat
  dst    : Nat
  pax    : Nat
  side   : Nat
  deriving DecidableEq, Repr

structure BidEval where
  ann    : AnnWait
  reason : Nat
  holder : Bool := false
  cost   : Nat := 0
  arr    : Nat := 0
  pick   : Nat := 0
  drop   : Nat := 255
  deriving DecidableEq, Repr

/-- BID behind its registers: the plan, the call table by entry, the call sequence, the waiting announcements, the evaluation
in progress and the commands held back by it (R214), the latest heartbeat of each car with its BIDDING flag, whether a rejoin
is due, the last valid load, passengers served at the present landing since the arrival at a cycle, the messages that the
last command sent, those waiting for the machine slot, and the sequence of freed entries. -/
structure BidSt where
  plan    : List PlanStop := []
  calls   : List (Nat × CallEnt) := []
  seq     : Nat := 0
  queue   : List AnnWait := []
  eval    : Option BidEval := none
  held    : List Instr := []
  beats   : List (Nat × Nat) := []
  bidding : List Nat := []
  rejoin  : Bool := false
  load    : Int := 0
  here    : Nat := 0
  hereAt  : Nat := 0
  out     : List (List Byte) := []
  slotOut : List (List Byte) := []
  slotIn : List (List Byte) := []
  freed   : Nat := 0
  deriving DecidableEq, Repr

/-! ## The safety channels (R236 to R271) -/

/-- An active cause (R248): its code, the state it demands now, whether a stop for it has reached standstill, whether its
condition has gone, and the tick in which it was last asserted. -/
structure CauseSt where
  code   : Nat
  demand : Nat
  stood  : Bool := false
  gone   : Bool := false
  seen   : Nat := 0
  deriving DecidableEq, Repr

/-- A channel: its state (0 RUN, 1 STOP_CONTROLLED, 2 STOP_IMMEDIATE, 3 LOCKOUT, 4 HOLD), the cause it names, its active
causes, LVL2 and the partner's copied LVL2, INSPONLY; its position and speed with the history of positions (latest first);
its chain bits; since when it is slow, and standstill; the UCMP reference (R252); the stop ramp (R249); the levels of its
safety inputs and taps, its test faults (R299), since when a pair disagrees (R259); the lock hashes of its two latest ring
cycles and its lock vector; the landing of the door zone it was in; the bypass of R250; the chain closed with what the bypass does
not require. -/
structure ChanSt where
  booting : Bool := true
  state   : Nat := 4
  cause   : Nat := 0
  causes  : List CauseSt := []
  lvl2    : Bool := false
  plvl2   : Bool := false
  inspOnly : Bool := false
  insp    : Bool := false
  have_   : Bool := false
  pos     : Int := 0
  spd     : Int := 0
  hist    : List Int := []
  chain   : Nat := 0
  slowAt  : Option Nat := none
  still   : Bool := false
  ucmp    : Option (Nat × Int) := none
  rampV   : Nat := 0
  rampAt  : Nat := 0
  sin     : Nat := 0
  taps    : Nat := 0
  tpf     : Nat := 0
  disc    : Vector (Option Nat) 8 := Vector.replicate 8 none
  hashes  : List (Nat × Nat) := []
  locks   : List Bool := []
  inZone  : Bool := false
  zone    : Option Nat := none
  bypass  : Bool := false
  chainOk : Bool := false
  deriving DecidableEq, Repr

/-- Marten's position (R240) and its committed view (R241): the tick PA belongs to, consecutive invalid readings, degraded,
the refusal of new starts, and the tick of the view, whether it was written by A_COMMIT, its tag, VALID; for each door the ticks
over the energy ceiling, since when it stands without a breach, and whether its PERMIT was removed (R257); the MC permits are
withheld for SRDO 2 (R322). -/
structure MartenSt where
  tag     : Nat := 0
  bad     : Nat := 0
  deg     : Bool := false
  refuse  : Bool := false
  decoded : Nat := 0
  byReg   : Option Nat := none
  cTag    : Nat := 0
  cValid  : Bool := false
  valid   : Bool := false
  permRun : Vector Nat 2 := Vector.replicate 2 0
  permStill : Vector (Option Nat) 2 := Vector.replicate 2 none
  permCut : Vector Bool 2 := Vector.replicate 2 false
  srdoBad : Bool := false
  deriving DecidableEq, Repr

/-- One edge of a door-zone sensor as Badger counts it: the count and the direction changes at the raw transition. -/
structure BadgerEdge where
  count : Int
  turns : Nat
  deriving DecidableEq, Repr

/-- Badger: the levels and the count of the CNT[0] lines, direction changes, its offset and REF; the recent counts (cycle,
count, direction changes; latest first); the scaled counts latched at tick starts (latest first); the edges of the passage in
progress in the order rise and fall of sensor 0, then of sensor 1; the positions
and speeds of the last two tick starts; the lock vectors of closed cycles not yet in use; the verdict watch (R244); the run
of verdicts of R425; the tick periods out of range in a row, and whether the period that runs is already one of them (R37); the
departure from RUN that it made last (tick and counter, R388); the bytes received through BPARAM and BMAP; the landing of
the last re-sync. -/
structure BadgerSt where
  a        : Bool := false
  b        : Bool := false
  count    : Int := 0
  lastSign : Int := 0
  turns    : Nat := 0
  off      : Int := 0
  ref      : Bool := false
  trail    : List (Nat × Int × Nat) := []
  latches  : List Int := []
  pass     : Vector (Option BadgerEdge) 4 := Vector.replicate 4 none
  views    : List (Nat × Int × Int) := []
  lockq    : List (Nat × List Bool) := []
  seen     : Bool := false
  got      : Bool := false
  noVerd   : Nat := 0
  vrun     : Nat := 0
  perRun   : Nat := 0
  perLate  : Bool := false
  depart   : Option (Nat × Nat) := none
  pset     : List Byte := []
  pmap     : List Byte := []
  resLand  : Nat := 0
  confirmed : Option Nat := none
  deriving DecidableEq, Repr

/-! ## SOUT (R272 to R292) -/

/-- A running output test (R280): switch, kind (0 dark, 1 bright), start. -/
structure TestRun where
  s     : Nat
  kind  : Nat
  start : Nat
  deriving DecidableEq, Repr

/-- SOUT behind its registers: the switches as demanded, when each coil output last closed and opened, when SEQ was entered;
the running test, the last test start, when each switch last passed, overdue logged; since when a current is at its limit
and a monitored input reads wrong; VSAFE and VIN at the last sample point in mV; VSAFE low (R422); both channels have set
permits; the drive enable cleared by DISABLE; the torque test: step (0 none, 1 waiting for TORQUE, 2 holding), brake, the
positions P0, the start of the hold, the largest movement, the last pass; the reset pads being ignored (R288); and the instant of a declared power
fail (R423). -/
structure SoutSt where
  cl      : Vector Bool 10 := Vector.replicate 10 false
  tclose  : Vector Nat 4 := Vector.replicate 4 0
  topen   : Vector Nat 4 := Vector.replicate 4 0
  seqAt   : Nat := 0
  test    : Option TestRun := none
  lastTest : Option Nat := none
  passed  : Vector Nat 10 := Vector.replicate 10 0
  overdue : Vector Bool 10 := Vector.replicate 10 false
  oc      : Vector (Option Nat) 6 := Vector.replicate 6 none
  mon     : Vector (Option Nat) 4 := Vector.replicate 4 none
  vsafe   : Nat := 0
  vin     : Nat := 0
  vsLow   : Bool := false
  aSeen   : Bool := false
  bSeen   : Bool := false
  endDrive : Bool := false
  ttStep  : Nat := 0
  ttBrake : Nat := 0
  ttA     : Int := 0
  ttB     : Int := 0
  ttAt    : Nat := 0
  ttMax   : Nat := 0
  ttLast  : Nat := 0
  ignore  : Bool := false
  pfail   : Option Nat := none
  deriving DecidableEq, Repr

/-! ## IO24 (R293 to R312) -/

/-- An output pad behind its register: when it switched on and off, judged snapshots in a row that read HI, shutdowns of the
last 60 s, since when it draws too little. -/
structure PadSt where
  onAt   : Nat := 0
  offAt  : Nat := 0
  hiRun  : Nat := 0
  therm  : List Nat := []
  olAt   : Option Nat := none
  deriving DecidableEq, Repr

/-- An identification (R306): the suspect, whether it has started, the pads still to probe, the pad probed in this tick, the
probes made. -/
structure Ident where
  pad   : Nat
  todo  : List Nat := []
  probe : Option Nat := none
  made  : Nat := 0
  begun : Bool := false
  deriving DecidableEq, Repr

/-- IO24 behind its registers: the accepted levels of the channels; the pads; the identifications; since when each supply is
OK; since when a tap order is wrong, and whether it is logged; the clear that waits for the sample point; whether TP outputs pulse; the
STAT outputs (R429). -/
structure IoSt where
  acc    : Nat := 0
  pads   : Vector PadSt 36 := Vector.replicate 36 {}
  ident  : List Ident := []
  okAt   : Vector Nat 2 := Vector.replicate 2 0
  tapAt  : Option Nat := none
  tapLog : Bool := false
  clr    : Option Word := none
  tpOn   : Bool := false
  stat   : Vector Bool 3 := Vector.replicate 3 false
  deriving DecidableEq, Repr

/-- An emergency message (R330): error code, event code, its first parameter, its time in ns. -/
structure Emcy where
  err  : Nat
  code : Nat
  p1   : Nat
  ts   : Nat
  deriving DecidableEq, Repr

/-- A frame on a CAN port: identifier and data. -/
structure CanFrame where
  id   : Nat
  data : List Byte
  deriving DecidableEq, Repr

/-- The answer of a port's SDO or USDO server (R318, R324): the client, the entry, the abort code (0 none), the data. -/
structure SdoAnswer where
  node  : Nat
  idx   : Nat
  sub   : Nat
  abort : Nat
  data  : List Byte
  deriving DecidableEq, Repr

/-- A port: the emergency messages that wait, the last frame sent, how many were sent, the time of the last emergency message, and the last
answer of the SDO server. -/
structure CanPort where
  emcy : List Emcy := []
  out  : Option CanFrame := none
  sent : Nat := 0
  emAt : Option Nat := none
  sdo  : Option SdoAnswer := none
  deriving DecidableEq, Repr

/-- A staged write (R326 to R328): its client, its acceptance in fabric cycles, the entry, the value. -/
structure Staged where
  client : Client
  at_    : Nat
  idx    : Nat
  sub    : Nat
  bytes  : List Byte
  deriving DecidableEq, Repr

/-- A service-port session (R331): the client's IPv4 address, the last response, the kind of the image whose OPEN was
accepted, and the code with which DATA is refused where none was (R396). -/
structure Session where
  ip   : Nat
  resp : List Byte := []
  img  : Option Nat := none
  bars : Nat := 0x08000022
  deriving DecidableEq, Repr

/-- A transmitted PDO: the values last sent and when. -/
structure TpdoSt where
  last : List Byte := []
  at_  : Option Nat := none
  deriving DecidableEq, Repr

/-- ODE behind its registers: the staged writes in acceptance order, the last fence of each client, the segments that masters
1 to 5 have collected (R335), the applied domain 0x2906:01, the sessions, the transmitted PDOs, the SRDO 2 receptions in a
row that contradict the STO lines (R322), and the calls that wait for firmware, oldest first (R323). -/
structure OdeSt where
  staged : List Staged := []
  fences : List (Client × Nat) := []
  segs   : Vector (List Byte) 5 := Vector.replicate 5 []
  dom    : List Byte := []
  sess   : Vector (Option Session) 4 := Vector.replicate 4 none
  tpdo   : Vector TpdoSt 16 := Vector.replicate 16 {}
  contra : Nat := 0
  calls  : List Nat := []
  deriving DecidableEq, Repr

/-! ## MEMC, SCRB (R341 to R359) -/

/-- What the memory controller and the scrubbers hold behind their registers: Marten's safety SRAM has met an uncorrectable
error; DRAM is in self-refresh; the lap starts of Ant and Weevil in fabric cycles; the correctable words found in this lap by
row, and the places of CAND from the oldest to the newest, for R350; the fuse programming in progress; the NAND is in its low-power state, and the cycle of the last use of FLSH (R15); the descriptor in progress of each DMA channel (R358). -/
structure MemcSt where
  martenFatal : Bool := false
  selfRefresh : Bool := false
  antStart  : Nat := 0
  weevStart : Nat := 0
  antRows   : List (Nat × Nat) := []
  candOrder : List Nat := []
  weevRows  : List (Nat × Nat) := []
  fuseBusy  : Option Word := none
  nandLow   : Bool := false
  flashAt   : Nat := 0
  desc      : Vector (List Byte) 8 := Vector.replicate 8 []
  deriving DecidableEq, Repr

/-! ## MBOX (R362 to R372) -/

/-- MBOX behind its registers: when each full channel was posted, and when Fox was parked. -/
structure MboxSt where
  postAt   : Vector Nat 16 := Vector.replicate 16 0
  parkedAt : Nat := 0
  deriving DecidableEq, Repr

/-! ## PRES and BOOT (R394 to R413) -/

/-- A record of the presence log (R406): time, level, client kind (R411), index and sub-index or register address, old and
new value. -/
structure PresRec where
  ts    : Nat
  level : Nat
  kind  : Nat
  place : Nat
  old   : Nat
  new   : Nat
  deriving DecidableEq, Repr

/-- PRES behind its registers: the filtered KEY levels, since when they disagree and since when they agree, the last press,
and the last press that counts for level 2. -/
structure PresSt where
  keys   : Nat := 0
  diff   : Option Nat := none
  same   : Option Nat := some 0
  press  : Option Nat := none
  press2 : Option Nat := none
  deriving DecidableEq, Repr

/-- An image slot (R354, R396): whether it has been erased since manufacture, and the bytes written to it, latest first, by
their offset. -/
structure Slot where
  erased : Bool := false
  writes : List (Nat × List Byte) := []
  deriving DecidableEq, Repr

/-- A car backup as it arrives (R408): sender, generation, the next chunk index, the bytes so far, complete. -/
structure BackupRx where
  car  : Nat
  gen  : Nat
  next : Nat
  body : List Byte
  full : Bool := false
  deriving DecidableEq, Repr

/-- BOOT behind its registers: the boot that is due (0 none, 1 whole, 2 warm, 3 Marten alone); HOLD has reached 16 V; step 3
waits for it; whether an application runs; the candidate's slot, the tick q and the instant T(q + 2) of the handover, its snapshot of the
dictionary and of 0x2906:01; the backup being sent (what is left, the next chunk, the ring cycle after that of the last one);
the backups that arrive; the adoption requested (installation ID, car number); a power-on reset that the boot has not
counted yet (R387). -/
structure BootSt where
  todo   : Nat := 1
  holdOk : Bool := false
  waits  : Bool := false
  app    : Bool := false
  cand   : Option Nat := none
  hoTick : Nat := 0
  hoAt   : Nat := 0
  snap   : List (Nat × Nat) := []
  snapDom : List Byte := []
  bkOut  : List Byte := []
  bkNext : Nat := 0
  bkCycle : Nat := 0
  rx     : List BackupRx := []
  want   : Option (Nat × Nat) := none
  por    : Bool := true
  deriving DecidableEq, Repr

/-! ## ANA (R433 to R437) -/

/-- The load measurement: the calibration step that waits for the next slow tick, the reference zeros of R436, since when the
car has stood at a quiet point, the cause mask of each channel at the last slow tick, what its conversions of the last slow tick
showed (bit 0 an excitation, bit 1 a ratio outside its range), a disagreement, and the tick of the last slow tick's work. -/
structure LoadSt where
  step  : Nat := 0
  refs  : Vector Int 2 := Vector.replicate 2 0
  quiet : Option Nat := none
  bad   : Vector Nat 2 := Vector.replicate 2 0
  conv  : Vector Nat 2 := Vector.replicate 2 0
  disag : Bool := false
  done  : Option Nat := none
  deriving DecidableEq, Repr

/-- A stored flight-recorder window (R384): its entry in the index and its bytes; a lost one carries none. -/
structure StoredWindow where
  win   : Window
  bytes : List Byte
  lost  : Bool := false
  deriving DecidableEq, Repr

/-- A stored fatal dump (R390): master, length, bytes. -/
structure StoredDump where
  master : Nat
  bytes  : List Byte
  deriving DecidableEq, Repr

/-! ## What survives a loss of power -/

/-- The non-volatile contents: Bear (MRAM) with its safety log, window number and counters; the active safety set as Marten
and as Badger stores it, by dictionary key, commissioned, its version (R261 to R264); the accepted map as each stores it (L,
the landings, the four references, the sill offset) and its version (R77, R264, R265); the stored working map with its flags;
the latched output faults (R289), LOCKOUT causes and input test faults of both channels (R385); the pending repairs and the spare rows used; the next record number and the archive; the frozen windows
and the fatal dumps, the slot of the next dump and an open dump; the presence log; the image slots (safety A and B, application A
and B, car backup) with the active ones and the lowest security versions; the dictionary store, the restore of the defaults
that is due, the committed port settings, the input and output maps and the learned door values; the adopted identity (installation
ID, car number, predecessor's serial); the backups of the other cars; daily counts of TELE, newest first; VERIFYPEND; the
generation of the last car backup, and one that is due after the next boot. -/
structure NonVol where
  safetyLog : List EvRec := []
  lastWin   : Nat := 0
  counters  : List (Nat × Nat) := []
  aset      : List (Nat × Nat) := []
  bset      : List (Nat × Nat) := []
  asetCrc   : Option Nat := none
  bsetCrc   : Option Nat := none
  commissioned : Bool := false
  setVer    : Nat := 0
  amap      : List Int := []
  bmap      : List Int := []
  amapCrc   : Option Nat := none
  bmapCrc   : Option Nat := none
  mapVer    : Nat := 0
  wmap      : List Int := []
  wmapCrc   : Option Nat := none
  wflags    : List Nat := []
  outFaults : List (Nat × Nat) := []
  lockouts  : List Nat := []
  tpf       : Nat := 0
  ppr       : List Word := []
  pprUsed   : List (Nat × Nat) := []
  nextN     : Nat := 0
  archive   : List (Nat × List Byte) := []
  winStore  : List StoredWindow := []
  dumps     : Vector (Option StoredDump) 8 := Vector.replicate 8 none
  dumpNext  : Nat := 0
  dumpOpen  : Option Nat := none
  presLog   : List PresRec := []
  slots     : Vector Slot 5 := Vector.replicate 5 {}
  safeSlot  : Nat := 0
  appSlot   : Nat := 0
  minSec    : Vector Nat 3 := Vector.replicate 3 0
  stored    : List (Nat × Nat) := []
  restore   : Bool := false
  ports     : List (Nat × Nat) := []
  ioMaps    : List (Nat × Nat) := []
  learned   : List (Nat × Nat) := []
  adopted   : Option (Nat × Nat × Nat) := none
  backups   : List (Nat × List Byte) := []
  daily     : List (List Nat) := []
  verify    : Bool := false
  bkGen     : Nat := 0
  bkDue     : Bool := false
  deriving DecidableEq, Repr

/-! ## The memories (R17, R339 to R347) -/

/-- A code word with flipped bits: its address, the flipped data and check bits, and whether they were injected (R347). -/
structure MemFault where
  addr  : Nat
  dmask : Nat
  cmask : Nat
  inj   : Bool
  deriving DecidableEq, Repr

/-- A range that hardware has filled: first and last address, and its eight-byte pattern (R358, R374). -/
structure MemFill where
  lo   : Nat
  hi   : Nat
  pat  : Nat
  deriving DecidableEq, Repr

/-- The addressed memories: the bytes written, by strictly rising address; the ranges filled, latest first; the code words
with flipped bits; whether the boot ROM has initialised the safety SRAM (R341). -/
structure MemSys where
  cells  : List Host.Cell := []
  fills  : List MemFill := []
  faults : List MemFault := []
  safeInit : Bool := false
  deriving DecidableEq, Repr

/-! ## The whole module -/

/-- The answer of the bus to a master's last access: data words or bytes read, and whether it ended in a bus error (R9). -/
structure BusResp where
  data : List Byte := []
  err  : Bool := false
  deriving DecidableEq, Repr

/-- A master's own copy of NOW_HI, NUM_LO and NUM_HI (R41). -/
structure NowLatch where
  nowHi : Word := 0
  num   : Nat := 0
  deriving DecidableEq, Repr

/-- Everything in the module but the addressed memory and the queue. `now` counts fabric cycles (R29); `regs` holds every
register word by full address (an address without an entry holds its reset word); `force` is `regs` as the last sample
point found it, which is what the engines work from (R24, R40); `od` and `odPend` hold the applied and the pending dictionary
values by 256 * index + sub-index; `fresh` counts the free values drawn (the model's own field);
`begun` tells that tick 0 has had its sample point; `alarmDue` marks the alarms of this tick that have not fired yet, `alarmSet` those written since its sample point (R40). -/
structure Dev where
  now    : Nat := 0
  regs   : List (Nat × Word) := []
  force  : List (Nat × Word) := []
  od     : List (Nat × Nat) := []
  odPend : List (Nat × Nat) := []
  bus    : Vector BusResp 11 := Vector.replicate 11 {}
  latch  : Vector NowLatch 11 := Vector.replicate 11 {}
  fresh  : Nat := 0
  missRun : Vector Nat 9 := Vector.replicate 9 0
  missTick : Vector Nat 9 := Vector.replicate 9 0
  begun  : Bool := false
  alarmDue : Vector Bool 4 := Vector.replicate 4 false
  alarmSet : Vector Bool 4 := Vector.replicate 4 false
  posx   : PosxSt := {}
  evr    : EvrSt := {}
  cmpl   : CmplSt := {}
  pgen   : PgenSt := {}
  ceng   : CengSt := {}
  doors  : Vector DoorSt 2 := Vector.replicate 2 {}
  motion : Vector MotionSt 2 := Vector.replicate 2 {}
  ring   : RingSt := {}
  bid    : BidSt := {}
  chA    : ChanSt := {}
  chB    : ChanSt := {}
  marten : MartenSt := {}
  badger : BadgerSt := {}
  sout   : SoutSt := {}
  io     : IoSt := {}
  can    : Vector CanPort 2 := Vector.replicate 2 {}
  errHist : List Nat := []
  ode    : OdeSt := {}
  mbox   : MboxSt := {}
  pres   : PresSt := {}
  boot   : BootSt := {}
  ana    : LoadSt := {}
  memc   : MemcSt := {}
  nv     : NonVol := {}
  inReset : Bool := false
  deriving DecidableEq, Repr

/-- The machine: the module, its memories, and the commands that wait. -/
structure State where
  dev     : Dev := {}
  mem     : MemSys := {}
  pending : List Instr := []
  deriving DecidableEq, Repr

/-- The module at the release of the power-on reset (R421, R440): TICK at 0, every register at its reset word, the boot not
yet run, SYS.RSTCAUSE.POR set, nothing listed in memory, no command waiting. (DESIGN CHOICE, log 1; DESIGN CHOICE, log 118) -/
def State.reset : State := { dev := { regs := [(0x40000004, 1)], force := [(0x40000004, 1)] } }

end Sys2Proof.Machine
end

