-- ==== Sys2Proof/Machine/Ops.lean ====
section
/-! DEFINITION. The named operations over registers, dictionary values, time, events and the queue. Every meaning is written
over these. -/

namespace Sys2Proof.Machine

/-! ## Stores by key -/

/-- The value under a key: the first entry, or a default. -/
def alGet {α : Type} : List (Nat × α) → Nat → α → α
  | [], _, d => d
  | (k, v) :: t, a, d => if k = a then v else alGet t a d

/-- Replace the entry of a key in place, or append it. -/
def alSet {α : Type} : List (Nat × α) → Nat → α → List (Nat × α)
  | [], a, x => [(a, x)]
  | (k, v) :: t, a, x => if k = a then (k, x) :: t else (k, v) :: alSet t a x

/-- Drop the entries whose key satisfies `p`. -/
def alDrop {α : Type} (l : List (Nat × α)) (p : Nat → Bool) : List (Nat × α) :=
  l.filter (fun e => !p e.1)

/-- Change one element of a vector. -/
def vmod {α : Type} {n : Nat} (v : Vector α n) (i : Fin n) (f : α → α) : Vector α n := v.set i (f v[i])

/-- The numbers 0 to n - 1. -/
def upTo (n : Nat) : List Nat := List.range n

/-! ## Numbers -/

/-- The low 32 bits of a signed number, as a register or an event parameter holds it (R6). -/
def w32 (x : Int) : Nat := (x % 4294967296).toNat

/-- The signed value of an n-bit field. -/
def sx (n x : Nat) : Int := if x % 2 ^ n < 2 ^ (n - 1) then ((x % 2 ^ n : Nat) : Int) else ((x % 2 ^ n : Nat) : Int) - (2 ^ n : Nat)

/-- Limit a number to a closed range. -/
def clampI (lo hi x : Int) : Int := if x < lo then lo else if hi < x then hi else x

/-- Saturation to the signed 32-bit range. -/
def sat32 (x : Int) : Int := clampI (-2147483648) 2147483647 x

/-- 0 or 1. -/
def b2n (b : Bool) : Nat := if b then 1 else 0

/-- A quotient whose rounding the spec does not state: exact where the division is exact, and otherwise the lower or the
upper neighbour, which a free value of the operands decides (assumption 4). (DESIGN CHOICE, log 4; DESIGN CHOICE, log 7) -/
def quo (x d : Int) : Int :=
  if d = 0 then Config.byZero x else if x % d = 0 then x / d else x / d + (if Config.roundsUp x d then 1 else 0)

/-- A quotient rounded to the nearest integer, ties away from zero (R91, R120, R156); by zero it is open. -/
def ndiv (x d : Int) : Int :=
  if d = 0 then Config.byZero x
  else let q : Int := ((2 * x.natAbs + d.natAbs) / (2 * d.natAbs) : Nat)
       if (x < 0) = (d < 0) then q else -q

/-- A binary64 figure as an integer where the spec states no rounding (assumption 4). (DESIGN CHOICE, log 4) -/
def quoF (f : F64) : Int := if 0 ≤ f.e then f.m * 2 ^ f.e.toNat else quo f.m (2 ^ (-f.e).toNat)

/-- A sum that a register or an accumulator of `n` bits holds; beyond its range the spec states no result (assumption 5). (DESIGN CHOICE, log 5) -/
def fitI (n : Nat) (x : Int) : Int :=
  if -(2 ^ (n - 1) : Int) ≤ x ∧ x < 2 ^ (n - 1) then x else sx n (Config.beyond n x % 2 ^ n).toNat

/-- A count that a register of `n` bits holds; beyond its range the spec states no result (assumption 5). (DESIGN CHOICE, log 5) -/
def fitN (n x : Nat) : Nat := if x < 2 ^ n then x else (Config.beyond n x % 2 ^ n).toNat

/-- The sign of a number: -1, 0 or 1. -/
def sgn (x : Int) : Int := if x < 0 then -1 else if x = 0 then 0 else 1

/-- C division, toward zero. -/
def cdiv (x d : Int) : Int := Int.tdiv x d

/-- Bit `i` of a number. -/
def bitN (x i : Nat) : Bool := x / 2 ^ i % 2 = 1

/-- Set or clear bit `i` of a number. -/
def putBit (x i : Nat) (b : Bool) : Nat :=
  if bitN x i = b then x else if b then x + 2 ^ i else x - 2 ^ i

/-- The number of one bits among the lowest n. -/
def onesN : Nat → Nat → Nat
  | 0, _ => 0
  | n + 1, x => x % 2 + onesN n (x / 2)

/-! ## Cyclic redundancy codes -/

/-- The bits of a number, most significant first. -/
def msbBits : Nat → Nat → List Bool
  | 0, _ => []
  | n + 1, x => bitN x n :: msbBits n x

/-- One step of a CRC register of `w` bits with polynomial `poly`, most significant bit first. -/
def crcStep (w poly reg : Nat) (b : Bool) : Nat :=
  let top := bitN reg (w - 1)
  let sh := reg * 2 % 2 ^ w
  if top = b then sh else sh ^^^ poly

/-- A CRC register run over bytes, each most significant bit first. -/
def crcBytes (w poly reg : Nat) (l : List Byte) : Nat :=
  l.foldl (fun r b => (msbBits 8 b.toNat).foldl (crcStep w poly) r) reg

/-- The CRC-32 of R441. -/
def crc32 (l : List Byte) : Nat := 4294967295 - crcBytes 32 0x04C11DB7 0xFFFFFFFF l

/-- The integer square root, rounded down, found bit by bit from 2^(n-1). -/
def isqrtGo : Nat → Nat → Nat → Nat
  | 0, _, r => r
  | n + 1, x, r => if (r + 2 ^ n) * (r + 2 ^ n) ≤ x then isqrtGo n x (r + 2 ^ n) else isqrtGo n x r

def isqrt (x : Nat) : Nat := isqrtGo (Nat.log2 x / 2 + 1) x 0

/-- Little-endian bytes of a number (R6). -/
def leBytes : Nat → Nat → List Byte
  | 0, _ => []
  | n + 1, x => BitVec.ofNat 8 x :: leBytes n (x / 256)

/-- The number that little-endian bytes hold (R6). -/
def ofLe : List Byte → Nat
  | [] => 0
  | b :: t => b.toNat + 256 * ofLe t

/-! ## Registers -/

/-- The word of the register at an address. (DEDUCED, log 2) -/
def Dev.rd (s : Dev) (a : Nat) : Word := alGet s.regs a (resetWord a)

/-- The word in force at the last sample point (R24). (DEDUCED, log 119) -/
def Dev.rdF (s : Dev) (a : Nat) : Word := alGet s.force a (resetWord a)

/-- Put a word into a register. -/
def Dev.wr (s : Dev) (a : Nat) (v : Word) : Dev := { s with regs := alSet s.regs a v }

/-- Put a number into a register. -/
def Dev.wrN (s : Dev) (a v : Nat) : Dev := s.wr a (BitVec.ofNat 32 v)

/-- Put a signed number into a register. -/
def Dev.wrI (s : Dev) (a : Nat) (v : Int) : Dev := s.wr a (BitVec.ofInt 32 v)

/-- The signed value of a register. -/
def Dev.rdI (s : Dev) (a : Nat) : Int := (s.rd a).toInt

/-- A field of a word. -/
def fldOf (w : Word) (f : Fld) : Nat := w.toNat / 2 ^ f.lo % 2 ^ f.width

/-- A word with a field replaced. -/
def putFld (w : Word) (f : Fld) (v : Nat) : Word :=
  BitVec.ofNat 32 (w.toNat - fldOf w f * 2 ^ f.lo + v % 2 ^ f.width * 2 ^ f.lo)

/-- The value of a register field. -/
def Dev.fld (s : Dev) (f : Fld) : Nat := fldOf (s.rd f.addr) f

/-- The value of a register field in force. -/
def Dev.fldF (s : Dev) (f : Fld) : Nat := fldOf (s.rdF f.addr) f

/-- A one-bit field is set. -/
def Dev.flag (s : Dev) (f : Fld) : Bool := s.fld f = 1

/-- A one-bit field in force is set. -/
def Dev.flagF (s : Dev) (f : Fld) : Bool := s.fldF f = 1

/-- A signed register field, in force. -/
def Dev.fldFI (s : Dev) (f : Fld) : Int := sx f.width (s.fldF f)

/-- Put a value into a register field. -/
def Dev.setFld (s : Dev) (f : Fld) (v : Nat) : Dev := s.wr f.addr (putFld (s.rd f.addr) f v)

/-- Set a one-bit field. -/
def Dev.setFlag (s : Dev) (f : Fld) (b : Bool) : Dev := s.setFld f (b2n b)

/-- Count up in a field that saturates. -/
def Dev.satInc (s : Dev) (f : Fld) : Dev :=
  if s.fld f + 1 < 2 ^ f.width then s.setFld f (s.fld f + 1) else s

/-- One flag of a register whose flags form one field: set bit i. -/
def Dev.setBit (s : Dev) (a i : Nat) : Dev := s.wr a (s.rd a ||| BitVec.ofNat 32 (2 ^ i))

/-- Clear bit i of a register. -/
def Dev.clrBit (s : Dev) (a i : Nat) : Dev := s.wr a (s.rd a &&& ~~~ BitVec.ofNat 32 (2 ^ i))

/-! ## Dictionary values -/

/-- The key of an entry in the dictionary stores, and the parameter that names it in an event. (DESIGN CHOICE, log 131) -/
def odKey (idx sub : Nat) : Nat := idx * 256 + sub

/-- The applied value of an entry that ODE or its block holds, as raw little-endian bits. -/
def Dev.od? (s : Dev) (idx sub : Nat) : Nat := alGet s.od (odKey idx sub) (odDefault idx sub)

/-- Put an applied value. -/
def Dev.odPut (s : Dev) (idx sub v : Nat) : Dev := { s with od := alSet s.od (odKey idx sub) v }

/-- The applied value of a signed 32-bit entry. -/
def Dev.odI (s : Dev) (idx sub : Nat) : Int := sx 32 (s.od? idx sub)

/-- The value of a safety parameter in the active set (R261): its applied dictionary value. -/
def Dev.odActive (s : Dev) (idx sub : Nat) : Nat := s.od? idx sub

/-- The value of a safety parameter in Badger's own store (R264). -/
def Dev.bpar (s : Dev) (idx sub : Nat) : Nat := alGet s.nv.bset (odKey idx sub) (odDefault idx sub)

/-! ## Time (R29) -/

/-- Fabric cycles in a tick, a millisecond and a microsecond. -/
def tickCyc : Nat := 50000
def msCyc : Nat := 400000
def usCyc : Nat := 400

/-- The number of the tick in which `now` lies. -/
def Dev.tick (s : Dev) : Nat := s.now / tickCyc

/-- TICK.NOW in nanoseconds, truncated. -/
def Dev.ns (s : Dev) : Nat := s.now * 5 / 2

/-- Move time forward to a cycle of the present tick; time never runs back (R31). (DESIGN CHOICE, log 14) -/
def Dev.at (s : Dev) (off : Nat) : Dev :=
  { s with now := max s.now (s.tick * tickCyc + min off (tickCyc - 1)) }

/-! ## Free values -/

/-- Draw a free word (assumption 3): the counter moves on, nothing constrains the value. (DESIGN CHOICE, log 3) -/
def Dev.drawWord (s : Dev) : Word × Dev := (Config.freeWord s.fresh, { s with fresh := s.fresh + 1 })

/-- Draw a free truth value. (DESIGN CHOICE, log 3) -/
def Dev.drawBool (s : Dev) : Bool × Dev := (Config.freeBool s.fresh, { s with fresh := s.fresh + 1 })

/-! ## Presence, locks -/

/-- The presence level that holds (R405). -/
def Dev.level (s : Dev) : Nat := s.fld F.PRES_STATUS_LEVEL

/-- The block of an address is locked against RWL writes (R7, R68, R206, R271). -/
def Dev.locked (s : Dev) (a : Nat) : Bool :=
  let b := a / 0x10000 % 0x4000
  (b = 2 && s.flag F.POSX_LOCK_LOCK) || (b = 8 && s.flag F.LRING_LOCK_LOCK) || (b = 15 && s.flag F.XCMP_LOCK_LOCK)

/-! ## Events (R375 to R378) -/

/-- B and r (events per minute, 0 unlimited) of an event code: the lowest sub-index of 0x2801 that names it, else 8 and one
per second (R378). -/
def rateGo (s : Dev) (code : Nat) : List Nat → Nat × Nat
  | [] => (8, 60)
  | i :: t => let v := s.od? 0x2801 i
              if v % 65536 = code ∧ code ≠ 0 then (v / 65536 % 256, v / 16777216) else rateGo s code t

def Dev.rate (s : Dev) (code : Nat) : Nat × Nat := rateGo s code ((upTo 16).map (· + 1))

/-- Refill a bucket up to an instant: one token at t0 + j / r for j = 1, 2, … while it is below B (R378). -/
def Bucket.refill (b : Bucket) (B r now : Nat) : Bucket :=
  if B ≤ b.tokens then b else
    let j := (now - b.t0) * r / 24000000000
    let gain := min (j - b.added) (B - b.tokens)
    { b with tokens := b.tokens + gain, added := b.added + gain }

/-- Take a token, if one is there; t0 restarts when the bucket falls below a full B. -/
def Bucket.take (b : Bucket) (B now : Nat) : Bool × Bucket :=
  if b.tokens = 0 then (false, { b with supp := b.supp + 1 })
  else if b.tokens ≥ B then (true, { b with tokens := b.tokens - 1, t0 := now, added := 0 })
  else (true, { b with tokens := b.tokens - 1 })

def bucketOf (l : List Bucket) (code B : Nat) : Bucket :=
  match l.find? (fun b => b.code == code) with
  | some b => b
  | none => { code := code, tokens := B }

def bucketPut (l : List Bucket) (b : Bucket) : List Bucket :=
  if l.any (fun x => x.code == b.code) then l.map (fun x => if x.code == b.code then b else x) else l ++ [b]

/-- The class of an event code (R377). -/
def evClass (code : Nat) : Nat := code / 4096

/-- A code of the classes that go to the safety queue (R376). -/
def evSafety (code : Nat) : Bool := evClass code = 8 || evClass code = 15

/-- A queue has room (R376): 256 and 64 once the event ring is filled, before it one pool of 1,024 with 64 kept. -/
def Dev.evRoom (s : Dev) (safety : Bool) : Bool :=
  if s.flag F.EVR_STATUS_EVREADY then
    if safety then s.evr.safety.length < 64 else s.evr.general.length < 256
  else s.evr.general.length + s.evr.safety.length < 1024 && (safety || decide (s.evr.general.length < 960))

/-- Put an event into its queue, or drop it and count it (R376). (DESIGN CHOICE, log 96) -/
def Dev.evPut (s : Dev) (e : EvRec) : Dev :=
  let sf := evSafety e.code
  if s.evRoom sf then
    { s with evr := if sf then { s.evr with safety := s.evr.safety ++ [e] } else { s.evr with general := s.evr.general ++ [e] } }
  else
    let s1 := (s.satInc F.EVR_LOST_COUNT).setFlag F.EVR_IRQ_LOST true
    { s1 with evr := { s1.evr with gap := true, dropped := s1.evr.dropped + 1,
                                   dropCls := if s1.evr.dropped = 0 then evClass e.code else s1.evr.dropCls } }

/-- An event that its bucket lets through: with the suppressed count, which returns to 0 where the event finds room and is
recorded (R378). -/
def Dev.evPass (s : Dev) (b : Bucket) (e : EvRec) : Dev :=
  ({ s with evr := { s.evr with buckets := bucketPut s.evr.buckets { b with supp := if s.evRoom (evSafety e.code) then 0 else b.supp } } }).evPut
    { e with supp := min b.supp 65535, sat := 65535 < b.supp }

/-- An event reaches EVR: the bucket of its code (none for classes 0x8, 0xA and 0xF), the queue, and Bear's safety log. (DESIGN CHOICE, log 96) -/
def Dev.logCore (s : Dev) (src code p1 p2 p3 : Nat) : Dev :=
  let e : EvRec := { ts := s.ns, code := code, src := src, p1 := p1 % 2 ^ 32, p2 := p2 % 2 ^ 32, p3 := p3 % 2 ^ 32 }
  let cls := evClass code
  if cls = 8 ∨ cls = 10 ∨ cls = 15 then
    let s1 := s.evPut e
    if cls = 10 then s1 else { s1 with nv := { s1.nv with safetyLog := ((s1.nv.safetyLog ++ [e]).drop (s1.nv.safetyLog.length + 1 - 4096)) } }
  else
    let br := s.rate code
    let b0 := bucketOf s.evr.buckets code br.1
    if br.2 = 0 then s.evPass b0 e
    else
      let t := (b0.refill br.1 br.2 s.now).take br.1 s.now
      if t.1 then s.evPass t.2 e
      else
        ({ s with evr := { s.evr with buckets := bucketPut s.evr.buckets t.2 } }).satInc F.EVR_SUPPTOT_COUNT

/-! ## Freezing a flight-recorder window (R383) -/

/-- The number of the next window, 0x0001 to 0xFEFF. -/
def nextWindow (n : Nat) : Nat := if n ≥ 0xFEFF then 1 else n + 1

/-- Freeze a window for a trigger at a tick: extend the open window, or open a new one; a ninth is refused with 0x0044. -/
def Dev.freezeAt (s : Dev) (kind t : Nat) (tag : Word) : Dev :=
  let ws := s.evr.windows
  let open_ (first : Nat) : Dev :=
    let n := nextWindow s.nv.lastWin
    let w : Window := { num := n, kind := kind, trig := t, first := first, last := t + 40000, tag := tag }
    let s1 : Dev := { s with evr := { s.evr with windows := ws ++ [w], winEnd := t + 40000 }, nv := { s.nv with lastWin := n } }
    let s2 := ((s1.setFld F.EVR_STATUS_PENDING (ws.length + 1)).setFlag F.EVR_IRQ_FROZEN true).odPut 0x2802 2 n
    s2.logCore 0 0x0042 n kind t
  let refused : Dev := s.logCore 0 0x0044 (nextWindow s.nv.lastWin) 0 3
  let start := max s.evr.winEnd (max (t - 240000) (s.evr.firstFr.getD t))
  match ws.getLast? with
  | some w =>
    if w.trig ≤ t ∧ t < w.last ∧ w.copying = false ∧ t + 40000 - w.first ≤ 960000 then
      { s with evr := { s.evr with windows := ws.dropLast ++ [{ w with last := max w.last (t + 40000) }], winEnd := max w.last (t + 40000) } }
    else if 8 ≤ ws.length then refused else open_ start
  | none => open_ start

/-! ## Emergency messages (R330) -/

/-- The error register 0x1001: bit 0 a channel not in RUN, bit 4 a port error passive or bus-off, bit 7 LOCKOUT. -/
def Dev.errorRegister (s : Dev) : Nat :=
  let sa := s.chA.state
  let sb := s.chB.state
  b2n (sa ≠ 0 || sb ≠ 0) +
  16 * b2n (s.flag (F.CANX_STATUS_EPASS 0) || s.flag (F.CANX_STATUS_EPASS 1) || s.flag (F.CANX_STATUS_BUSOFF 0) || s.flag (F.CANX_STATUS_BUSOFF 1)) +
  128 * b2n (sa = 3 || sb = 3)

/-- Queue an emergency message on each port that is Pre-operational or Operational, and keep its error code in 0x1003. -/
def Dev.emcy (s : Dev) (err code p1 : Nat) : Dev :=
  let m : Emcy := { err := err, code := code, p1 := p1 % 2 ^ 32, ts := s.ns }
  let ports : Vector CanPort 2 := Vector.ofFn fun i =>
    let st := s.fld (F.CANX_STATUS_NMT i.val)
    if st = 1 ∨ st = 2 then { s.can[i] with emcy := s.can[i].emcy ++ [m] } else s.can[i]
  { s with can := ports, errHist := (err :: s.errHist).take 8 }

/-- Both channels are back in RUN: error code 0x0000, which is no error of the field 0x1003 (R330). -/
def Dev.emcyClear (s : Dev) : Dev :=
  { s with can := Vector.ofFn fun i =>
      let st := s.fld (F.CANX_STATUS_NMT i.val)
      if st = 1 ∨ st = 2 then { s.can[i] with emcy := s.can[i].emcy ++ [{ err := 0, code := 0x8001, p1 := 0, ts := s.ns }] } else s.can[i] }

/-- The event is one for which an emergency message is sent (R330): a class 0xF event, or a code listed in 0x2F40. -/
def Dev.emcyListed (s : Dev) (code : Nat) : Bool :=
  evClass code = 15 || ((upTo 16).any fun i => s.od? 0x2F40 (i + 1) = code)

/-- Report an event with its source master: EVR takes it, a trigger of R383 freezes a window, and R330's events send an
emergency message. -/
def Dev.logBy (s : Dev) (src code p1 p2 p3 : Nat) : Dev :=
  let s1 := s.logCore src code p1 p2 p3
  let s2 := if code = 0x8001 ∧ (p2 = 2 ∨ p2 = 3) then s1.freezeAt 0 s.tick 0
            else if evClass code = 15 then s1.freezeAt 1 s.tick 0 else s1
  if (code = 0x8001 ∧ p2 ≠ 0) ∨ s.emcyListed code then s2.emcy (0xFF00 + 16 * evClass code) code p1 else s2

/-- Report an event of the hardware (master 0). -/
def Dev.log (s : Dev) (code p1 p2 p3 : Nat) : Dev := s.logBy 0 code p1 p2 p3

/-- Report an event that its chapter states sends an emergency message. -/
def Dev.logE (s : Dev) (code p1 p2 p3 : Nat) : Dev :=
  let s1 := s.logBy 0 code p1 p2 p3
  if s.emcyListed code ∨ (code = 0x8001 ∧ p2 ≠ 0) then s1 else s1.emcy (0xFF00 + 16 * evClass code) code p1

/-- FLSH works: the NAND leaves its low-power state (R15). -/
def Dev.flashUsed (s : Dev) : Dev := { s with memc := { s.memc with nandLow := false, flashAt := s.now } }

/-- FLSH has been idle for 100 ms: the NAND enters its low-power state (R15). -/
def Dev.flashIdle (s : Dev) : Dev :=
  if s.memc.flashAt + 100 * msCyc ≤ s.now then { s with memc := { s.memc with nandLow := true } } else s

/-! ## Answers of the bus -/

/-- The access of master m is answered with data. -/
def Dev.answer (s : Dev) (m : Master) (d : List Byte) : Dev := { s with bus := s.bus.set m { data := d, err := false } }

/-- The access of master m ends in a bus error (R9). -/
def Dev.busError (s : Dev) (m : Master) : Dev := { s with bus := s.bus.set m { data := [], err := true } }

/-! ## Writes by access code (R7, R8) -/

/-- Whether a field of this code takes a written value now (R7). -/
def Dev.mayWrite (s : Dev) (a : Nat) : Acc → Bool
  | .rw => true
  | .w1c => true
  | .w1s => true
  | .rwp => 1 ≤ s.level
  | .rwi => s.level = 2
  | .rwl => !s.locked a
  | .rwF => !s.flag (F.DOOR_STATUS_DRVEN ((a - 0x40060000) / 0x10000))
  | .ro => false
  | .wo => false

/-- The new word of one run of bits. -/
def Dev.putRun (s : Dev) (a : Nat) (val old : Word) (b : BitRun) : Word :=
  let m : Word := BitVec.ofNat 32 (bitMask b.hi b.lo)
  if s.mayWrite a b.acc then
    match b.acc with
    | .w1c => old &&& ~~~ (val &&& m)
    | .w1s => old ||| (val &&& m)
    | _ => (old &&& ~~~ m) ||| (val &&& m)
  else old

/-- The word that a write leaves, all its fields in one cycle (R10). -/
def Dev.written (s : Dev) (a : Nat) (d : RegDesc) (val : Word) : Word := d.bits.foldl (s.putRun a val) (s.rd a)

/-- An RWP or RWI field would have changed and failed only for want of presence (R8). -/
def Dev.presenceRefused (s : Dev) (a : Nat) (d : RegDesc) (val : Word) : Bool :=
  d.bits.any fun b => (b.acc == .rwp || b.acc == .rwi) && !s.mayWrite a b.acc &&
    ((s.rd a ^^^ val) &&& BitVec.ofNat 32 (bitMask b.hi b.lo)) != 0

/-- A write with no effect of its own (R7 to R10): the permitted fields change; a register that only master 5 may write
keeps its value for every other master; 0xA011 where presence is wanting (R8). -/
def Dev.plainWrite (s : Dev) (m : Master) (a : Nat) (val : Word) : Dev :=
  match regDesc? a with
  | none => s
  | some d =>
    if d.m5 ∧ m ≠ 5 then s
    else
      let s1 := s.wr a (s.written a d val)
      if s.presenceRefused a d val then s1.logBy m.val 0xA011 1 a 4 else s1

/-- What a read of a register returns: the writable-only fields and the reserved bits read 0 (R7, R9). -/
def Dev.readMasked (s : Dev) (a : Nat) : Word :=
  match regDesc? a with
  | none => 0
  | some d => s.rd a &&& BitVec.ofNat 32 (d.maskOf fun c => match c with | .wo => false | _ => true)

/-! ## Running a meaning -/

/-- Run an effect on the module. In power-on reset nothing but its end acts (R421). (DESIGN CHOICE, log 118) -/
def onDev (s : State) (f : Dev → Dev) : Host.Outcome State Fault Refusal :=
  .next (if s.dev.inReset then s else { s with dev := f s.dev })

/-- Run an effect on the module and its memories; the queue stays. (DESIGN CHOICE, log 118) -/
def onAll (s : State) (f : Dev × MemSys → Dev × MemSys) : Host.Outcome State Fault Refusal :=
  .next (if s.dev.inReset then s else let r := f (s.dev, s.mem); { s with dev := r.1, mem := r.2 })

end Sys2Proof.Machine
end

