-- ==== Sys2Proof/Machine/Posx.lean ====
section
/-! DEFINITION. POSX (R42 to R68): counter edges, line faults, the snapshot with its speeds, absolute frames, fusion, Hall
triplets and encoder emulation. -/

namespace Sys2Proof.Machine

/-! ## Encoder emulation (R66) -/

/-- One source count adds ±N to the accumulator and may queue an output edge; beyond 65,535 waiting edges it is dropped. CFG.EN
only drives the outputs. (DEDUCED, log 122) -/
def Dev.emuCount (s : Dev) (n : Fin 4) (d : Int) : Dev :=
  if s.fldF F.POSX_EMU_CFG_SRC = n.val then
    let a := s.posx.emu.acc + d * s.fldF F.POSX_EMU_RATIO_N
    let m : Int := s.fldF F.POSX_EMU_RATIO_M
    if a < m ∧ -m < a then { s with posx := { s.posx with emu := { s.posx.emu with acc := a } } }
    else
      let fwd := decide (m ≤ a)
      let a' := if m ≤ a then a - m else a + m
      if s.posx.emu.back.length < 65535 then
        let s1 := { s with posx := { s.posx with emu := { s.posx.emu with acc := a', back := s.posx.emu.back ++ [fwd] } } }
        s1.setFld F.POSX_EMU_STATUS_BACKLOG s1.posx.emu.back.length
      else
        let s1 := { s with posx := { s.posx with emu := { s.posx.emu with acc := a' } } }
        ((s1.setFlag F.POSX_EMU_STATUS_LOST true).setFlag F.POSX_IRQ_EMULOST true).log 0x1040 s.posx.emu.back.length 0 0
  else s

/-- EMU issues the oldest waiting edge, at least 500 ns after the previous one; Z follows a source Z by one edge. -/
def Dev.emuEdge (s0 : Dev) (off : Nat) : Dev :=
  let s := s0.at off
  let e := s.posx.emu
  match e.back with
  | [] => s
  | fwd :: rest =>
    if e.lastAt = none ∨ e.lastAt.getD 0 + 200 ≤ s.now then
      let z := s.flagF F.POSX_EMU_CFG_ZMODE && e.zArm
      let s1 := { s with posx := { s.posx with emu := { e with back := rest, quad := (if fwd then e.quad + 1 else e.quad + 3) % 4, lastAt := some s.now, zOut := z, zArm := false } } }
      s1.setFld F.POSX_EMU_STATUS_BACKLOG rest.length
    else s

/-! ## Counter edges (R43 to R48) -/

/-- The place of a BA level pair in the sequence 00, 01, 11, 10. -/
def quadPlace (a b : Bool) : Nat :=
  match b, a with
  | false, false => 0
  | false, true => 1
  | true, true => 2
  | true, false => 3

/-- The count of a quadrature step: +1, -1, or none where both lines changed or neither did. -/
def quadStep (a b a' b' : Bool) : Int :=
  match (quadPlace a' b' + 4 - quadPlace a b) % 4 with
  | 1 => 1
  | 3 => -1
  | _ => 0

/-- The count that new filtered levels give in a mode (R44), before INVDIR. -/
def countOf (mode : Nat) (a b a' b' : Bool) : Int :=
  match mode with
  | 0 => quadStep a b a' b'
  | 1 => if !a && a' then (if b' then 1 else -1) else 0
  | 2 => if !a && a' then 1 else if !b && b' then -1 else 0
  | _ => 0

/-- Badger's own quadrature count of the CNT[0] lines (R237); a simultaneous change is not counted. -/
def Dev.badgerEdge (s : Dev) (a b : Bool) : Dev :=
  let g := s.badger
  let d := quadStep g.a g.b a b
  let d' := if bitN (s.bpar 0x2701 7) 0 then -d else d
  let turns := if g.lastSign ≠ 0 ∧ d' ≠ 0 ∧ d' ≠ g.lastSign then g.turns + 1 else g.turns
  { s with badger := { g with a := a, b := b, count := g.count + d', lastSign := if d' = 0 then g.lastSign else d', turns := turns,
                              trail := if d' = 0 then g.trail else (s.now, g.count + d', turns) :: g.trail } }

/-- A count on channel n: the total, the direction, the stamps and the emulation (R44, R46, R49, R50, R66). -/
def Dev.count (s : Dev) (n : Fin 4) (d : Int) : Dev :=
  let c := s.posx.cnt[n]
  let per := if c.lastSign = d then s.now - c.lastAt else 0
  let trn := if c.lastSign ≠ 0 ∧ c.lastSign ≠ d then c.turns + 1 else c.turns
  let c1 : CntCh := { c with total := c.total + d, lastSign := d, stamped := true, lastAt := s.now, period := per, gross := c.gross + 1, turns := trn }
  let c2 : CntCh := { c1 with trail := ⟨s.now, c1.total, d, trn⟩ :: c.trail }
  let s1 := { s with posx := { s.posx with cnt := s.posx.cnt.set n c2 } }
  let s2 := s1.setFlag (F.POSX_CNT_STATUS_DIR n.val) (0 < d)
  let s3 := if c.lastSign ≠ 0 ∧ c.lastSign ≠ d then
      (s2.setFlag (F.POSX_CNT_STATUS_DIRCHG n.val) true).setBit R.POSX_IRQ n.val else s2
  s3.emuCount n d

/-- Both lines changed in one sample: ILLEGAL, ILLCNT, event 0x1001, and the count unchanged (R45). -/
def Dev.illegal (s : Dev) (n : Fin 4) : Dev :=
  let s1 := (s.setFlag (F.POSX_CNT_STATUS_ILLEGAL n.val) true).satInc (F.POSX_CNT_STATUS_ILLCNT n.val)
  let s2 := s1.setBit R.POSX_IRQ (4 + n.val)
  let s3 := s2.log 0x1001 n.val (w32 s.posx.cnt[n].total) (s2.fld (F.POSX_CNT_STATUS_ILLCNT n.val))
  let s4 := { s3 with posx := { s3.posx with cnt := vmod s3.posx.cnt n fun c => { c with illSlow := c.illSlow + 1 } } }
  illFuse s4 n
where
  illFuse (s3 : Dev) (n : Fin 4) : Dev :=
   if n = 0 then { s3 with posx := { s3.posx with fuse := { s3.posx.fuse with illSlow := s3.posx.fuse.illSlow + 1, dirty := true } } } else s3

/-- The filter of channel n accepts a level that has held for FILT + 1 samples of the fabric clock (R43). -/
def Dev.cntAccepts (s : Dev) (n : Fin 4) (held : Nat) : Bool := decide (s.fldF (F.POSX_CNT_CFG_FILT n.val) < held)

/-- A level that the filter of channel n rejects: the channel sees nothing; Badger, which has no filter, counts the CNT[0] lines
there and back (R43, R237). -/
def Dev.cntGlitch (s0 : Dev) (n : Fin 4) (a b : Bool) (held off : Nat) : Dev :=
  let s := s0.at off
  if n = 0 then ((s.badgerEdge a b).at (off + held)).badgerEdge s.badger.a s.badger.b else s

/-- New levels on channel n, which hold for `held` samples from the raw transition on (R43 to R45); Badger counts the CNT[0]
lines beside it (R237). (DESIGN CHOICE, log 128) -/
def Dev.cntEdge (s0 : Dev) (n : Fin 4) (a b : Bool) (held off : Nat) : Dev :=
  if s0.cntAccepts n held = false then s0.cntGlitch n a b held off else
  let s1 := s0.at off
  let s := if n = 0 then s1.badgerEdge a b else s1
  let c := s.posx.cnt[n]
  let lv := { s with posx := { s.posx with cnt := s.posx.cnt.set n { c with a := a, b := b } } }
  if s.flagF (F.POSX_CNT_CFG_EN n.val) then
    if c.a ≠ a ∧ c.b ≠ b then lv.illegal n
    else
      let d := countOf (s.fldF (F.POSX_CNT_CFG_MODE n.val)) c.a c.b a b
      if d = 0 then lv else lv.count n (if s.flagF (F.POSX_CNT_CFG_INVDIR n.val) then -d else d)
  else lv

/-- A rising Z edge sets ZSEEN (R48) and arms the emulated Z (R66); the filter of the channel stands before it (R43). -/
def Dev.zLevel (s0 : Dev) (n : Fin 4) (off : Nat) : Dev :=
  let s := (s0.at off).setFlag (F.POSX_CNT_STATUS_ZSEEN n.val) true
  if s.flagF F.POSX_EMU_CFG_ZMODE ∧ s.fldF F.POSX_EMU_CFG_SRC = n.val then
    { s with posx := { s.posx with emu := { s.posx.emu with zArm := true } } } else s

/-- A differential input has a line fault (R47): a counter line with LINECHK set, or an absolute channel's data line. -/
def Dev.lineFault (s : Dev) (src : Fin 6) (mask : Nat) : Dev :=
  if src.val < 4 then
    if s.flagF (F.POSX_CNT_CFG_LINECHK src.val) then
      let s1 := s.setFld (F.POSX_CNT_STATUS_LINEFLT src.val) (s.fld (F.POSX_CNT_STATUS_LINEFLT src.val) ||| mask)
      let s2 := s1.log 0x1002 src.val mask 0
      if src = 0 ∧ mask % 4 ≠ 0 then { s2 with posx := { s2.posx with fuse := { s2.posx.fuse with dirty := true } } } else s2
    else s
  else
    let i : Fin 2 := Fin.ofNat 2 (src.val - 4)
    ({ s with posx := { s.posx with abs := vmod s.posx.abs i fun c => { c with lineBad := true } } }).log 0x1002 src.val mask 0

/-- The line's voltage is back: its present LINEFLT bits clear (R47). -/
def Dev.lineOk (s : Dev) (n : Fin 4) (mask : Nat) : Dev :=
  s.setFld (F.POSX_CNT_STATUS_LINEFLT n.val) (s.fld (F.POSX_CNT_STATUS_LINEFLT n.val) &&& (7 - mask % 8))

/-! ## The counter snapshot and its speeds (R48 to R51) -/

/-- No count has been stamped within the last SPDCFG.STILL ms before now (R50). -/
def Dev.stillNow (s : Dev) (n : Fin 4) : Bool :=
  let c := s.posx.cnt[n]
  !c.stamped || decide (s.fldF (F.POSX_CNT_SPDCFG_STILL n.val) * msCyc < s.now - c.lastAt)

/-- The edge-count estimate over the last WIN ticks (R49); `hist` holds the totals at the sample points, latest first. -/
def edgeSpeed (hist : List (Int × Nat)) (win num den : Int) : Int :=
  let c0 := (hist.getD 0 (0, 0)).1
  let cN := (hist.getD win.toNat (0, 0)).1
  quo ((c0 - cN) * num * 8000) (den * win)

/-- The counts that the window holds. -/
def windowCounts (hist : List (Int × Nat)) (win : Nat) : Nat := (hist.getD 0 (0, 0)).2 - (hist.getD win (0, 0)).2

/-- The period estimate (R49): none before a first full period (R50). -/
def periodSpeed (period since : Nat) (up : Bool) (num den : Int) : Int :=
  if period = 0 then 0 else
    let v := quo (num * 400000000) (den * (max period since : Nat))
    if up then v else -v

/-- The recent counts that a capture may still reach back to, and the one before them. -/
def trimTrail (now : Nat) (l : List CountMark) : List CountMark :=
  let old := now - 100 * msCyc
  l.filter (fun e => old < e.at_) ++ (l.filter fun e => e.at_ ≤ old).take 1

/-- The count of a channel is frozen at the sample point (R22, R32), whatever becomes of phase 0: every window of N ticks ends on
the counts of N + 1 sample points in a row. -/
def Dev.cntFreeze (s : Dev) (n : Fin 4) : Dev :=
  let c := s.posx.cnt[n]
  { s with posx := { s.posx with cnt := s.posx.cnt.set n { c with hist := ((c.total, c.gross) :: c.hist).take 129, snap := c.total, trail := trimTrail s.now c.trail } } }

/-- OFFSET + count × NUM / DEN, unsaturated (R48). -/
def Dev.cntScaled (s : Dev) (n : Fin 4) (count : Int) : Int :=
  s.fldFI (F.POSX_CNT_OFFSET_OFFSET n.val) + quo (count * s.fldFI (F.POSX_CNT_SCALE_NUM n.val)) (s.fldF (F.POSX_CNT_SCALE_DEN n.val))

/-- The registers of one counter channel from its frozen count (R48 to R51). A SPEED or a PERIOD that its register cannot hold is
open. (DESIGN CHOICE, log 5) -/
def Dev.cntShow (s : Dev) (n : Fin 4) : Dev :=
  let c := s.posx.cnt[n]
  let num := s.fldFI (F.POSX_CNT_SCALE_NUM n.val)
  let den : Int := s.fldF (F.POSX_CNT_SCALE_DEN n.val)
  let win := s.fldF (F.POSX_CNT_SPDCFG_WIN n.val)
  let pos := s.cntScaled n c.snap
  let still := s.stillNow n
  let vE := edgeSpeed c.hist win num den
  let vP := periodSpeed c.period (s.now - c.lastAt) (0 < c.lastSign) num den
  let mode := s.fldF (F.POSX_CNT_SPDCFG_SPDMODE n.val)
  let useP := if mode = 1 then false else if mode = 2 then true
    else decide (windowCounts c.hist win < s.fldF (F.POSX_CNT_SPDCFG_MINEDGE n.val))
  let v := if still then 0 else if useP then vP else vE
  let s2 := ((s.wrI (R.POSX_CNT_RAW n.val) c.snap).wrI (R.POSX_CNT_POS n.val) (sat32 pos)).wrI (R.POSX_CNT_SPEED n.val) (fitI 32 v)
  let s3 := (s2.wrN (R.POSX_CNT_PERIOD n.val) (fitN 32 c.period)).setFlag (F.POSX_CNT_STATUS_STILL n.val) still
  let s4 := s3.setFlag (F.POSX_CNT_STATUS_SPDSRC n.val) useP
  if sat32 pos = pos then s4 else s4.setFlag (F.POSX_CNT_STATUS_SAT n.val) true

/-- The still timeout of a channel between sample points: both estimates 0 and STILL set (R50). -/
def Dev.stillTimeout (s : Dev) (n : Fin 4) : Dev :=
  if s.stillNow n then (s.setFlag (F.POSX_CNT_STATUS_STILL n.val) true).wrN (R.POSX_CNT_SPEED n.val) 0 else s

/-! ## Absolute channels (R52 to R58) -/

/-- The clock period in fabric cycles. -/
def absClock (clk : Nat) : Nat := match clk with | 0 => 40 | 1 => 80 | 2 => 160 | _ => 400

/-- The expected frame end E in fabric cycles after the sample point (R56), with the settings in force. -/
def Dev.absE (s : Dev) (n : Fin 2) : Nat :=
  let len := s.fldF (F.POSX_ABS_CFG_LEN n.val)
  let per := absClock (s.fldF (F.POSX_ABS_CFG_CLK n.val))
  if s.flagF (F.POSX_ABS_CFG_PROTO n.val) then
    ((if s.flagF (F.POSX_ABS_CFG_DOUBLE n.val) then 2 * len else len) + 1) * per + s.fldF (F.POSX_ABS_CFG_SSIDLY n.val) * 40
  else (len + 12) * per + s.fld (F.POSX_ABS_DELAY_RTD n.val)

/-- The pairing and the window end in µs of the frame that starts now (R56): deferred with 60 µs for the first frame after
reset; undeferred with 12 µs while E is below 12 µs; else deferred with the next whole µs above E, at most 60. -/
def Dev.absPlan (s : Dev) (n : Fin 2) : Bool × Nat :=
  if !s.posx.abs[n].seen then (true, 60)
  else if s.absE n < 12 * usCyc ∧ s.flagF (F.POSX_ABS_CFG_FORCEDEFER n.val) = false then (false, 12)
  else (true, min 60 (s.absE n / usCyc + 1))

/-- A frame starts: STATUS.DEFER and DELAY.WINEND show its pairing and its window; entering deferred pairing logs 0x1050. -/
def Dev.absPlanShown (s : Dev) (n : Fin 2) (p : Bool × Nat) : Dev :=
  let was := s.flag (F.POSX_ABS_STATUS_DEFER n.val)
  let s1 := (s.setFlag (F.POSX_ABS_STATUS_DEFER n.val) p.1).setFld (F.POSX_ABS_DELAY_WINEND n.val) p.2
  if p.1 ∧ !was then s1.log 0x1050 n.val p.2 (s.fld (F.POSX_ABS_DELAY_RTD n.val)) else s1

/-- The BiSS C check bits as sent: x⁶ + x + 1 from 0 over the data, nE and nW, inverted (R53). -/
def bissCrc (len data : Nat) (nE nW : Bool) : Nat :=
  63 - (msbBits len data ++ [nE, nW]).foldl (crcStep 6 3) 0

/-- Gray code to binary, over `len` bits. -/
def grayToBin : Nat → Nat → Nat
  | 0, x => x
  | n + 1, x => x ^^^ grayToBin n (x / 2)

/-- The flags that an invalid frame shows: CRC or double-read mismatch, error bit, timeout, line fault (R53, R55, R57). -/
structure AbsJudged where
  crcErr  : Bool
  errBit  : Bool
  timeout : Bool
  lineFlt : Bool
  warn    : Bool
  data    : Nat
  deriving DecidableEq, Repr

/-- Judge a frame against its protocol and its window end, with the settings in force. -/
def Dev.absJudge (s : Dev) (n : Fin 2) (fr : AbsFrame) (winEnd : Nat) : AbsJudged :=
  let len := s.fldF (F.POSX_ABS_CFG_LEN n.val)
  let bad := s.posx.abs[n].lineBad
  if s.flagF (F.POSX_ABS_CFG_PROTO n.val) then
    let dbl := s.flagF (F.POSX_ABS_CFG_DOUBLE n.val)
    let ones := 2 ^ len - 1
    let flat := (fr.data % 2 ^ len = 0 ∧ (dbl = false ∨ fr.data2 % 2 ^ len = 0)) ∨ (fr.data % 2 ^ len = ones ∧ (dbl = false ∨ fr.data2 % 2 ^ len = ones))
    { crcErr := dbl && (fr.data % 2 ^ len != fr.data2 % 2 ^ len), errBit := false,
      timeout := decide (winEnd * usCyc ≤ fr.endCyc), lineFlt := bad || decide flat, warn := false,
      data := if s.flagF (F.POSX_ABS_CFG_GRAY n.val) then grayToBin len (fr.data % 2 ^ len) else fr.data % 2 ^ len }
  else
    { crcErr := fr.crc % 64 != bissCrc len fr.data fr.nE fr.nW, errBit := !fr.nE,
      timeout := decide (winEnd * usCyc ≤ fr.endCyc) || (match fr.rtd with | some r => decide (40 * usCyc ≤ r) | none => true),
      lineFlt := bad, warn := !fr.nW, data := fr.data % 2 ^ len }

/-- Take a judged frame: STATUS, the error counters and 0x1010 where it is invalid (R57), DATA and POS where it is valid
(R58), and the reading for fusion. A position that POS cannot hold is shown as open; fusion takes it as it is. (DESIGN CHOICE, log 5) -/
def Dev.absTake (s : Dev) (n : Fin 2) (j : AbsJudged) : AbsReading × Dev :=
  let ok := !(j.crcErr || j.errBit || j.timeout || j.lineFlt)
  let st (f : Nat → Fld) (b : Bool) (d : Dev) : Dev := d.setFlag (f n.val) b
  let s1 := st F.POSX_ABS_STATUS_VALID ok (st F.POSX_ABS_STATUS_WARN j.warn (st F.POSX_ABS_STATUS_ERRBIT j.errBit
    (st F.POSX_ABS_STATUS_CRCERR j.crcErr (st F.POSX_ABS_STATUS_TIMEOUT j.timeout (st F.POSX_ABS_STATUS_LINEFLT j.lineFlt s)))))
  let s2 := { s1 with posx := { s1.posx with abs := vmod s1.posx.abs n fun c => { c with lineBad := false } } }
  let s3 := if j.warn then s2.log 0x1014 n.val j.data 0 else s2
  if ok then
    let p := s.fldFI (F.POSX_ABS_OFFSET_OFFSET n.val) + quo (j.data * s.fldFI (F.POSX_ABS_SCALE_NUM n.val)) (s.fldF (F.POSX_ABS_SCALE_DEN n.val))
    let s4 := (s3.setFld (F.POSX_ABS_STATUS_CONSEC n.val) 0).wrN (R.POSX_ABS_DATA_LO n.val) j.data
    ({ valid := true, pos := p }, (s4.wrN (R.POSX_ABS_DATA_HI n.val) (j.data / 2 ^ 32)).wrI (R.POSX_ABS_POS n.val) (fitI 32 p))
  else
    let s4 := (s3.satInc (F.POSX_ABS_STATUS_CONSEC n.val)).satInc (F.POSX_ABS_STATUS_ERRTOT n.val)
    let s5 := s4.setBit R.POSX_IRQ (8 + n.val)
    ({ valid := false, pos := 0 },
      s5.log 0x1010 n.val (s5.fld ⟨R.POSX_ABS_STATUS n.val, 7, 0⟩) (s5.fld (F.POSX_ABS_STATUS_CONSEC n.val)))

/-- Hand the reading to the fusion it belongs to: a deferred frame of the present tick to the next tick's (with the snapshot
of its own), an undeferred frame to that of the tick whose sample point is run next. (DEDUCED, log 63) -/
def Dev.absDeliver (s : Dev) (n : Fin 2) (late : Bool) (r : AbsReading) : Dev :=
  { s with posx := { s.posx with abs := vmod s.posx.abs n fun c =>
      if late then { c with await := false, lateR := some r } else { c with got := true, nowR := some r } } }

/-- Run an operation with the settings that the next sample point brings into force (R24, R67). -/
def Dev.ahead (s : Dev) (f : Dev → Dev) : Dev :=
  let r := f { s with force := s.regs }
  { r with force := s.force }

/-- A judged frame ends: the deferred frame that the present tick awaits, under the settings in force, or the undeferred frame of
the tick to come, under the settings of its sample point. (DESIGN CHOICE, log 61) -/
def Dev.absEnd (s : Dev) (n : Fin 2) (judge : Dev → Nat → AbsJudged) (rtd : Option Nat) : Dev :=
  if s.posx.abs[n].await then
    if s.flagF (F.POSX_ABS_CFG_EN n.val) then
      let r := s.absTake n (judge s s.posx.abs[n].winEnd)
      (rtdShown r.2).absDeliver n true r.1
    else s
  else s.ahead fun d =>
    let p := d.absPlan n
    if d.flagF (F.POSX_ABS_CFG_EN n.val) = false ∨ p.1 then d else
      let s1 := d.absPlanShown n p
      let r := s1.absTake n (judge s1 p.2)
      (rtdShown r.2).absDeliver n false r.1
where
  rtdShown (d : Dev) : Dev :=
    match rtd with
    | some r => if d.flagF (F.POSX_ABS_CFG_PROTO n.val) then d else d.setFld (F.POSX_ABS_DELAY_RTD n.val) r
    | none => d

/-- The end in µs of the transfer window that channel n has in the tick to come; 12 where it reads no frame (R33, R56). -/
def Dev.absWindowNext (s : Dev) (n : Fin 2) : Nat :=
  let d := { s with force := s.regs }
  if d.flagF (F.POSX_ABS_CFG_EN n.val) && !d.posx.abs[n].got then (d.absPlan n).2 else 12

/-- A complete frame was received (R53 to R58). (DESIGN CHOICE, log 61) -/
def Dev.absFrame (s : Dev) (n : Fin 2) (fr : AbsFrame) : Dev := s.absEnd n (fun d w => d.absJudge n fr w) fr.rtd

/-- The transfer window ended before the frame did (R57). -/
def Dev.absTimeout (s : Dev) (n : Fin 2) : Dev :=
  s.absEnd n (fun d _ => { crcErr := false, errBit := false, timeout := true, lineFlt := d.posx.abs[n].lineBad, warn := false, data := 0 }) none

/-- At the sample point POSX starts the frame of the tick (R52, R56): a deferred frame is awaited; an undeferred one has been
judged by now. A channel without a reading this tick shows VALID = 0. (DESIGN CHOICE, log 61) -/
def Dev.absStart (s : Dev) (n : Fin 2) : Dev :=
  if s.flagF (F.POSX_ABS_CFG_EN n.val) then
    let c := s.posx.abs[n]
    let s0 := if c.got = false ∧ c.lateR = none then s.setFlag (F.POSX_ABS_STATUS_VALID n.val) false else s
    if c.got then { s0 with posx := { s0.posx with abs := vmod s0.posx.abs n fun c => { c with got := false, await := false, seen := true } } }
    else
      let p := s0.absPlan n
      let s1 := s0.absPlanShown n p
      { s1 with posx := { s1.posx with abs := vmod s1.posx.abs n fun c => { c with await := p.1, winEnd := p.2, seen := true } } }
  else s

/-! ## Fusion (R59 to R63, R67) -/

/-- The absolute channel that fusion uses. -/
def Dev.absSel (s : Dev) : Fin 2 := Fin.ofNat 2 (s.fldF F.POSX_FUSE_CFG_ABSSEL)

def Dev.setFuse (s : Dev) (f : FuseSt) : Dev := { s with posx := { s.posx with fuse := f } }

/-- Eight consecutive ticks without an accepted reading: ABSLOST, with O frozen (R61). -/
def Dev.abslostEntered (s : Dev) : Dev :=
  let f := s.posx.fuse
  if f.seeded ∧ 8 ≤ f.noAcc ∧ s.flag F.POSX_FUSE_STATUS_ABSLOST = false then
    let s1 := (s.setFuse { f with recov := [], align := false }).setFlag F.POSX_FUSE_STATUS_ABSLOST true
    (s1.setFlag F.POSX_IRQ_ABSLOST true).log 0x1012 1 s.absSel.val 0
  else s

/-- The last sixteen innovations lie within REJECT of one another (R62). -/
def consistent (reject : Int) (l : List Int) : Bool :=
  l.all fun a => l.all fun b => decide (a - b ≤ reject)

/-- Sixteen consistent valid readings end ABSLOST: at standstill O takes the last innovation at once, in motion it is
re-aligned at the rate limit (R62). -/
def Dev.abslostRecovery (s : Dev) : Dev :=
  let f := s.posx.fuse
  if s.flag F.POSX_FUSE_STATUS_ABSLOST ∧ 16 ≤ f.recov.length ∧ consistent (1000 * s.fldF F.POSX_FUSE_CFG_REJECT) f.recov then
    let still := s.flag (F.POSX_CNT_STATUS_STILL 0)
    let e := f.lastE
    let cm : Int := s.fldF F.POSX_FUSE_CFG_CORRMAX
    let f1 := if still then { f with off := f.off + e, recov := [], align := false, noAcc := 0 }
      else { f with off := f.off + clampI (-cm) cm e, recov := [], align := decide (cm < e ∨ e < -cm), noAcc := 0 }
    let s1 := ((s.setFuse f1).setFlag F.POSX_FUSE_STATUS_ABSLOST false).setFlag F.POSX_IRQ_ABSLOST true
    (s1.log 0x1012 0 s.absSel.val 0).log 0x1013 s.absSel.val (w32 e) (if still then 1 else 2)
  else s

/-- Illegal counts or line faults on CNT[0] put fusion into INCLOST (R61). -/
def Dev.inclostEntered (s : Dev) : Dev :=
  let f := s.posx.fuse
  if s.flagF F.POSX_FUSE_CFG_EN ∧ (8 ≤ f.illSlow ∨ 4 ≤ f.lineRun) ∧ s.flag F.POSX_FUSE_STATUS_INCLOST = false then
    let s1 := (s.setFuse { f with dirty := true }).setFlag F.POSX_FUSE_STATUS_INCLOST true
    (s1.setFlag F.POSX_IRQ_INCLOST true).log 0x1003 1 (w32 s.posx.cnt[(0 : Fin 4)].snap) 0
  else s

/-- At the end of a whole slow tick without ILLEGAL or LINEFLT, INCLOST ends and the next valid reading re-seeds O (R61). -/
def Dev.inclostCleared (s : Dev) : Dev :=
  let f := s.posx.fuse
  if s.tick % 800 = 0 ∧ f.dirty = false ∧ s.flag F.POSX_FUSE_STATUS_INCLOST = true then
    let s1 := (s.setFuse { f with reseed := true, illSlow := 0, lineRun := 0 }).setFlag F.POSX_FUSE_STATUS_INCLOST false
    (s1.setFlag F.POSX_IRQ_INCLOST true).log 0x1003 0 (w32 s.posx.cnt[(0 : Fin 4)].snap) 0
  else s

/-- Eight consecutive fusion misses: VALID = 0, and the next accepted reading seeds O again (R63). -/
def Dev.fusionInvalid (s : Dev) : Dev :=
  let f := s.posx.fuse
  if 8 ≤ f.misses ∧ f.seeded then
    (s.setFuse { f with seeded := false, align := false, recov := [], noAcc := 0 }).setFlag F.POSX_FUSE_STATUS_VALID false
  else s

/-- The reading that reaches fusion in this tick, with the snapshot it pairs with (R56): this tick's undeferred reading, or
the deferred reading of the tick before while pairing stays deferred; none otherwise. (DEDUCED, log 63) -/
def Dev.fuseInput (s : Dev) : Option (AbsReading × Int) :=
  let c := s.posx.abs[s.absSel]
  match c.nowR, c.lateR with
  | some r, _ => some (r, sat32 (s.cntScaled 0 s.posx.cnt[(0 : Fin 4)].snap))
  | none, some r => if s.flag (F.POSX_ABS_STATUS_DEFER s.absSel.val) then some (r, s.posx.fuse.prevI) else none
  | none, none => none

/-- A valid reading (A, I) while fusion is seeded and neither condition holds: R59, or the rate-limited re-alignment of R62. -/
def Dev.fuseNormal (s : Dev) (A I : Int) : Dev :=
  let f := s.posx.fuse
  let e := A - (I + f.off)
  let s0 := s.wrI R.POSX_FUSE_INNOV (fitI 32 e)
  let cm : Int := s.fldF F.POSX_FUSE_CFG_CORRMAX
  if f.reseed then
    (s0.setFuse { f with off := A - I, reseed := false, align := false, noAcc := 0, lastE := e }).log 0x1013 s.absSel.val (w32 e) 1
  else if f.align then
    if e ≤ cm ∧ -cm ≤ e then (s0.setFuse { f with off := A - I, align := false, noAcc := 0, lastE := e }).setFld F.POSX_FUSE_STATUS_REJCNT 0
    else (s0.setFuse { f with off := f.off + clampI (-cm) cm e, noAcc := 0, lastE := e }).setFld F.POSX_FUSE_STATUS_REJCNT 0
  else if 1000 * (s.fldF F.POSX_FUSE_CFG_REJECT : Int) ≤ |e| then
    let s1 := (s0.setFuse { f with noAcc := f.noAcc + 1, lastE := e }).satInc F.POSX_FUSE_STATUS_REJCNT
    s1.log 0x1011 s.absSel.val (w32 e) (s1.fld F.POSX_FUSE_STATUS_REJCNT)
  else
    let d := cdiv e (2 ^ s.fldF F.POSX_FUSE_CFG_GAIN)
    (s0.setFuse { f with off := f.off + clampI (-cm) cm d, noAcc := 0, lastE := e }).setFld F.POSX_FUSE_STATUS_REJCNT 0

/-- A of the tick joins the readings that the speed of INCLOST works from; without a valid one the last repeats (R61). -/
def Dev.keepA (s : Dev) : Dev :=
  let f := s.posx.fuse
  s.setFuse { f with aHist := match s.fuseInput with
    | some (⟨true, A⟩, _) => (A :: f.aHist).take 130
    | _ => (f.aHist.take 1 ++ f.aHist).take 130 }

/-- The reading of the tick meets the fusion state (R59, R61, R62, R67). -/
def Dev.fuseReading (s : Dev) : Dev :=
  let f := s.posx.fuse
  let inc := s.flag F.POSX_FUSE_STATUS_INCLOST
  let ab := s.flag F.POSX_FUSE_STATUS_ABSLOST
  match s.fuseInput with
  | some (⟨true, A⟩, I) =>
    let e := A - (I + f.off)
    if !f.seeded then
      let s2 := s.setFuse { f with seeded := true, reseed := false, off := A - I, noAcc := 0, recov := [], align := false, lastE := 0 }
      ((s2.setFlag F.POSX_FUSE_STATUS_VALID true).wrN R.POSX_FUSE_INNOV 0).log 0x1013 s.absSel.val 0 0
    else if ab then
      (s.setFuse { f with recov := (f.recov ++ [e]).drop (f.recov.length + 1 - 16), lastE := e }).wrI R.POSX_FUSE_INNOV (fitI 32 e)
    else if inc then (s.setFuse { f with noAcc := 0, lastE := e }).wrI R.POSX_FUSE_INNOV (fitI 32 e)
    else s.fuseNormal A I
  | _ => s.setFuse { f with recov := [], noAcc := if f.seeded then f.noAcc + 1 else 0 }

/-- The fused position, saturated at the soft limits; entering saturation logs 0x1020 (R60). -/
def Dev.fusePosShown (s : Dev) (p : Int) : Dev :=
  let lo := s.fldFI F.POSX_FUSE_SOFTMIN_LIMIT
  let hi := s.fldFI F.POSX_FUSE_SOFTMAX_LIMIT
  let q := clampI lo hi p
  let was := s.flag F.POSX_FUSE_STATUS_SAT
  let s1 := ((s.setFuse { s.posx.fuse with pos := p }).wrI R.POSX_FUSE_POS q).setFlag F.POSX_FUSE_STATUS_SAT (q != p)
  if q ≠ p ∧ !was then (s1.setFlag F.POSX_IRQ_SAT true).log 0x1020 (if p < lo then 0 else 1) (w32 p) 0 else s1

/-- The speed of INCLOST: the difference of A over SPDCFG.WIN of CNT[0]; a window that reaches beyond the readings gives a
free value. (DESIGN CHOICE, log 62) -/
def Dev.incSpeed (s : Dev) : Int × Dev :=
  let f := s.posx.fuse
  let n := s.fldF (F.POSX_CNT_SPDCFG_WIN 0)
  if n < f.aHist.length then (fitI 32 (quo ((f.aHist.getD 0 0 - f.aHist.getD n 0) * 8000) n), s)
  else let r := s.drawWord; (r.1.toInt, r.2)

/-- Position and speed of the tick from the fusion state (R59 to R61). -/
def Dev.fuseOutput (s : Dev) : Dev :=
  let f := s.posx.fuse
  let inc := s.flag F.POSX_FUSE_STATUS_INCLOST
  let ab := s.flag F.POSX_FUSE_STATUS_ABSLOST
  let s1 := (s.wrI R.POSX_FUSE_OFFSET (fitI 32 f.off)).setFlag F.POSX_FUSE_STATUS_DEFER (s.flag (F.POSX_ABS_STATUS_DEFER s.absSel.val))
  if inc && ab then s1.setFlag F.POSX_FUSE_STATUS_VALID false
  else
    let s2 := s1.setFlag F.POSX_FUSE_STATUS_VALID f.seeded
    if inc then
      let p := match s.fuseInput with | some (⟨true, A⟩, _) => A | _ => f.pos
      let v := s2.incSpeed
      (v.2.wrI R.POSX_FUSE_SPEED v.1).fusePosShown p
    else
      (s2.wr R.POSX_FUSE_SPEED (s.rd (R.POSX_CNT_SPEED 0))).fusePosShown (s.rdI (R.POSX_CNT_POS 0) + f.off)

/-- The run of ticks with a line fault on A or B of CNT[0], and the slow-tick boundary of the INCLOST rules (R61); the conditions are
watched whether fusion runs or not, the mode changes only while it runs. (DEDUCED, log 27; DEDUCED, log 122) -/
def Dev.incWatch (s : Dev) : Dev :=
  let f := s.posx.fuse
  let lf := s.fld (F.POSX_CNT_STATUS_LINEFLT 0) % 4 ≠ 0
  let s1 := s.setFuse { f with lineRun := if lf then f.lineRun + 1 else 0, dirty := f.dirty || decide lf }
  let s2 := if s.flagF F.POSX_FUSE_CFG_EN then s1.inclostEntered.inclostCleared else s1
  if s.tick % 800 = 0 then s2.setFuse { s2.posx.fuse with dirty := decide lf, illSlow := 0 } else s2

/-- A tick in which fusion runs (R59); a missed deadline leaves P and speed of the tick before, marked STALE (R63). -/
def Dev.fuseRun (s : Dev) : Dev :=
  let f := s.posx.fuse
  if f.missNow then
    let s2 := (s.setFuse { f with misses := f.misses + 1, noAcc := if f.seeded then f.noAcc + 1 else 0, recov := [] }).setFlag F.POSX_FUSE_STATUS_STALE true
    s2.fusionInvalid.abslostEntered
  else
    ((s.setFuse { f with misses := 0 }).setFlag F.POSX_FUSE_STATUS_STALE false).fuseReading.abslostEntered.abslostRecovery.fuseOutput

/-- Fusion of one tick, in phase 1 (R59 to R63). Its inputs are consumed whether it runs or not: the readings, the missed tick, and
the snapshot of CNT[0] with which a deferred reading of this tick pairs in the next. -/
def Dev.fuse (s : Dev) : Dev :=
  let s0 := s.incWatch.keepA
  let s1 := if s.flagF F.POSX_FUSE_CFG_EN then s0.fuseRun else s0
  { s1 with posx := { s1.posx with
      abs := s1.posx.abs.map fun c => { c with nowR := none, lateR := none },
      fuse := { s1.posx.fuse with missNow := false, prevI := sat32 (s1.cntScaled 0 s1.posx.cnt[(0 : Fin 4)].snap) } } }

/-- The counters are frozen at the sample point. -/
def Dev.cntFreezeAll (s : Dev) : Dev := (((s.cntFreeze 0).cntFreeze 1).cntFreeze 2).cntFreeze 3

/-- The counters show the frozen counts; a missed phase 0 leaves them as the tick before had them (R35). -/
def Dev.cntShowAll (s : Dev) : Dev := (((s.cntShow 0).cntShow 1).cntShow 2).cntShow 3

/-! ## Hall triplets (R64, R65) -/

/-- The sector of a UVW state, reversed by ORDER; none for the illegal states. -/
def hallSector (uvw : Nat) (order : Bool) : Option Nat :=
  let s := match uvw with | 1 => some 0 | 3 => some 1 | 2 => some 2 | 6 => some 3 | 4 => some 4 | 5 => some 5 | _ => none
  s.map fun x => if order then 5 - x else x

/-- A Hall state that has held for `held` cycles; the filter of CFG.FILT µs rejects a shorter one (R64). The first legal state after
reset is no SKIP, whatever its distance from SECTOR 0, and a jump to the opposite sector keeps the direction. (DESIGN CHOICE, log 128) -/
def Dev.hallChange (s0 : Dev) (h : Fin 2) (uvw : Fin 8) (held off : Nat) : Bool × Dev :=
  if held < s0.fldF (F.POSX_HALL_CFG_FILT h.val) * usCyc then (false, s0) else
  let s := s0.at off
  if s.flagF (F.POSX_HALL_CFG_EN h.val) then
    let s1 := s.setFld (F.POSX_HALL_STATE_UVW h.val) uvw.val
    let c := s.posx.hall[h]
    match hallSector uvw.val (s.flagF (F.POSX_HALL_CFG_ORDER h.val)) with
    | none =>
      let s2 := (s1.setFlag (F.POSX_HALL_STATE_ILLEGAL h.val) true).setBit R.POSX_IRQ (13 + h.val)
      (false, s2.log 0x1030 h.val uvw.val (s2.fld ⟨R.POSX_HALL_STATE h.val, 9, 8⟩))
    | some sec =>
      let old := s.fld (F.POSX_HALL_STATE_SECTOR h.val)
      if c.known ∧ old = sec then (false, s1) else
      let diff := (sec + 6 - old) % 6
      let skip := c.known && diff != 1 && diff != 5
      let dir : Int := if !c.known then 0 else if diff < 3 then 1 else if 3 < diff then -1 else c.dir
      let per := if c.timed ∧ (c.dir = dir ∨ c.dir = 0) then s.now - c.lastAt else 0
      let c1 : HallCh := { c with known := true, lastAt := s.now, timed := true, dir := dir, skips := if skip then c.skips + 1 else c.skips, steps := c.steps + dir }
      let s2 := { s1 with posx := { s1.posx with hall := s1.posx.hall.set h c1 } }
      let s3 := ((s2.setFld (F.POSX_HALL_STATE_SECTOR h.val) sec).wrN (R.POSX_HALL_STAMP h.val) s.ns).wrN (R.POSX_HALL_PERIOD h.val) (fitN 32 per)
      if skip then
        let s4 := (s3.setFlag (F.POSX_HALL_STATE_SKIP h.val) true).setBit R.POSX_IRQ (13 + h.val)
        (true, s4.log 0x1030 h.val uvw.val (s4.fld ⟨R.POSX_HALL_STATE h.val, 9, 8⟩))
      else (true, s3)
  else (false, s)

end Sys2Proof.Machine
end

