-- ==== Sys2Proof/Machine/Cmpl.lean ====
section
/-! DEFINITION. CMPL (R70 to R74, R83 to R85): compare channels and latch units. The passages that use the latches stand in
Machine/ShaftMap.lean. -/

namespace Sys2Proof.Machine

/-! ## Compare channels -/

/-- The position that a compare source selects (R83): 0 the fused position, 1 to 4 the counters. -/
def Dev.cmpSource (s : Dev) (src : Nat) : Int := if src = 0 then s.rdI R.POSX_FUSE_POS else s.rdI (R.POSX_CNT_POS (src - 1))

/-- Direction qualifies: 1 up, 2 down, 3 both. -/
def qualUp (dirq : Nat) : Bool := dirq % 2 = 1
def qualDown (dirq : Nat) : Bool := dirq / 2 % 2 = 1

/-- A compare channel fires (R84). The status bits of 0x1101 are the whole STATUS word, COUNT included. (DESIGN CHOICE, log 123) -/
def Dev.cmpFire (s : Dev) (n : Fin 32) (at_ passed up : Bool) (stamp : Int) : Dev :=
  let i := n.val
  let s1 := (((s.setFlag (F.CMPL_CMP_STATUS_FIRED i) true).setBit R.CMPL_CMPIRQ i).setFlag (F.CMPL_CMP_STATUS_DIR i) (up && !at_)).satInc (F.CMPL_CMP_STATUS_COUNT i)
  let s2 := if at_ then s1.setFlag (F.CMPL_CMP_STATUS_AT i) true else s1
  let s3 := if passed then s2.setFlag (F.CMPL_CMP_STATUS_PASSED i) true else s2
  let s4 := s3.wrN (R.CMPL_CMP_STAMP i) (w32 stamp)
  let s5 := if s.flagF (F.CMPL_CMP_CFG_MODE i) then s4 else s4.setFlag (F.CMPL_CMP_CFG_EN i) false
  let s6 := { s5 with cmpl := { s5.cmpl with cmp := vmod s5.cmpl.cmp n fun c => { c with armed := false } } }
  let s7 := s6.setFlag (F.CMPL_CMP_STATUS_ARMED i) false
  if s.flagF (F.CMPL_CMP_CFG_EVT i) then s7.log 0x1101 i (s.rdF (R.CMPL_CMP_VALUE i)).toNat (s7.rd (R.CMPL_CMP_STATUS i)).toNat else s7

/-- Judge one compare channel in tick j with P(j-1) and P(j) of its source (R83 to R85). A repeat channel may arm again from the
tick after its firing on. (DESIGN CHOICE, log 123) -/
def Dev.cmpJudge (s0 : Dev) (n : Fin 32) : Dev :=
  let i := n.val
  let c := s0.cmpl.cmp[n]
  let en := s0.flagF (F.CMPL_CMP_CFG_EN i)
  let src := s0.fldF (F.CMPL_CMP_CFG_SRC i)
  let armed := en && (c.wrote || c.armed)
  let s := { s0 with cmpl := { s0.cmpl with cmp := s0.cmpl.cmp.set n { armed := armed, wrote := false } } }.setFlag (F.CMPL_CMP_STATUS_ARMED i) armed
  let v : Int := (s.rdF (R.CMPL_CMP_VALUE i)).toInt
  let p1 := s.cmpSource src
  let p0 : Int := s.cmpl.prev[Fin.ofNat 5 src]
  let q := s.fldF (F.CMPL_CMP_CFG_DIRQ i)
  let tj : Int := 125000 * (s.tick : Int)
  if armed ∧ src ≤ 4 then
    let up := decide (p0 < v ∧ v ≤ p1) && qualUp q
    let dn := decide (p1 ≤ v ∧ v < p0) && qualDown q
    if up || dn then s.cmpFire n false false up (tj - 125000 + Int.fdiv ((v - p0) * 125000) (p1 - p0))
    else if c.wrote then
      if p1 = p0 ∧ p1 = v then s.cmpFire n true false false tj
      else
        let bUp := decide (p0 < p1 ∧ v ≤ p0) && qualUp q
        let bDn := decide (p1 < p0 ∧ p0 ≤ v) && qualDown q
        if bUp || bDn then
          let s1 := (s.setFlag (F.CMPL_CMP_STATUS_BEHIND i) true).log 0x1102 i (w32 v) (w32 p1)
          if s.flagF (F.CMPL_CMP_CFG_FIRE_IF_PASSED i) then s1.cmpFire n false true bUp tj else s1
        else s
    else s
  else if en ∧ s.flagF (F.CMPL_CMP_CFG_MODE i) ∧ (s.fldF (F.CMPL_CMP_CFG_HYST i) : Int) < |p1 - v| then
    { s with cmpl := { s.cmpl with cmp := vmod s.cmpl.cmp n fun c => { c with armed := true } } }.setFlag (F.CMPL_CMP_STATUS_ARMED i) true
  else s

/-- All compare channels of a tick, in phase 2; the sources become P(j-1) of the next. -/
def Dev.cmpTick (s : Dev) : Dev :=
  let s1 := (List.finRange 32).foldl (fun d n => d.cmpJudge n) s
  { s1 with cmpl := { s1.cmpl with prev := Vector.ofFn fun i => s1.cmpSource i.val } }

/-! ## Latch units -/

/-- LAT[10] and LAT[11] belong to the module during a learning run (R80), LAT[12] to LAT[15] while tracking runs (R74). -/
def Dev.latOwned (s : Dev) (n : Nat) : Bool :=
  (12 ≤ n && s.od? 0x2105 5 = 1) || ((n = 10 || n = 11) && s.cmpl.learn.leg ≠ 0)

/-- The edges that a unit captures: 1 rising, 2 falling, 3 both. The owned units have theirs fixed (R74, R80). -/
def Dev.latEdge (s : Dev) (n : Nat) : Nat :=
  if s.latOwned n then
    if n = 10 then (if bitN (s.od? 0x2109 3) 0 then 1 else 2)
    else if n = 11 then (if bitN (s.od? 0x2109 3) 1 then 1 else 2)
    else if n % 2 = 0 then 1 else 2
  else s.fldF (F.CMPL_LAT_CFG_EDGE n)

/-- Continuous mode. -/
def Dev.latCont (s : Dev) (n : Nat) : Bool := s.latOwned n || s.flagF (F.CMPL_LAT_CFG_MODE n)

/-- The counter whose count a unit records. -/
def Dev.latCnt (s : Dev) (n : Nat) : Fin 4 := if s.latOwned n then 0 else Fin.ofNat 4 (s.fldF (F.CMPL_LAT_CFG_CNTSEL n))

/-- The source of a unit (R70); the owned units have theirs fixed: the terminal switches, and the door-zone sensors on safety
inputs 14 and 15 (R74, R80, R236). -/
def Dev.latSrc (s : Dev) (n : Nat) : Nat :=
  if s.latOwned n then
    if n = 10 then s.od? 0x2109 1 else if n = 11 then s.od? 0x2109 2 else if n < 14 then 78 else 79
  else s.fldF (F.CMPL_LAT_CFG_SRC n)

/-- The counter as it stood at an earlier instant (R71): the latest count stamped by then. -/
def CntCh.markAt (c : CntCh) (t : Nat) : CountMark :=
  (c.trail.find? fun e => e.at_ ≤ t).getD { at_ := 0, total := 0, sign := 0, turns := 0 }

/-- Capture the instant `t` (R71, R73): single mode holds the first capture, and an edge while FULL sets OVR and logs 0x1103. -/
def Dev.latTake (s : Dev) (n : Fin 16) (rising : Bool) (t : Nat) : Dev :=
  let i := n.val
  let full := s.flag (F.CMPL_LAT_STATUS_FULL i)
  let c := s.posx.cnt[s.latCnt i].markAt t
  let cap : Capture := { ns := t * 5 / 2, count := c.total, dir := decide (0 < c.sign), rising := rising, turns := c.turns }
  let s1 := if full ∧ s.flag (F.CMPL_LAT_STATUS_OVR i) = false then (s.setFlag (F.CMPL_LAT_STATUS_OVR i) true).log 0x1103 i 0 0 else s
  if full ∧ s.latCont i = false then s1
  else
    { s1 with cmpl := { s1.cmpl with lat := s1.cmpl.lat.set n { pend := some cap } } }.setFlag (F.CMPL_LAT_STATUS_FULL i) true

/-- EDGE selects an edge. A sector change of a Hall triplet has no polarity: every EDGE but 0 selects it. (DESIGN CHOICE, log 123) -/
def Dev.latSelects (s : Dev) (n src : Nat) (rising : Bool) : Bool :=
  let e := s.latEdge n
  if src = 84 ∨ src = 85 then e != 0 else if rising then e % 2 = 1 else e / 2 % 2 = 1

/-- An edge of a source at the cycle `t`: every unit that selects the source and the edge captures it (R70, R71). -/
def Dev.latSource (s : Dev) (src : Nat) (rising : Bool) (t : Nat) : Dev :=
  (List.finRange 16).foldl (fun d n =>
    if (d.latOwned n.val || d.flagF (F.CMPL_LAT_CFG_EN n.val)) && decide (d.latSrc n.val = src) && d.latSelects n.val src rising then d.latTake n rising t else d) s

/-- How long, in cycles, a new level of a source must hold before its filter accepts it (R43, R64, R295, R296); the safety inputs as
Marten reads them. (DEDUCED, log 68) -/
def Dev.srcFilter (s : Dev) (src : Nat) : Nat :=
  if src < 52 then s.fldF (F.IO24_INCFG_FILT src) * 40000
  else if src < 80 then s.od? 0x2709 9 * 40000
  else if src < 84 then s.fldF (F.POSX_CNT_CFG_FILT (src - 80)) + 1
  else s.fldF (F.POSX_HALL_CFG_FILT (src - 84)) * usCyc

/-- An edge of a latch source whose new level has held for `held` cycles: captured at its last raw transition, if the filter accepts
it (R71). (DESIGN CHOICE, log 123) -/
def Dev.latCapture (s0 : Dev) (src : Nat) (rising : Bool) (held off : Nat) : Dev :=
  let s := s0.at off
  if s.srcFilter src ≤ held ∧ src ≠ 127 then s.latSource src rising (s.now - held) else s

/-- A rising Z edge that the filter accepts (R43, R48), and the units that capture it (R70). -/
def Dev.zEdge (s : Dev) (n : Fin 4) (held off : Nat) : Dev :=
  if s.cntAccepts n held then
    let d := s.zLevel n off
    d.latSource (80 + n.val) true d.now
  else s

/-- A Hall state (R64), and the units that capture its sector change (R70). -/
def Dev.hallEdge (s : Dev) (h : Fin 2) (uvw : Fin 8) (held off : Nat) : Dev :=
  let r := s.hallChange h uvw held off
  if r.1 then r.2.latSource (84 + h.val) true r.2.now else r.2

/-- A write of CTRL.TRIG with SRC = 127 captures at once (R70); an owned unit ignores it (R74). -/
def Dev.latTrigger (s0 : Dev) (n : Fin 16) (off : Nat) : Dev :=
  let s := s0.at off
  if s.latOwned n.val = false ∧ s.flagF (F.CMPL_LAT_CFG_EN n.val) ∧ s.fldF (F.CMPL_LAT_CFG_SRC n.val) = 127 then s.latTake n true s.now else s

/-- The position of a captured count: scaled as in R48, with FUSE.OFFSET added for CNTSEL = 0, saturated as there (R72). -/
def Dev.latPos (s : Dev) (n : Nat) (count : Int) : Int :=
  let c := s.latCnt n
  let p := s.cntScaled c count
  sat32 (if c = 0 then p + s.posx.fuse.off else p)

/-- The unit's registers at 15 µs of the reporting tick (R72). -/
def Dev.latShow (s : Dev) (n : Fin 16) (c : Capture) : Dev :=
  let i := n.val
  let pv := if s.latCnt i = 0 then s.flag F.POSX_FUSE_STATUS_VALID else true
  let s1 := ((s.wrI (R.CMPL_LAT_RAW i) c.count).wrN (R.CMPL_LAT_TS_LO i) c.ns).wrN (R.CMPL_LAT_TS_HI i) (c.ns / 2 ^ 32)
  let s2 := ((s1.wrI (R.CMPL_LAT_POS i) (s.latPos i c.count)).setFlag (F.CMPL_LAT_STATUS_PVALID i) pv).setFlag (F.CMPL_LAT_STATUS_DIR i) c.dir
  { s2 with cmpl := { s2.cmpl with lat := s2.cmpl.lat.set n { pend := none } } }.setBit R.CMPL_LATIRQ i

end Sys2Proof.Machine
end

