-- ==== Sys2Proof/Machine/Views.lean ====
section
/-! DEFINITION. What one block reads of another: the states of the channels, the safety chain, the brakes, the drive, the
doors, the load, quarantine, the safety parameter set in force and the shaft map. -/

namespace Sys2Proof.Machine

/-- Both channels are in RUN (R27). -/
def Dev.bothRun (s : Dev) : Bool := s.chA.state = 0 && s.chB.state = 0

/-- Either channel demands STOP_CONTROLLED. -/
def Dev.stopCtl (s : Dev) : Bool := s.chA.state = 1 || s.chB.state = 1

/-- Either channel demands STOP_IMMEDIATE, LOCKOUT or HOLD: every switch is open (R245). -/
def Dev.stopNow (s : Dev) : Bool := 2 ≤ s.chA.state || 2 ≤ s.chB.state

/-- Either channel demands STOP_CONTROLLED or STOP_IMMEDIATE (the quick-stop bit of R107). -/
def Dev.demandsStop (s : Dev) : Bool := s.chA.state = 1 || s.chA.state = 2 || s.chB.state = 1 || s.chB.state = 2

/-- The safety chain is closed: all three bits, in both channels (R250). -/
def Dev.chainClosed (s : Dev) : Bool := s.chA.chain = 7 && s.chB.chain = 7

/-- The safety chain is closed, or closed but for what the bypass of SF-DZONE does not require, in both channels (R250). -/
def Dev.chainBypassed (s : Dev) : Bool := s.chA.chainOk && s.chB.chainOk

/-- The value of an entry of the active safety parameter set (R261). -/
def Dev.par (s : Dev) (idx sub : Nat) : Nat := s.odActive idx sub

/-- The brakes in use (0x2710:01). -/
def Dev.brakesInUse (s : Dev) : Nat := s.par 0x2710 1

/-- SOUT reports every brake in use released (R100, R279): SEQ is RUN and every release switch shows it. -/
def Dev.brakesReleased (s : Dev) : Bool := s.fld F.SOUT_STATUS_SEQ = 3 && s.fld F.SOUT_STATUS_BRKREL &&& s.brakesInUse = s.brakesInUse

/-- The drive reports READY and TORQUE (0x2211:01). -/
def Dev.driveReady (s : Dev) : Bool := s.od? 0x2211 1 % 4 = 3

/-- The drive reports TORQUE. -/
def Dev.driveTorque (s : Dev) : Bool := bitN (s.od? 0x2211 1) 1

/-- A door unit is in use while it is learned (R174). -/
def Dev.doorInUse (s : Dev) (d : Nat) : Bool := s.flag (F.DOOR_MSTAT_LEARNED d)

/-- A door unit reports closed and locked (R174). -/
def Dev.doorShut (s : Dev) (d : Nat) : Bool := s.fld (F.DOOR_MSTAT_STATE d) = 1 && s.flag (F.DOOR_ZONE_LOCKED d)

/-- Every door unit in use reports closed and locked (R174). -/
def Dev.doorsShut (s : Dev) : Bool := (!s.doorInUse 0 || s.doorShut 0) && (!s.doorInUse 1 || s.doorShut 1)

/-- A door unit in use is not CLOSED (R106: "with a door open"). -/
def Dev.doorOpen (s : Dev) : Bool :=
  (s.doorInUse 0 && s.fld (F.DOOR_MSTAT_STATE 0) != 1) || (s.doorInUse 1 && s.fld (F.DOOR_MSTAT_STATE 1) != 1)

/-- The application is quarantined (R97). -/
def Dev.quarantined (s : Dev) : Bool := s.flag F.BOOT_STATUS_QUAR

/-- A command of this master falls under quarantine: Fox and ODE (R97). -/
def Dev.quarBars (s : Dev) (m : Master) : Bool := s.quarantined && ((1 ≤ m.val && m.val ≤ 4) || m = 7)

/-- The car load is valid (R434), and its value in kg (R433). -/
def Dev.loadValid (s : Dev) : Bool := s.flag F.ANA_LOADSTAT_VALID
def Dev.load (s : Dev) : Int := s.rdI R.ANA_LOAD

/-- The load is valid and below the empty threshold 0x2201:03. -/
def Dev.carEmpty (s : Dev) : Bool := s.loadValid && decide (s.load < (s.od? 0x2201 3 : Int))

/-- The landing count L. -/
def Dev.landings (s : Dev) : Nat := s.od? 0x2105 1

/-- W[i], A[i] and C[i] (R75). -/
def Dev.W (s : Dev) (i : Nat) : Int := s.odI 0x2101 (i + 1)
def Dev.A (s : Dev) (i : Nat) : Int := s.odI 0x2102 (i + 1)
def Dev.C (s : Dev) (i : Nat) : Int := s.odI 0x2103 (i + 1)

/-- The landing carries the RELEARN flag (R82). -/
def Dev.relearn (s : Dev) (i : Nat) : Bool := bitN (s.od? 0x2106 (i + 1)) 1

/-- The landing of a list of positions that lies nearest; a tie goes to the lower (R81). -/
def nearestGo (f : Nat → Int) (x : Int) : Nat → Nat
  | 0 => 0
  | n + 1 => let b := nearestGo f x n
             if |f (n + 1) - x| < |f b - x| then n + 1 else b

def nearest (f : Nat → Int) (count : Nat) (x : Int) : Nat := nearestGo f x (count - 1)

/-- The 32-bit little-endian bytes of a number (R265). -/
def le32 (x : Int) : List Byte := leBytes 4 (w32 x)

/-- The candidate map as R265 orders it: L, C[0] to C[L - 1], the four terminal references, the sill offset. -/
def Dev.candBytes (s : Dev) : List Byte :=
  le32 s.landings ++ ((upTo s.landings).map fun i => le32 (s.C i)).flatten ++ le32 (s.odI 0x2104 1) ++
    le32 s.cmpl.candLow ++ le32 s.cmpl.candHigh ++ le32 (s.odI 0x2104 4) ++ le32 (s.odI 0x2108 1)

/-- The candidate CRC 0x2105:03 (R265, R441). -/
def Dev.candCrc (s : Dev) : Nat := crc32 s.candBytes

/-- The accepted level of an IO24 channel (R295). -/
def Dev.inLevel (s : Dev) (c : Nat) : Bool := bitN (s.rd (R.IO24_INLVL (c / 32))).toNat (c % 32)

/-- The landing in whose door zone the car is, for Marten (R251): |P - W[i]| < 0x2704:01. -/
def Dev.zoneOf (s : Dev) (p : Int) : Option Nat :=
  let i := nearest s.W s.landings p
  if |p - s.W i| < (s.par 0x2704 1 : Int) then some i else none

/-- The PGEN state (R100). -/
def Dev.pgState (s : Dev) : Nat := s.fld F.PGEN_STATUS_STATE

/-- Add to a counter of TELE; counters saturate at 32 bits (R387). -/
def Dev.tally (s : Dev) (item n : Nat) : Dev :=
  { s with nv := { s.nv with counters := alSet s.nv.counters item (min 4294967295 (alGet s.nv.counters item 0 + n)) } }

/-- SEQ changes (R279). -/
def Dev.seqSet (s : Dev) (n : Nat) : Dev :=
  let s1 := { s with sout := { s.sout with seqAt := s.now } }
  (s1.setFld F.SOUT_STATUS_SEQ n).setFlag F.SOUT_IRQ_SEQCHG true

/-- The torque test ends with a result (R285, R286): 0 passed, 1 failed, 2 abandoned. -/
def Dev.torqueEnd (s : Dev) (result : Nat) : Dev :=
  let s1 := { s with sout := { s.sout with ttStep := 0, ttLast := if result = 0 then s.now else s.sout.ttLast } }
  ((s1.setFld F.SOUT_STATUS_TTSTATE (3 + result)).setFlag F.SOUT_IRQ_TTEST true).log 0x8024 result s.sout.ttBrake s.sout.ttMax

/-- A torque test in progress is abandoned, and SEQ goes through APPLY (R286). -/
def Dev.abandonTorque (s : Dev) : Dev :=
  if s.sout.ttStep = 0 then s
  else
    let s1 := s.torqueEnd 2
    if s1.fld F.SOUT_STATUS_SEQ = 6 then s1.seqSet 4 else s1

/-- The quiet point: parked at a landing, every door unit in use closed and locked, the stop plan empty, no trip planned. -/
def Dev.quietPoint (s : Dev) : Bool :=
  s.pgState = 0 && s.pgen.tgt == none && F64.isZero s.pgen.v && (s.zoneOf (s.rdI R.POSX_FUSE_POS)).isSome && s.doorsShut && s.bid.plan.isEmpty

end Sys2Proof.Machine
end

