-- ==== Sys2Proof/Machine/Pgen.lean ====
section
/-! DEFINITION. PGEN (R89 to R108): the seven-segment planner in binary64, the commands, the motion states, re-levelling and
the drive reference. -/

namespace Sys2Proof.Machine

/-! ## The routines of R92 and R93 -/

/-- Time, distance, speed and acceleration along a group. -/
structure Span where
  t : F64
  d : F64
  v : F64
  a : F64
  deriving DecidableEq, Repr

def two : F64 := F64.ofInt 2
def six : F64 := F64.ofInt 6

/-- `step` of R92, in its order of operations. -/
def Span.step (r : Span) (j t0 : F64) : Span :=
  let t := if F64.lt t0 ⟨0, 0⟩ then ⟨0, 0⟩ else t0
  let d1 := F64.mul r.v t
  let d2 := F64.div (F64.mul (F64.mul r.a t) t) two
  let d3 := F64.div (F64.mul (F64.mul (F64.mul j t) t) t) six
  let dv := F64.add (F64.mul r.a t) (F64.div (F64.mul (F64.mul j t) t) two)
  { t := F64.add r.t t, d := F64.add r.d (F64.add (F64.add d1 d2) d3), v := F64.add r.v dv, a := F64.add r.a (F64.mul j t) }

/-- The limits of R90 in m/s, m/s² and m/s³. -/
structure Limits where
  V : F64
  A : F64
  J : F64
  deriving DecidableEq, Repr

/-- The three segments of `group` (R92), as jerk and duration before the clip of `step`. -/
def groupSegs (L : Limits) (v0 a0 v1 : F64) : List (F64 × F64) :=
  let lim := F64.add v0 (F64.div (F64.mul a0 (F64.abs a0)) (F64.mul two L.J))
  let s : F64 := if F64.le lim v1 then F64.ofInt 1 else F64.ofInt (-1)
  let dv := F64.sub v1 v0
  let ap0 := F64.sqrt (F64.max ⟨0, 0⟩ (F64.add (F64.mul (F64.mul s L.J) dv) (F64.div (F64.mul a0 a0) two)))
  let cap := F64.lt L.A ap0
  let th := if cap then
      F64.div (F64.sub (F64.mul s dv) (F64.div (F64.sub (F64.mul (F64.mul two L.A) L.A) (F64.mul a0 a0)) (F64.mul two L.J))) L.A
    else ⟨0, 0⟩
  let ap := if cap then L.A else ap0
  [(F64.mul s L.J, F64.div (F64.sub ap (F64.mul s a0)) L.J), (⟨0, 0⟩, th), (F64.mul (F64.neg s) L.J, F64.div ap L.J)]

/-- Run segments from a state. -/
def runSegs (v a : F64) (l : List (F64 × F64)) : Span := l.foldl (fun r x => r.step x.1 x.2) { t := ⟨0, 0⟩, d := ⟨0, 0⟩, v := v, a := a }

/-- `group` of R92. -/
def group (L : Limits) (v0 a0 v1 : F64) : Span := runSegs v0 a0 (groupSegs L v0 a0 v1)

/-- g(x) of R93. -/
def gOf (L : Limits) (v a x : F64) : F64 := F64.add (group L v a x).d (group L x ⟨0, 0⟩ ⟨0, 0⟩).d

/-- The bisection of R93, step 4. -/
def bisect (L : Limits) (v a D : F64) : Nat → F64 → F64 → F64 × F64
  | 0, lo, hi => (lo, hi)
  | n + 1, lo, hi =>
    let mid := F64.div (F64.add lo hi) two
    if F64.le (gOf L v a mid) D then bisect L v a D n mid hi else bisect L v a D n lo mid

/-- Vp and tc (R93) for a distance D, with the interval [lo, hi]. -/
def choosePeak (L : Limits) (v a D lo hi : F64) : F64 × F64 :=
  let z : F64 := ⟨0, 0⟩
  let gh := gOf L v a hi
  let gl := gOf L v a lo
  if F64.lt z hi && F64.le gh D then (hi, F64.div (F64.sub D gh) hi)
  else if F64.le D gl && F64.lt lo z then (lo, F64.div (F64.sub D gl) lo)
  else
    let b := bisect L v a D 64 lo hi
    let vp := if F64.lt z b.1 then b.1 else if F64.lt b.2 z then b.2 else z
    (vp, if F64.isZero vp then z else F64.div (F64.sub D (gOf L v a vp)) vp)

/-- A plan from a state to a target (R93): transition group, cruise, stop group. -/
def makePlan (L : Limits) (passenger : Bool) (t0 : Nat) (p v a : F64) (target : Int) : Plan :=
  let z : F64 := ⟨0, 0⟩
  let D := F64.sub (F64.div (F64.ofInt target) (F64.ofInt 1000000)) p
  let up := if F64.isZero v then F64.le z D else F64.lt z v
  let lo := if passenger && up then z else F64.neg L.V
  let hi := if passenger && !up then z else L.V
  let c := choosePeak L v a D lo hi
  let g1 := group L v a c.1
  let g2 := group L c.1 z z
  { t0 := t0, p := p, v := v, a := a,
    segs := groupSegs L v a c.1 ++ [(z, c.2)] ++ groupSegs L c.1 z z,
    total := F64.add (F64.add g1.t c.2) g2.t, vp := c.1, endP := F64.div (F64.ofInt target) (F64.ofInt 1000000), target := target }

/-- The plan to the stopping point p + S (R94, R102): it ends at the unrounded point, which its target shows in whole µm. -/
def stopPlan (L : Limits) (t0 : Nat) (p v a : F64) : Plan :=
  let g := group L v a ⟨0, 0⟩
  { t0 := t0, p := p, v := v, a := a, segs := groupSegs L v a ⟨0, 0⟩ ++ List.replicate 4 (⟨0, 0⟩, ⟨0, 0⟩),
    total := g.t, vp := ⟨0, 0⟩, endP := F64.add p g.d, target := F64.round (F64.mul (F64.add p g.d) (F64.ofInt 1000000)) }

/-- The state that a plan reaches at a time after its clock start: p, v, a, jerk, segment. -/
structure Point where
  p   : F64
  v   : F64
  a   : F64
  j   : F64
  seg : Nat
  deriving DecidableEq, Repr

/-- Walk the segments to time tau; cruise advances at its own speed. -/
def walk (r : Span) (tau : F64) (k : Nat) : List (F64 × F64) → Span × F64 × Nat
  | [] => (r, ⟨0, 0⟩, k)
  | (j, t) :: rest =>
    let t' := if F64.lt t ⟨0, 0⟩ then ⟨0, 0⟩ else t
    let left := F64.sub tau r.t
    if F64.lt left t' || rest.isEmpty then (r.step j left, j, k) else walk (r.step j t) tau (k + 1) rest

/-- The plan time at tick k, in seconds: 125 µs for each tick after the clock start. -/
def Plan.tau (pl : Plan) (k : Nat) : F64 := F64.div (F64.ofInt ((125 * (k - pl.t0) : Nat) : Int)) (F64.ofInt 1000000)

/-- The plan has ended at or before T(k) (R89). -/
def Plan.ended (pl : Plan) (k : Nat) : Bool := F64.le pl.total (pl.tau k)

/-- X(k) from the plan in force (R89). -/
def Plan.point (pl : Plan) (k : Nat) : Point :=
  if pl.ended k then { p := pl.endP, v := ⟨0, 0⟩, a := ⟨0, 0⟩, j := ⟨0, 0⟩, seg := 0 }
  else
    let w := walk { t := ⟨0, 0⟩, d := ⟨0, 0⟩, v := pl.v, a := pl.a } (pl.tau k) 1 pl.segs
    { p := F64.add pl.p w.1.d, v := w.1.v, a := w.1.a, j := w.2.1, seg := w.2.2 }

/-- A speed, acceleration or position in metres as a register shows it: micro-units, rounded as R91 rounds positions. -/
def micro (x : F64) : Int := F64.round (F64.mul x (F64.ofInt 1000000))

/-- A micro-unit figure as metres. -/
def metres (x : Int) : F64 := F64.div (F64.ofInt x) (F64.ofInt 1000000)

/-! ## Limits and targets -/

/-- V of the mode in µm/s (R90). -/
def Dev.modeV (s : Dev) : Nat :=
  match s.fld F.PGEN_STATUS_MODE with
  | 1 => s.od? 0x2201 1
  | 2 => s.od? 0x2201 2
  | 3 => s.od? 0x2107 2
  | _ => s.od? 0x2200 1

/-- V in force: RELEVEL has its own (R106). -/
def Dev.limV (s : Dev) : Nat := if s.pgState = 5 then min (s.od? 0x2202 4) (s.par 0x2704 3) else s.modeV

/-- The limits of R90 in force. -/
def Dev.limits (s : Dev) : Limits := { V := metres s.limV, A := metres (s.od? 0x2200 2), J := metres (s.od? 0x2200 3) }

def Dev.passenger (s : Dev) : Bool := s.fld F.PGEN_STATUS_MODE = 0

/-- The rope-stretch compensation c of landing i (R105): zero in inspection, rescue and learning and without a valid load. -/
def Dev.comp (s : Dev) (i : Nat) : Int :=
  let md := s.fld F.PGEN_STATUS_MODE
  if md = 1 ∨ md = 2 ∨ md = 3 ∨ s.loadValid = false then 0
  else
    let lr : Int := max 0 (s.odI 0x2204 2 - s.W i)
    let num := (s.od? 0x2204 1 : Int) * (s.load - (s.od? 0x2204 3 : Int)) * lr
    let q := (2 * num.natAbs + 1000000000) / 2000000000
    let c : Int := if num < 0 then -(q : Int) else q
    clampI (-(s.od? 0x2204 4 : Int)) (s.od? 0x2204 4) c

/-- The target position of landing i (R105). -/
def Dev.landTarget (s : Dev) (i : Nat) : Int := s.W i + s.comp i

/-- The travel limits of the accepted map (R75, R98). -/
def Dev.withinTravel (s : Dev) (x : Int) : Bool := s.cmpl.accLow ≤ x && x ≤ s.cmpl.accHigh

/-- The signed stopping distance from X (R94), in metres. -/
def Dev.stopDist (s : Dev) : F64 := (group s.limits s.pgen.v s.pgen.a ⟨0, 0⟩).d

/-- The stopping distance as PGEN.STOPDIST and event 0x1202 show it: |S| in µm (R94). -/
def Dev.stopDistUm (s : Dev) : Int := micro (F64.abs s.stopDist)

/-- X stands still. -/
def Dev.atRest (s : Dev) : Bool := F64.isZero s.pgen.v && F64.isZero s.pgen.a

def Dev.setPg (s : Dev) (g : PgenSt) : Dev := { s with pgen := g }

def Dev.pgSet (s : Dev) (st : Nat) : Dev := s.setFld F.PGEN_STATUS_STATE st

/-- Show the kept target. -/
def Dev.showTgt (s : Dev) : Dev :=
  let s1 := s.setFlag F.PGEN_STATUS_KEPT s.pgen.tgt.isSome
  let s2 := match s.pgen.levTgt with | some t => s1.wrI R.PGEN_TGT t | none => s1
  s2.setFld F.PGEN_TGTLAND_VALUE (s.pgen.land.getD 255)

/-! ## Answers to commands (R96, R109, R110) -/

/-- Accepted: code and TAG, ADOPT. -/
def Dev.pgAccept (s : Dev) (code tag : Nat) : Dev :=
  ((s.setFld F.PGEN_STATUS_CODE code).setFld F.PGEN_STATUS_TAG tag).setFlag F.PGEN_IRQ_ADOPT true

/-- Rejected: code and TAG, REJECT, event 0x1201. A rejected STOP, RESUME, START or CANCEL carries no TARGET: its event names
target 0. (DESIGN CHOICE, log 124) -/
def Dev.pgReject (s : Dev) (code tag : Nat) (target : Nat) : Dev :=
  (((s.setFld F.PGEN_STATUS_CODE code).setFld F.PGEN_STATUS_TAG tag).setFlag F.PGEN_IRQ_REJECT true).log 0x1201 code target tag

/-- Position quality bars a new GO, RESUME or START (R104). -/
def Dev.qualityBars (s : Dev) : Bool :=
  let md := s.fld F.PGEN_STATUS_MODE
  let insp := md = 1 || md = 2
  !s.flag F.POSX_FUSE_STATUS_VALID ||
    ((s.flag F.POSX_FUSE_STATUS_ABSLOST || s.flag F.POSX_FUSE_STATUS_INCLOST) && !insp)

/-- The safety stop is no longer shown (R98, R103). -/
def Dev.clearSafe (s : Dev) : Dev := s.setFlag F.PGEN_STATUS_SAFESTOP false

/-- X = (FUSE.POS, 0, 0), the reference of the present tick (R89, R103). -/
def Dev.seedX (s : Dev) : Dev :=
  s.setPg { s.pgen with p := metres (s.rdI R.POSX_FUSE_POS), v := ⟨0, 0⟩, a := ⟨0, 0⟩, xTick := s.tick }

/-- Plan from X to a target: X belongs to the tick `xTick`, at whose start the plan clock starts (R89). -/
def Dev.planTo (s : Dev) (target : Int) : Dev :=
  let pl := makePlan s.limits s.passenger s.pgen.xTick s.pgen.p s.pgen.v s.pgen.a target
  (s.setPg { s.pgen with plan := some pl }).wrI R.PGEN_VP (micro pl.vp)

/-- Plan to the stopping point, of a kind: 0 STOP, 1 STOP_CONTROLLED (R102, R103). The plan has no cruise: VP is 0. -/
def Dev.planStop (s : Dev) (kind : Nat) : Dev :=
  let pl := stopPlan s.limits s.pgen.xTick s.pgen.p s.pgen.v s.pgen.a
  ((s.setPg { s.pgen with plan := some pl, stopKind := kind }).wrI R.PGEN_VP (micro pl.vp)).pgSet 3

/-- Enter WAIT_START with a fresh window (R100). -/
def Dev.waitStart (s : Dev) : Dev :=
  (s.setPg { s.pgen with since := s.now, driveAt := s.now, plan := none, relWait := false }).pgSet 1

/-- A trip starts towards a target (R89, R100): X = (FUSE.POS, 0, 0), the plan, event 0x1203. -/
def Dev.tripBegin (s : Dev) (t : Int) : Dev :=
  let d := s.seedX
  let s1 := (d.setPg { d.pgen with startTick := s.tick, startPos := s.rdI R.POSX_FUSE_POS }).pgSet 2
  let s2 := s1.planTo t
  let tm := match s2.pgen.plan with | some pl => F64.ceil (F64.mul pl.total (F64.ofInt 1000000)) | none => 0
  (s2.log 0x1203 (w32 t) (s.fld F.PGEN_STATUS_MODE) (w32 tm)).tally 2 1

/-- The plan has reached its target (R101). The trip time is in whole ms, rounded down; a re-levelling move reports code 0x01
like a trip and logs no 0x1204. (DESIGN CHOICE, log 124) -/
def Dev.tripArrival (s : Dev) : Dev :=
  match s.pgen.plan with
  | some pl =>
    if (s.pgState = 2 ∨ (s.pgState = 5 ∧ s.pgen.relWait = false)) ∧ pl.ended s.tick then
      let rel := s.pgState = 5
      let x := s.rdI R.POSX_FUSE_POS
      let s1 := (s.setPg { s.pgen with plan := none, tgt := none, p := pl.endP, v := ⟨0, 0⟩, a := ⟨0, 0⟩, arrivedAt := if rel then s.pgen.arrivedAt else s.now }).pgSet 0
      let s2 := ((s1.setFlag F.PGEN_STATUS_KEPT false).setFld F.PGEN_STATUS_CODE 1).setFlag F.PGEN_IRQ_ARRIVED true
      if rel then s2
      else
        let s3 := s2.log 0x1204 (w32 pl.target) (w32 (x - pl.target)) ((s.tick - s.pgen.startTick) / 8)
        (s3.tally 3 1).tally 4 ((x - s.pgen.startPos).natAbs / 1000000)
    else s
  | none => s

/-- HELD is entered at standstill with the target kept: STOPPED and 0x1205 with the cause of the stop (R102, R103, R110). -/
def Dev.heldStop (s : Dev) (cause : Nat) : Dev :=
  let s1 := (s.setPg { s.pgen with stopKind := cause, relWait := false, plan := none }).pgSet (if s.pgen.tgt.isSome then 4 else 0)
  if s.pgen.tgt.isSome then
    (s1.setFlag F.PGEN_IRQ_STOPPED true).log 0x1205 cause (w32 (micro s.pgen.p)) (w32 (s.pgen.tgt.getD 0))
  else s1

/-- The target is stored with its compensation: no safety stop is shown any more (R98, R103, R105). -/
def Dev.storeTarget (s : Dev) (target : Int) (land : Option Nat) (comp : Int) : Dev :=
  ((s.setPg { s.pgen with tgt := some target, land := land, levTgt := some target, levLand := land }).clearSafe).showTgt.wrI R.PGEN_COMP comp

/-- Adopt a target: store it, and start or retarget (R98, R99, R100). At standstill on the target itself the trip ends in this
tick (R93). A GO adopted in STOPPING with both channels in RUN moves at once. (DESIGN CHOICE, log 124) -/
def Dev.adoptTarget (s : Dev) (target : Int) (land : Option Nat) (comp : Int) (code tag : Nat) : Dev :=
  let s2 := (s.storeTarget target land comp).pgAccept code tag
  if s.pgState = 0 ∨ s.pgState = 1 ∨ s.pgState = 4 ∨ (s.pgState = 5 ∧ s.pgen.relWait) then
    if s.bothRun ∧ target = s.rdI R.POSX_FUSE_POS then (s2.tripBegin target).tripArrival else s2.waitStart
  else if s.bothRun then (s2.pgSet 2).planTo target
  else s2

/-- The landing of EARLIEST (R98): among those not flagged RELEARN whose target lies ahead at |S| or more and within the
travel limits, the one nearest to the car. -/
def Dev.earliestGo (s : Dev) (up : Bool) (absS : F64) : Nat → Option (Nat × F64)
  | 0 => none
  | n + 1 =>
    let best := s.earliestGo up absS n
    let D := F64.sub (metres (s.landTarget n)) s.pgen.p
    let ahead := if up then D else F64.neg D
    if s.relearn n = false ∧ s.withinTravel (s.landTarget n) ∧ F64.le absS ahead ∧ F64.lt ⟨0, 0⟩ ahead then
      match best with
      | some b => if F64.lt ahead b.2 then some (n, ahead) else best
      | none => some (n, ahead)
    else best

/-- The direction is that of X; at zero speed it is taken as downward. (DESIGN CHOICE, log 124) -/
def Dev.earliest (s : Dev) : Option Nat :=
  (s.earliestGo (F64.lt ⟨0, 0⟩ s.pgen.v) (F64.abs s.stopDist) s.landings).map (·.1)

/-- Retarget to the nearest reachable landing (R98, R104): code 0x02 and event 0x1202, or code 0x12. -/
def Dev.goEarliest (s : Dev) (requested tag : Nat) : Dev :=
  match s.earliest with
  | some i =>
    let s1 := s.adoptTarget (s.landTarget i) (some i) (s.comp i) 2 tag
    s1.log 0x1202 requested i (w32 s.stopDistUm)
  | none => s.pgReject 0x12 tag requested

/-- Checks 2 to 4 of R98 and the quality refusal of R104 before check 3: the first code that refuses. -/
def Dev.goCheck (s : Dev) (m : Master) (target : Word) (postgt : Bool) : Option Nat :=
  let md := s.fld F.PGEN_STATUS_MODE
  if s.quarBars m then some 0x1B
  else if md = 3 ∨ ((md = 0 ∨ md = 4) ∧ s.flag F.BOOT_STATUS_VERIFYPEND) then some 0x16
  else if postgt ∧ md ≠ 1 ∧ md ≠ 2 then some 0x16
  else if postgt = false ∧ s.landings ≤ target.toNat then some 0x15
  else if s.qualityBars then some 0x1A
  else if postgt = false ∧ s.relearn target.toNat then some 0x14
  else if s.withinTravel (if postgt then target.toInt else s.landTarget target.toNat) = false then some 0x13
  else none

/-- Check 5 of R98, in passenger mode in motion: behind the car 0x10, inside the stopping distance 0x11. -/
def Dev.goAhead (s : Dev) (x : Int) : Option Nat :=
  if s.passenger ∧ F64.isZero s.pgen.v = false then
    let D := F64.sub (metres x) s.pgen.p
    let ahead := if F64.lt ⟨0, 0⟩ s.pgen.v then D else F64.neg D
    if F64.lt ahead ⟨0, 0⟩ then some 0x10
    else if F64.lt ahead (F64.abs s.stopDist) then some 0x11 else none
  else none

/-- GO (R98). -/
def Dev.pgGo (s : Dev) (m : Master) (target : Word) (postgt earliest : Bool) (tag : Nat) : Dev :=
  match s.goCheck m target postgt with
  | some c => s.pgReject c tag target.toNat
  | none =>
    let x := if postgt then target.toInt else s.landTarget target.toNat
    match s.goAhead x with
    | some c => if earliest then s.goEarliest target.toNat tag else s.pgReject c tag target.toNat
    | none =>
      let s1 := s.adoptTarget x (if postgt then none else some target.toNat) (if postgt then 0 else s.comp target.toNat) 0 tag
      s1.abandonTorque

/-- STOP (R102): a controlled stop with the target kept. -/
def Dev.pgStop (s : Dev) (m : Master) (tag : Nat) : Dev :=
  if s.quarBars m then s.pgReject 0x1B tag 0
  else
    let st := s.pgState
    let s1 := s.pgAccept 0 tag
    if st = 2 ∨ (st = 5 ∧ s.pgen.relWait = false) then s1.planStop 0
    else if st = 1 ∨ st = 5 then s1.heldStop 0
    else s1

/-- The checks of R442 for RESUME and START. -/
def Dev.resumeCheck (s : Dev) (m : Master) (start : Bool) : Option Nat :=
  if s.quarBars m then some 0x1B
  else if s.fld F.PGEN_STATUS_MODE = 3 then some 0x16
  else if s.pgen.tgt = none then some 0x19
  else if s.pgState ≠ 4 then some 0x16
  else if start = false ∧ s.flag F.PGEN_STATUS_SAFESTOP then some 0x18
  else if start ∧ s.flag F.PGEN_STATUS_SAFESTOP = false then some 0x16
  else if s.qualityBars then some 0x1A
  else if !s.bothRun then some 0x17
  else none

/-- RESUME and START (R102, R103, R442): X = (FUSE.POS, 0, 0), then WAIT_START towards the kept target. -/
def Dev.pgResume (s : Dev) (m : Master) (start : Bool) (tag : Nat) : Dev :=
  match s.resumeCheck m start with
  | some c => s.pgReject c tag 0
  | none =>
    let s1 := s.seedX.pgAccept 0 tag
    (if start then s1.clearSafe else s1).waitStart.abandonTorque

/-- CANCEL (R102): the target is discarded; in motion also a controlled stop. -/
def Dev.pgCancel (s : Dev) (m : Master) (tag : Nat) : Dev :=
  if s.quarBars m then s.pgReject 0x1B tag 0
  else
    let st := s.pgState
    let s1 := ((s.setPg { s.pgen with tgt := none, land := none, levTgt := none, levLand := none }).showTgt).pgAccept 0 tag
    if st = 2 ∨ st = 3 ∨ (st = 5 ∧ s.pgen.relWait = false) then (if st = 3 then s1 else s1.planStop 0)
    else (s1.setPg { s1.pgen with plan := none, relWait := false }).pgSet 0

/-- MODE (R90, R96): in IDLE or HELD only; mode 4 needs an empty car and shut doors (0x2201:03). -/
def Dev.pgMode (s : Dev) (m : Master) (code : Word) (tag : Nat) : Dev :=
  if s.quarBars m then s.pgReject 0x1B tag code.toNat
  else if (s.pgState ≠ 0 ∧ s.pgState ≠ 4) ∨ 4 < code.toNat ∨ (code = 4 ∧ ¬ (s.carEmpty ∧ s.doorsShut)) then s.pgReject 0x16 tag code.toNat
  else (s.setFld F.PGEN_STATUS_MODE code.toNat).pgAccept 0 tag

/-- An unknown OP (R96). -/
def Dev.pgUnknown (s : Dev) (m : Master) (tag : Nat) (target : Nat) : Dev :=
  s.pgReject (if s.quarBars m then 0x1B else 0x1C) tag target

/-- The row PGEN_UNKNOWN_OP; the listed OPs have rows of their own. -/
def Dev.pgUnknownRow (s : Dev) (m : Master) (op tag : Nat) : Dev :=
  if 1 ≤ op ∧ op ≤ 6 then s else s.pgUnknown m tag (s.rd R.PGEN_TARGET).toNat

/-- Adopt a captured command (R96). -/
def Dev.pgAdopt (s : Dev) (c : PgenCmd) : Dev :=
  let w := c.word.toNat
  let tag := w / 2 ^ 24
  match w % 16 with
  | 1 => s.pgGo c.m c.target (bitN w 17) (bitN w 16) tag
  | 2 => s.pgStop c.m tag
  | 3 => s.pgResume c.m false tag
  | 4 => s.pgResume c.m true tag
  | 5 => s.pgCancel c.m tag
  | 6 => s.pgMode c.m c.target tag
  | _ => s.pgUnknown c.m tag c.target.toNat

/-! ## What happens by itself: start, arrival, stops, re-levelling, drive status -/

/-- The start conditions that do not hold, as the bits of event 0x1206 (R100); a re-levelling move may use the bypass of the
chain that SF-DZONE gives (R106, R250). (DEDUCED, log 129) -/
def Dev.missing (s : Dev) : Nat :=
  b2n (!s.bothRun) + 2 * b2n (!(if s.pgState = 5 then s.chainBypassed else s.chainClosed)) + 4 * b2n (!s.driveReady) + 8 * b2n (!s.brakesReleased)

/-- The start tick (R100): every condition holds, and the fused position is not STALE (R104). X = (FUSE.POS, 0, 0). -/
def Dev.tripStart (s : Dev) : Dev :=
  if s.pgState = 1 ∧ s.missing = 0 ∧ s.flag F.POSX_FUSE_STATUS_STALE = false then
    match s.pgen.tgt with
    | none => s
    | some t => s.tripBegin t
  else s

/-- PGEN waits for the start conditions: WAIT_START, or a re-levelling move that has not begun (R100, R106). -/
def Dev.pgWaits (s : Dev) : Bool := s.pgState = 1 || (s.pgState = 5 && s.pgen.relWait)

/-- The start window has ended with a condition missing (R100). -/
def Dev.startTimeout (s : Dev) : Dev :=
  if s.pgWaits ∧ s.missing ≠ 0 ∧ s.pgen.since + s.od? 0x2200 4 * msCyc ≤ s.now then
    let kept := s.pgen.tgt.isSome
    let d := (s.setPg { s.pgen with relWait := false }).setFld F.PGEN_STATUS_CODE 0x20
    let s1 := if kept then (d.pgSet 4).setFlag F.PGEN_IRQ_STOPPED true else d.pgSet 0
    s1.log 0x1206 s.missing (w32 (s.pgen.tgt.getD 0)) 0
  else s

/-- A planned stop has reached standstill (R102), at the unrounded stopping point. -/
def Dev.stopComplete (s : Dev) : Dev :=
  match s.pgen.plan with
  | some pl =>
    if s.pgState = 3 ∧ pl.ended s.tick then
      (s.setPg { s.pgen with p := pl.endP, v := ⟨0, 0⟩, a := ⟨0, 0⟩ }).heldStop s.pgen.stopKind
    else s
  | none => s

/-- STOP_IMMEDIATE (R103): X = (FUSE.POS, 0, 0), the plan abandoned, HELD with SAFESTOP (IDLE without a kept target). -/
def Dev.safeHalt (s : Dev) : Dev :=
  let d := s.seedX.setFlag F.PGEN_STATUS_SAFESTOP true
  if s.pgState = 0 ∨ s.pgState = 4 then d else d.heldStop 2

/-- STOP_CONTROLLED (R103): as STOP, with SAFESTOP set. -/
def Dev.safeStop (s : Dev) : Dev :=
  let d := s.setFlag F.PGEN_STATUS_SAFESTOP true
  if s.pgState = 2 ∨ (s.pgState = 5 ∧ s.pgen.relWait = false) then d.planStop 1
  else if s.pgState = 3 then (if s.flag F.PGEN_STATUS_SAFESTOP then s else d.setPg { d.pgen with stopKind := 1 })
  else if s.pgState = 1 ∨ s.pgState = 5 then d.heldStop 1
  else d

/-- PGEN moves the car: MOVING, STOPPING, or a re-levelling move that has begun. -/
def Dev.pgMoves (s : Dev) : Bool := s.pgState = 2 || s.pgState = 3 || (s.pgState = 5 && !s.pgen.relWait)

/-- What the channels demand of PGEN: 0 nothing, 1 STOP_CONTROLLED, 2 STOP_IMMEDIATE (which LOCKOUT and HOLD contain). -/
def Dev.demandNow (s : Dev) : Nat := if s.stopNow then 2 else b2n s.stopCtl

/-- The demands of the channels on PGEN in a tick (R103): a demand that begins acts in every state, one that stands acts on a
car in motion; a GO that meets a standing demand keeps its WAIT_START (R99). (DEDUCED, log 129) -/
def Dev.safeDemand (s : Dev) : Dev :=
  let w := s.demandNow
  let d := s.setPg { s.pgen with demandWas := w }
  if w = 0 ∨ (w ≤ s.pgen.demandWas ∧ !s.pgMoves) then d
  else if w = 2 then d.safeHalt else d.safeStop

/-- INCLOST is entered while the car runs (R104): one retargeting as by EARLIEST, with code 0x02, or code 0x12 and the target
kept; a re-levelling move stays one. (DEDUCED, log 129) -/
def Dev.inclostRetarget (s : Dev) : Dev :=
  match s.earliest with
  | some i =>
    let d := (s.storeTarget (s.landTarget i) (some i) (s.comp i)).pgAccept 2 (s.fld F.PGEN_STATUS_TAG)
    (d.planTo (s.landTarget i)).log 0x1202 (s.pgen.land.getD 255) i (w32 s.stopDistUm)
  | none => (s.setFld F.PGEN_STATUS_CODE 0x12).setFlag F.PGEN_IRQ_REJECT true

/-- The response to the fusion flags (R104): DEGRADED and 0x1209; one retargeting as INCLOST is entered; VALID = 0 plans to
the stopping point and requests STOP_CONTROLLED. -/
def Dev.positionQuality (s : Dev) : Dev :=
  let valid := s.flag F.POSX_FUSE_STATUS_VALID
  let inc := s.flag F.POSX_FUSE_STATUS_INCLOST
  let deg := !valid || inc || s.flag F.POSX_FUSE_STATUS_ABSLOST
  let s1 := if s.flag F.PGEN_STATUS_DEGRADED = deg then s
    else (s.setFlag F.PGEN_STATUS_DEGRADED deg).log 0x1209 (b2n deg) (s.rd R.POSX_FUSE_STATUS).toNat 0
  let s2 := s1.setPg { s1.pgen with incSeen := inc, reqInvalid := !valid && (s1.pgen.reqInvalid || s.pgMoves) }
  if !s.pgMoves then s2
  else if !valid then (if s.pgState = 3 then s2 else s2.planStop 1)
  else if inc && !s.pgen.incSeen && s.pgState != 3 then s2.inclostRetarget
  else s2

/-- The re-levelling watch (R106): |FUSE.POS - target| beyond the threshold throughout the delay, with a door open; a cap of 0
forbids the motion (R251). -/
def Dev.relevelWatch (s : Dev) : Dev :=
  let off := match s.pgen.levTgt with | some t => decide ((s.od? 0x2202 2 : Int) < |s.rdI R.POSX_FUSE_POS - t|) | none => false
  let on := s.od? 0x2202 5 = 1 && s.pgState = 0 && s.pgen.levLand.isSome && s.doorOpen && s.par 0x2704 3 != 0 && off
  s.setPg { s.pgen with relSince := if on then some (s.pgen.relSince.getD s.now) else none }

/-- Re-levelling begins (R106): the target is kept again, and the start window runs as in WAIT_START. -/
def Dev.relevelStart (s : Dev) : Dev :=
  match s.pgen.relSince, s.pgen.levTgt with
  | some t0, some t =>
    if s.pgState = 0 ∧ t0 + s.od? 0x2202 3 * msCyc ≤ s.now then
      let d := s.setPg { s.pgen with relSince := none, relWait := true, tgt := some t, land := s.pgen.levLand, since := s.now, driveAt := s.now }
      (d.showTgt.pgSet 5).log 0x1208 (w32 t) (w32 (s.rdI R.POSX_FUSE_POS)) 0
    else s
  | _, _ => s

/-- A waiting re-levelling move starts once the start conditions hold, as a trip does (R104, R106). -/
def Dev.relevelGo (s : Dev) : Dev :=
  match s.pgen.tgt with
  | some t =>
    if s.pgState = 5 ∧ s.pgen.relWait ∧ s.missing = 0 ∧ s.flag F.POSX_FUSE_STATUS_STALE = false then
      let d := s.seedX
      (d.setPg { d.pgen with relWait := false }).planTo t
    else s
  | none => s

/-- The drive enable is requested (R100, R106, R107): from WAIT_START or RELEVEL until the brakes are applied. -/
def Dev.driveEnabled (s : Dev) : Bool := bitN (s.od? 0x2210 3) 0

/-- No drive status has arrived throughout 0x2210:07 (R108): code 0x21, the request, and HELD as by a STOP_IMMEDIATE; the
demand that follows counts as one that begins, so that it sets SAFESTOP. -/
def Dev.driveTimeout (s : Dev) : Dev :=
  if (s.pgWaits ∨ s.driveEnabled) ∧ s.pgen.reqDrive = false ∧ s.pgen.driveAt + s.od? 0x2210 7 * msCyc ≤ s.now then
    let s1 := s.log 0x1207 (s.od? 0x2211 3) (w32 (micro s.pgen.p)) (w32 (micro s.pgen.v))
    let s2 := ((s1.setFld F.PGEN_STATUS_CODE 0x21).setFlag F.PGEN_IRQ_DRIVELOST true).seedX
    let s3 := s2.setPg { s2.pgen with reqDrive := true, plan := none, demandWas := 0 }
    if s.pgState = 0 ∨ s.pgState = 4 then s3 else s3.heldStop 2
  else s

/-- The request of R108 passes once a valid status arrives or the brakes are applied with the drive enable clear. -/
def Dev.driveReqEnds (s : Dev) : Dev :=
  if s.pgen.reqDrive ∧ s.driveEnabled = false ∧ s.fld F.SOUT_STATUS_SEQ = 0 then s.setPg { s.pgen with reqDrive := false } else s

/-- A valid drive status has arrived (R108). -/
def Dev.driveStatus (s : Dev) : Dev := s.setPg { s.pgen with driveAt := s.now, statAt := some s.now, reqDrive := false }

/-- A limit of R90 in force has changed: the plan is made again from X (R89). -/
def Dev.limitReplan (s : Dev) : Dev :=
  let l := (s.limV, s.od? 0x2200 2, s.od? 0x2200 3)
  let old := ((s.rd R.PGEN_LIM_V).toNat, (s.rd R.PGEN_LIM_A).toNat, (s.rd R.PGEN_LIM_J).toNat)
  let s1 := ((s.wrN R.PGEN_LIM_V l.1).wrN R.PGEN_LIM_A l.2.1).wrN R.PGEN_LIM_J l.2.2
  if l = old then s1
  else
    match s.pgen.plan with
    | some pl => if s.pgState = 3 then s1.planStop s.pgen.stopKind else s1.planTo pl.target
    | none => s1

/-- The reference registers of the tick (R89, R94). -/
def Dev.pgOutput (s : Dev) : Dev :=
  let s1 := match s.pgen.plan with
    | some pl =>
      let x := pl.point s.tick
      let rem := F64.sub pl.total (pl.tau s.tick)
      let d := s.setPg { s.pgen with p := x.p, v := x.v, a := x.a, xTick := s.tick }
      ((d.wrI R.PGEN_REF_JERK (micro x.j)).setFld F.PGEN_SEG_VALUE x.seg).wrI R.PGEN_TREM
        (if F64.lt rem ⟨0, 0⟩ then 0 else F64.ceil (F64.mul rem (F64.ofInt 1000000)))
    | none => (((s.setPg { s.pgen with xTick := s.tick }).wrN R.PGEN_REF_JERK 0).setFld F.PGEN_SEG_VALUE 0).wrN R.PGEN_TREM 0
  let s2 := ((s1.wrI R.PGEN_REF_POS (micro s1.pgen.p)).wrI R.PGEN_REF_VEL (micro s1.pgen.v)).wrI R.PGEN_REF_ACC (micro s1.pgen.a)
  let S := s2.stopDist
  (s2.wrI R.PGEN_STOPDIST s2.stopDistUm).wrI R.PGEN_REACH (micro (F64.add s2.pgen.p S))

/-- LEVELLED in each tick (R101). -/
def Dev.levelled (s : Dev) : Dev :=
  let l := match s.pgen.levTgt with | some t => decide (|s.rdI R.POSX_FUSE_POS - t| ≤ (s.od? 0x2202 1 : Int)) | none => false
  let s1 := s.setFlag F.PGEN_STATUS_LEVELLED l
  if l ∧ s.flag F.PGEN_STATUS_LEVELLED = false then s1.setFlag F.PGEN_IRQ_LEVELLED true else s1

/-- The first half of PGEN in phase 2: a safety demand takes effect before anything else (R25, R99), then position quality, then
the command that waited for this tick. -/
def Dev.pgenBegin (s0 : Dev) : Dev :=
  let s := s0.safeDemand.positionQuality
  match s.pgen.pend with
  | some c => ({ s with pgen := { s.pgen with pend := none } }).pgAdopt c
  | none => s

/-- The second half: the limits, the events of the plan, and the output X(k). -/
def Dev.pgenRest (s0 : Dev) : Dev :=
  let s4 := s0.limitReplan.driveTimeout.driveReqEnds.relevelWatch.relevelStart
  let s5 := s4.startTimeout.tripStart.relevelGo
  s5.tripArrival.stopComplete.pgOutput.levelled

/-! ## The drive reference (R107) -/

/-- The drive enable that 0x2210:03 takes in this tick (R100, R107, R279): set from WAIT_START on, while the sequence runs and
in the torque test; cleared on entering DISABLE. -/
def Dev.driveEn (s : Dev) : Bool :=
  (s.pgState = 1 || s.pgState = 2 || s.pgState = 3 || s.pgState = 5 || s.sout.ttStep != 0 ||
    (s.driveEnabled && s.fld F.SOUT_STATUS_SEQ != 0 && s.fld F.SOUT_STATUS_SEQ != 5)) && !s.sout.endDrive

/-- Stage the reference objects at 95 µs. -/
def Dev.driveStage (s : Dev) : Dev :=
  let tt := s.sout.ttStep ≠ 0
  let en := s.driveEn
  let valid := tt ∨ s.ceng.refRan
  let w := if en then 3 + 4 * b2n valid + 8 * b2n s.demandsStop else 0
  let ref := if tt then (let r : Int := s.par 0x2715 3; if s.par 0x2715 4 = 0 then r else -r) else s.rdI (R.CENG_SLOT_OUT 0)
  (((s.odPut 0x2210 1 (w32 ref)).odPut 0x2210 2 (w32 (s.rdI R.PGEN_REF_ACC))).odPut 0x2210 3 w).odPut 0x2210 4 (s.tick % 65536)

/-- The values staged in the tick before are what leaves at a sample point: they are kept before this tick stages its own. -/
def Dev.driveKeep (s : Dev) : Dev := s.setPg { s.pgen with staged := #v[s.od? 0x2210 1, s.od? 0x2210 2, s.od? 0x2210 3, s.od? 0x2210 4] }

/-- TPDO 9 with the values staged in the tick before is released at a tick that is a multiple of the period, on CANX[1] (R107, R320). -/
def Dev.driveRelease (s : Dev) : Dev :=
  if s.od? 0x2210 6 = 0 ∧ s.tick % s.od? 0x2210 5 = 0 ∧ s.fld (F.CANX_CFG_MODE 1) ≠ 0 ∧ s.fld (F.CANX_STATUS_NMT 1) = 2 ∧
      s.flag (F.CANX_STATUS_BUSOFF 1) = false then
    let fd := s.fld (F.CANX_CFG_MODE 1) = 1
    let data := leBytes 4 s.pgen.staged[0] ++ (if fd then leBytes 4 s.pgen.staged[1] else []) ++ leBytes 2 s.pgen.staged[2] ++ leBytes 2 s.pgen.staged[3]
    let f : CanFrame := { id := s.od? 0x1808 1 % 2048, data := data }
    { s with can := vmod s.can 1 fun c => { c with out := some f, sent := c.sent + 1 } }
  else s

end Sys2Proof.Machine
end

