-- ==== Sys2Proof/Machine/ShaftMap.lean ====
section
/-! DEFINITION. The shaft map (R75 to R82, R410): reports of the latch units, door-zone passages, drift tracking, and the
learning and verification runs. -/

namespace Sys2Proof.Machine

/-! ## Drift tracking (R81, R82) -/

/-- Set or clear bit `b` of a landing's flags 0x2106. -/
def Dev.landFlag (s : Dev) (i b : Nat) (v : Bool) : Dev := s.odPut 0x2106 (i + 1) (putBit (s.od? 0x2106 (i + 1)) b v)

/-- W[i] takes a value; the change waits for the next slow tick to be stored (R77). -/
def Dev.putW (s : Dev) (i : Nat) (x : Int) : Dev :=
  let s1 := s.odPut 0x2101 (i + 1) (w32 x)
  { s1 with cmpl := { s1.cmpl with dirtyW := true } }

def Dev.setDrift (s : Dev) (i : Nat) (l : List Int) : Dev := { s with cmpl := { s.cmpl with drift := alSet s.cmpl.drift i l } }

/-- The rules of R82 for a valid passage M at landing i: the first that matches. -/
def Dev.driftRule (s : Dev) (i : Nat) (M : Int) : Dev :=
  let D := M - s.A i
  let d := M - s.W i
  if 20000 < |D| then (((s.setDrift i []).landFlag i 1 true).logE 0x1112 i (w32 D) 0)
  else if |d| ≤ 5000 then
    let s1 := (s.setDrift i []).putW i M
    if 1000 ≤ |d| then s1.log 0x1110 i (w32 d) (w32 M) else s1
  else
    let l := (M :: alGet s.cmpl.drift i []).take 3
    let s1 := ((s.setDrift i l).landFlag i 0 true).log 0x1111 i (w32 d) (w32 D)
    if l.length = 3 ∧ consistent 2000 l then
      let m := quo l.sum 3
      (((s1.setDrift i []).putW i m).landFlag i 0 false).log 0x1110 i (w32 d) (w32 m)
    else s1

/-- The judgement of a passage whose edges are all there: valid (R81), M, and the difference of the two centres. The sums of
the captures are exact: 2 mm between the centres is 4 mm between the sums. -/
def Dev.judgePassage (s : Dev) (r0 f0 r1 f1 : PassEdge) : Bool × Int × Int :=
  let c0 := r0.pos + f0.pos
  let c1 := r1.pos + f1.pos
  let l := [r0, f0, r1, f1]
  (l.all (·.ok) && l.all (fun e => e.turns == r0.turns) && decide (|c0 - c1| ≤ 4000), quo (c0 + c1) 4 + s.odI 0x2108 1, quo (c0 - c1) 2)

/-- A passage that measures nothing: 0x1113, reason 1. In an upward learning leg the run fails with reason 3. -/
def Dev.discardPassage (s : Dev) (land diff : Nat) : Dev :=
  let s1 := s.log 0x1113 1 land diff
  if s.cmpl.learn.leg = 2 ∧ s.cmpl.learn.verify = false then { s1 with cmpl := { s1.cmpl with learn := { s1.cmpl.learn with bad := true } } } else s1

/-- A whole passage (R79, R81). -/
def Dev.takePassage (s : Dev) (r0 f0 r1 f1 : PassEdge) : Dev :=
  let j := s.judgePassage r0 f0 r1 f1
  let n := nearest s.W s.landings j.2.1
  if j.1 then
    if s.cmpl.learn.leg = 2 then { s with cmpl := { s.cmpl with learn := { s.cmpl.learn with found := s.cmpl.learn.found ++ [j.2.1] } } }
    else if s.cmpl.learn.leg = 1 then s
    else if 50000 < |j.2.1 - s.W n| then s.log 0x1113 2 n (w32 j.2.2)
    else s.driftRule n j.2.1
  else s.discardPassage n (w32 j.2.2)

/-- A passage with an edge missing: the landing and the centre difference of its event are open (free values). (DESIGN CHOICE, log 72) -/
def Dev.takeBroken (s : Dev) : Dev :=
  let a := s.drawWord
  let b := a.2.drawWord
  b.2.discardPassage a.1.toNat b.1.toNat

def Dev.setPass (s : Dev) (p : Passage) : Dev := { s with cmpl := { s.cmpl with pass := p } }

/-- A passage ends with the second falling edge. -/
def Dev.passageEnd (s : Dev) : Dev :=
  match s.cmpl.pass.f0, s.cmpl.pass.f1 with
  | some f0, some f1 =>
    let s1 := s.setPass {}
    match s.cmpl.pass.r0, s.cmpl.pass.r1 with
    | some r0, some r1 => s1.takePassage r0 f0 r1 f1
    | _, _ => s1.takeBroken
  | _, _ => s

/-- A reported edge of the door-zone sensors joins the passage. A rising edge after a falling one, or of a sensor that has
risen already, ends an incomplete passage first. -/
def Dev.passageEdge (s : Dev) (n : Nat) (e : PassEdge) : Dev :=
  let p := s.cmpl.pass
  let again := (n = 12 || n = 14) && (p.f0.isSome || p.f1.isSome || (n = 12 && p.r0.isSome) || (n = 14 && p.r1.isSome))
  let s1 := if again then (s.setPass {}).takeBroken else s
  let q := s1.cmpl.pass
  match n with
  | 12 => s1.setPass { q with r0 := some e }
  | 13 => (s1.setPass { q with f0 := some e }).passageEnd
  | 14 => s1.setPass { q with r1 := some e }
  | _ => (s1.setPass { q with f1 := some e }).passageEnd

/-- A capture of the terminal switch of the leg, as reported: the switch position of the run until its stop has begun (R80). -/
def Dev.learnCapture (s : Dev) (n : Nat) : Dev :=
  let l := s.cmpl.learn
  let p := s.rdI (R.CMPL_LAT_POS n)
  let l1 := if l.stopped then l else if n = 10 ∧ l.leg = 1 then { l with swLow := some p } else if n = 11 ∧ l.leg = 2 then { l with swHigh := some p } else l
  { s with cmpl := { s.cmpl with learn := l1 } }

/-- At 15 µs of the first tick whose snapshot contains the edge, the unit reports (R72); LAT[12] to LAT[15] feed the
passages while tracking runs (R74), LAT[10] and LAT[11] the learning run (R80). -/
def Dev.latReport (s0 : Dev) (n : Fin 16) : Dev :=
  match s0.cmpl.lat[n].pend with
  | some c =>
    if s0.tick * 125000 ≤ c.ns then s0
    else
      let s := ((s0.at 6000).latShow n c).learnCapture n.val
      if 12 ≤ n.val ∧ s.od? 0x2105 5 = 1 then
        s.passageEdge n.val { pos := s.rdI (R.CMPL_LAT_POS n.val), turns := c.turns,
                              ok := s.flag (F.CMPL_LAT_STATUS_PVALID n.val) && !s.flag F.POSX_FUSE_STATUS_ABSLOST &&
                                !s.flag F.POSX_FUSE_STATUS_INCLOST && !s.flag F.POSX_FUSE_STATUS_STALE }
      else s
  | none => s0

/-! ## The learning run (R78 to R80) and the verification run (R410) -/

def Dev.setLearn (s : Dev) (l : LearnSt) : Dev := { s with cmpl := { s.cmpl with learn := l } }

/-- The state and the reason of the run: 0x2107:03 and :04, and event 0x1120. A verification run shows its own result. -/
def Dev.learnShow (s : Dev) (st reason : Nat) : Dev :=
  ((s.odPut 0x2107 3 st).odPut 0x2107 4 reason).log 0x1120 st s.cmpl.learn.found.length reason

/-- The landing with the largest deviation from A, and that deviation; a landing without a passage counts as missing. -/
def Dev.worst (s : Dev) (found : List Int) : Nat × Int :=
  ((List.range found.length).foldl (fun b i => let d := |found.getD i 0 - s.A i|; if b.2 < d then (i, d) else b) (0, 0))

/-- The verification run ends (R410): 0xA022, and VERIFYPEND clears on a pass. -/
def Dev.verificationDone (s : Dev) (complete : Bool) : Dev :=
  let l := s.cmpl.learn
  let tol : Int := s.od? 0x2904 5
  let w := s.worst l.found
  let near (x : Option Int) (r : Int) : Bool := match x with | some p => decide (|p - r| ≤ tol) | none => false
  let pass := complete && l.found.length = s.landings && decide (w.2 ≤ tol) && near l.swLow (s.odI 0x2104 2) && near l.swHigh (s.odI 0x2104 3)
  let s1 := (s.setLearn {}).log 0xA022 (b2n (!pass)) w.1 (w32 w.2)
  let s2 := s1.odPut 0x2904 4 (if pass then 2 else 3)
  if pass then { s2 with nv := { s2.nv with verify := false } }.setFlag F.BOOT_STATUS_VERIFYPEND false else s2

/-- The run fails with a reason; a car in motion makes a controlled stop and forgets the run's target. -/
def Dev.learnFail (s : Dev) (reason : Nat) : Dev :=
  let s1 := if s.cmpl.learn.verify then s.verificationDone false
    else let d := s.learnShow 4 reason
         { d with cmpl := { d.cmpl with learn := {}, candOk := false } }
  let s2 := (s1.setPg { s1.pgen with tgt := none, land := none, levTgt := none, levLand := none }).showTgt
  if s2.pgState = 2 then s2.planStop 0
  else if s2.pgState = 1 ∨ s2.pgState = 4 then s2.pgSet 0 else s2

/-- The travel limit of a leg, as written in 0x2104:01 or 0x2104:04 (R80). -/
def Dev.legLimit (s : Dev) (leg : Nat) : Int := if leg = 1 then s.odI 0x2104 1 else s.odI 0x2104 4

/-- A leg starts towards the travel limit of its direction: the run's own target, through the start conditions (R100). -/
def Dev.legStart (s : Dev) (leg : Nat) : Dev :=
  let s1 := s.setLearn { s.cmpl.learn with leg := leg, started := false, stopped := false }
  let t := s.legLimit leg
  let s2 := s1.storeTarget t none 0
  (if s.cmpl.learn.verify then s2 else s2.learnShow leg 0).waitStart

/-- The car may start the run: learning mode at standstill, doors closed and locked (R78). -/
def Dev.learnMay (s : Dev) : Bool :=
  s.fld F.PGEN_STATUS_MODE = 3 && s.pgState = 0 && s.atRest && s.doorsShut && s.cmpl.learn.leg = 0

/-- A learning or verification run starts; without its switches or its limits it fails at once with reason 2 (R80). -/
def Dev.learnStart (s : Dev) (verify : Bool) : Dev :=
  let s1 := (s.setLearn { verify := verify }).odPut 0x2107 1 1
  if s.od? 0x2109 1 = 0xFF ∨ s.od? 0x2109 2 = 0xFF ∨ s.odI 0x2104 4 ≤ s.odI 0x2104 1 then s1.learnFail 2
  else s1.legStart 1

/-- A write of 0 to 0x2107:01 aborts the run (R78). -/
def Dev.learnAbort (s : Dev) : Dev := if s.cmpl.learn.leg = 0 then s.odPut 0x2107 1 0 else (s.odPut 0x2107 1 0).learnFail 4

/-- The terminal switch of the leg reads inside its zone in the snapshot (R80). -/
def Dev.switchInside (s : Dev) (leg : Nat) : Bool :=
  s.inLevel (s.od? 0x2109 leg) == bitN (s.od? 0x2109 3) (leg - 1)

/-- The captured switch position of the leg, as its unit has reported it. -/
def Dev.legCapture (s : Dev) (leg : Nat) : Option Int := if leg = 1 then s.cmpl.learn.swLow else s.cmpl.learn.swHigh

/-- The car has travelled the run-out beyond the captured position (R80). -/
def Dev.ranOut (s : Dev) (leg : Nat) (p : Int) : Bool :=
  let x := s.rdI R.POSX_FUSE_POS
  if leg = 1 then decide (x ≤ p - s.od? 0x2107 5) else decide (p + s.od? 0x2107 5 ≤ x)

/-- The learning run in the tick (R80): a stop by anything else aborts it. The leg's plan ends at its travel limit; once the
switch reads inside and the car has run out beyond its captured position, it stops as by STOP, without a kept target. (DEDUCED, log 74) -/
def Dev.learnTick (s : Dev) : Dev :=
  let l := s.cmpl.learn
  if l.leg = 0 then s
  else if l.bad then s.learnFail 3
  else if s.pgState = 4 ∨ (s.pgState = 3 ∧ l.stopped = false) ∨ s.flag F.PGEN_STATUS_SAFESTOP then s.learnFail 4
  else if s.pgState = 2 then
    let s1 := s.setLearn { l with started := true }
    match s.legCapture l.leg with
    | some p =>
      if s.switchInside l.leg && s.ranOut l.leg p then
        let s2 := s1.setLearn { l with started := true, stopped := true }
        ((s2.setPg { s2.pgen with tgt := none }).showTgt).planStop 0
      else s1
    | none => s1
  else s

/-- PGEN in phase 2 of a tick (R89): the demands and the command, the learning run, the plan and its output X(k). A missed phase
leaves everything as the tick before had it (R35). -/
def Dev.pgenTick (s : Dev) : Dev := s.pgenBegin.learnTick.pgenRest

/-- The candidates of a completed run (R79, R80): C, and the captured switch positions. -/
def Dev.putCandidates (s : Dev) : Dev :=
  let l := s.cmpl.learn
  let s1 := (List.range l.found.length).foldl (fun d i => d.odPut 0x2103 (i + 1) (w32 (l.found.getD i 0))) s
  { s1 with cmpl := { s1.cmpl with candLow := l.swLow.getD 0, candHigh := l.swHigh.getD 0, candOk := true } }

/-- A leg has stopped after its run-out, or at its travel limit: the next leg starts, or the run ends as done or failed; a leg
without a captured switch fails it (R80). (DEDUCED, log 74) -/
def Dev.learnLegEnd (s : Dev) : Dev :=
  let l := s.cmpl.learn
  if l.leg ≠ 0 ∧ l.started ∧ s.pgState = 0 ∧ s.atRest then
    if l.bad then s.learnFail 3
    else if s.legCapture l.leg = none then s.learnFail 2
    else if l.leg = 1 then s.legStart 2
    else if l.verify then s.verificationDone true
    else if l.found.length ≠ s.landings then s.learnFail 1
    else
      let s1 := s.putCandidates.learnShow 3 0
      s1.setLearn {}
  else s

/-- The verification run has ended on its second leg (R410). -/
def Dev.verificationEnd (s : Dev) : Dev := if s.cmpl.learn.verify then s.learnLegEnd else s

/-! ## Acceptance (R78, R265) -/

/-- The written value equals the candidate CRC of a run that did not fail: Marten transfers the map to Badger (R79, R265). -/
def Dev.mapAcceptOk (s : Dev) (crc : Word) : Bool := s.cmpl.candOk && crc.toNat = s.candCrc

/-- The map takes effect: A and W take C, the references and Badger's copy are accepted, the flags clear (R78, R82). -/
def Dev.mapTake (s : Dev) : Dev :=
  let n := s.landings
  let s1 := (List.range n).foldl (fun d i =>
    ((d.odPut 0x2102 (i + 1) (d.od? 0x2103 (i + 1))).odPut 0x2101 (i + 1) (d.od? 0x2103 (i + 1))).odPut 0x2106 (i + 1) 0) s
  let s2 := ((s1.odPut 0x2104 2 (w32 s.cmpl.candLow)).odPut 0x2104 3 (w32 s.cmpl.candHigh)).odPut 0x2105 2 (w32 (s.od? 0x2105 2 + 1))
  let s3 := { s2 with cmpl := { s2.cmpl with accLow := s.odI 0x2104 1, accHigh := s.odI 0x2104 4, acceptArmed := false, drift := [], dirtyW := true } }
  s3.log 0x1121 (s3.od? 0x2105 2) s.candCrc 0

end Sys2Proof.Machine
end

