-- ==== Sys2Proof/Machine/DoorDrive.lean ====
section
/-! DEFINITION. The electrical side of the door units (R134 to R153): faults and the driver enable, carrier periods, the
voltage-mode law, sensing, feedback sources and alignment. Settings are read as the last sample point found them (R22, R24). -/

namespace Sys2Proof.Machine

def Dev.setDoor (s : Dev) (d : Fin 2) (f : DoorSt → DoorSt) : Dev := { s with doors := vmod s.doors d f }
def Dev.setMo (s : Dev) (d : Fin 2) (f : MotionSt → MotionSt) : Dev := { s with motion := vmod s.motion d f }

/-- An entry of the door's objects: 0x2300 for DOOR[0], plus 0x10 for DOOR[1] (R178). -/
def Dev.dod (s : Dev) (d : Fin 2) (k sub : Nat) : Nat := s.od? (0x2300 + 16 * d.val + k) sub

/-- The motor parameters: R in mΩ, L in µH, KE in mV per m/s, EPM as Q16.16 angle units per µm. -/
def Dev.motR (s : Dev) (d : Fin 2) : Nat := s.fldF (F.DOOR_MOT_R_R d.val)
def Dev.motL (s : Dev) (d : Fin 2) : Nat := s.fldF (F.DOOR_MOT_L_L d.val)
def Dev.motKE (s : Dev) (d : Fin 2) : Nat := s.fldF (F.DOOR_MOT_KE_VALUE d.val)
def Dev.motEPM (s : Dev) (d : Fin 2) : Int := sx 32 (s.fldF (F.DOOR_MOT_EPM_VALUE d.val))

/-! ## The driver enable and the faults (R134, R145, R146) -/

/-- All six gates low. -/
def Dev.gatesLow (s : Dev) (d : Fin 2) : Dev :=
  s.setDoor d fun t => { t with gateHi := Vector.replicate 3 0, gateLo := Vector.replicate 3 0, boot := false, booting := false, ovShort := false }

/-- The conditions of R145 that an OV with the windings shorted leaves standing, and no power fail has been declared (R423). -/
def Dev.drvenBase (s : Dev) (d : Fin 2) : Bool :=
  s.sout.pfail.isNone && s.flag (F.DOOR_PERMIT_PERMIT d.val) && s.flagF (F.CENG_SLOT_CFG_EN (1 + d.val)) &&
    decide (s.fld (F.CENG_SLOT_OVR_CONSEC (1 + d.val)) < 8) &&
    !(s.flag (F.DOOR_STATUS_BRFLT d.val) || s.flag (F.DOOR_STATUS_OCFLT d.val) || s.flag (F.DOOR_STATUS_UV d.val))

/-- The conditions of R145 hold. -/
def Dev.drvenMay (s : Dev) (d : Fin 2) : Bool := s.drvenBase d && s.flag (F.DOOR_CTRL_EN d.val) && !s.flag (F.DOOR_STATUS_OV d.val)

/-- Alignment ends with a result (R152). -/
def Dev.alignEnd (s : Dev) (d : Fin 2) (result : Nat) : Dev :=
  let s1 := (s.setDoor d fun t => { t with alStep := 0 }).setFlag (F.DOOR_STATUS_ALIGNBUSY d.val) false
  (s1.setFlag (F.DOOR_IRQ_ALIGNDONE d.val) true).log 0x2005 d.val result (s1.fld (F.DOOR_ANGOFS_ANG d.val))

/-- The motion state of MSTAT. -/
def Dev.mState (s : Dev) (d : Fin 2) : Nat := s.fld (F.DOOR_MSTAT_STATE d.val)
def Dev.mSet (s : Dev) (d : Fin 2) (st : Nat) : Dev := s.setFld (F.DOOR_MSTAT_STATE d.val) st
def Dev.mCode (s : Dev) (d : Fin 2) (c : Nat) : Dev := s.setFld (F.DOOR_MSTAT_CODE d.val) c
def Dev.doorPos (s : Dev) (d : Fin 2) : Int := s.rdI (R.DOOR_POS d.val)
def Dev.doorSpeed (s : Dev) (d : Fin 2) : Int := s.rdI (R.DOOR_SPEED d.val)

/-- A learning run ends without success: code 0x22, the previous values stay in force (R175). -/
def Dev.learnDoorAbort (s : Dev) (d : Fin 2) (result : Nat) : Dev :=
  let s1 := (s.setMo d fun t => { t with step := 0, lrnBins := [], tgt := none, xr := s.doorPos d, vr := 0 }).mSet d 0
  (s1.mCode d 0x22).log 0x2016 d.val result (s.dod d 0 1)

/-- DRVEN falls during a move: the target is discarded with code 0x21 (R162); a learning run is aborted (R175). -/
def Dev.doorFall (s : Dev) (d : Fin 2) : Dev :=
  let st := s.mState d
  if st = 8 then s.learnDoorAbort d 1
  else if st = 3 ∨ st = 4 ∨ st = 5 ∨ st = 7 then
    let x := (s.motion[d]).tgt.getD 0
    let s1 := (s.setMo d fun t => { t with tgt := none, xr := s.doorPos d, vr := 0, hold := 0 }).mSet d 0
    ((s1.mCode d 0x21).setFlag (F.DOOR_MSTAT_NUDGE d.val) false).log 0x2019 d.val (s.rd (R.DOOR_STATUS d.val)).toNat (w32 x)
  else s

/-- DRVEN falls with its conditions at once, the gates with it; an OV with the windings shorted holds it (R145, R146). -/
def Dev.drvenUpdate (s : Dev) (d : Fin 2) : Dev :=
  let may := if (s.doors[d]).ovShort then s.drvenBase d else s.drvenMay d
  if s.flag (F.DOOR_STATUS_DRVEN d.val) ∧ may = false then
    let s1 := ((s.gatesLow d).setFlag (F.DOOR_STATUS_DRVEN d.val) false).doorFall d
    if (s.doors[d]).alStep ≠ 0 then s1.alignEnd d 2 else s1
  else s

/-- DRVEN rises at the sample point that finds its conditions (R24, R145); the bootstrap period comes next (R137). -/
def Dev.drvenRise (s : Dev) (d : Fin 2) : Dev :=
  if s.drvenMay d ∧ s.flag (F.DOOR_STATUS_DRVEN d.val) = false then
    (s.setFlag (F.DOOR_STATUS_DRVEN d.val) true).setDoor d fun t => { t with boot := true }
  else s

/-- A fault is latched (R146): its bit (1 BRFLT, 2 OCFLT, 3 UV, 4 OV), the interrupt flag, CTRL.EN cleared, the event. -/
def Dev.doorFault (s : Dev) (d : Fin 2) (bit : Nat) (code p2 p3 : Nat) : Dev :=
  if bitN (s.rd (R.DOOR_STATUS d.val)).toNat bit then s
  else
    let s1 := ((s.setBit (R.DOOR_STATUS d.val) bit).setBit (R.DOOR_IRQ d.val) bit).setFlag (F.DOOR_CTRL_EN d.val) false
    let short := bit = 4 ∧ s.flagF (F.DOOR_FLTCFG_OVACT d.val) ∧ s.flag (F.DOOR_STATUS_DRVEN d.val)
    let s2 := if short then s1.setDoor d fun t => { t with ovShort := true, gateHi := Vector.replicate 3 0, gateLo := Vector.replicate 3 (s.fldF (F.DOOR_CARR_PERIOD d.val)) } else s1
    (s2.drvenUpdate d).log code d.val p2 p3

/-- The present DC-link voltage in mV, of the latest sample (R143). -/
def Dev.vdcNow (s : Dev) (d : Fin 2) : Int :=
  match (s.doors[d]).last with
  | some x => quo (x.adc.vdc * s.fldF (F.DOOR_SENSE_VSCALE d.val)) 10
  | none => 0

/-- The high and the low gate of a phase conduct at a cycle of the period that began at `c`: the high pulse is centred, every
turn-on is delayed by the dead time (R136, R137). (DESIGN CHOICE, log 71) -/
def Dev.gateOn (s : Dev) (d : Fin 2) (x : Fin 3) (at_ : Nat) : Bool × Bool :=
  let t := s.doors[d]
  let dt := s.fldF (F.DOOR_DEAD_DEADT d.val)
  let P := s.fldF (F.DOOR_CARR_PERIOD d.val)
  if t.ovShort then (false, true)
  else if t.booting then (false, decide (dt ≤ at_))
  else
    let on := t.onNow[x]
    let up := (P - on) / 2
    (decide (0 < t.gateHi[x] ∧ up + dt ≤ at_ ∧ at_ < up + on), decide (0 < t.gateLo[x] ∧ (at_ < up ∨ up + on + dt ≤ at_)))

/-- The six gates at an instant, GUH in bit 0, then GUL, GVH, GVL, GWH, GWL (R134, R154). (DESIGN CHOICE, log 71) -/
def Dev.gateBits (s : Dev) (d : Fin 2) : Nat :=
  if s.flag (F.DOOR_STATUS_DRVEN d.val) then
    let at_ := s.now - ((s.doors[d]).lastC.getD s.now)
    (List.finRange 3).foldl (fun a x => let g := s.gateOn d x at_; a + 4 ^ x.val * (b2n g.1 + 2 * b2n g.2)) 0
  else 0

/-- The bridge fault input has been active throughout its window (R146): the gates before the shutdown go into the event. (DESIGN CHOICE, log 71) -/
def Dev.bridgeFault (s : Dev) (d : Fin 2) : Dev :=
  (s.setDoor d fun t => { t with bflt := true }).doorFault d 1 0x2001 (s.gateBits d) (w32 (s.vdcNow d))

/-- The latest sample shows no overcurrent. -/
def Dev.currentFine (s : Dev) (d : Fin 2) (x : DoorSample) : Bool :=
  [(x.adc.iu, 0), (x.adc.iv, 1), (x.adc.iw, 2)].all fun p =>
    decide (|(p.1 : Int) - s.fldF (F.DOOR_IOFS_ZERO d.val p.2)| * s.fldF (F.DOOR_SENSE_ISCALE d.val) < 1000 * (s.rdF (R.DOOR_IMAX d.val)).toNat)

/-- The DC link of a sample lies below VDCMIN, or above VDCMAX (R146). -/
def Dev.vdcLow (s : Dev) (d : Fin 2) (x : DoorSample) : Bool :=
  decide (x.adc.vdc * s.fldF (F.DOOR_SENSE_VSCALE d.val) < 10 * (s.rdF (R.DOOR_VDCMIN d.val)).toNat)
def Dev.vdcHigh (s : Dev) (d : Fin 2) (x : DoorSample) : Bool :=
  decide (10 * (s.rdF (R.DOOR_VDCMAX d.val)).toNat < x.adc.vdc * s.fldF (F.DOOR_SENSE_VSCALE d.val))

/-- A W1C write to STATUS clears a fault bit only while its condition is absent (R146). -/
def Dev.doorFaultClear (s : Dev) (d : Fin 2) (val : Word) (bflt : Bool) : Dev :=
  let s1 := s.setDoor d fun t => { t with bflt := bflt }
  let x := (s.doors[d]).last
  let fine (p : DoorSample → Bool) : Bool := match x with | some y => p y | none => true
  let clr (i : Nat) (ok : Bool) (t : Dev) : Dev := if bitN val.toNat i && ok then t.clrBit (R.DOOR_STATUS d.val) i else t
  (clr 4 (fine fun y => !s.vdcHigh d y) (clr 3 (fine fun y => !s.vdcLow d y) (clr 2 (fine (s.currentFine d)) (clr 1 (!bflt) s1)))).drvenUpdate d

/-- A write of PERMIT by the safety runtime (R145); what is removed returns under R257. -/
def Dev.permitWrite (s : Dev) (m : Master) (d : Fin 2) (val : Word) : Dev :=
  if m = 5 then
    let on := bitN val.toNat 0
    ({ s with marten := { s.marten with permCut := s.marten.permCut.set d !on } }.setFlag (F.DOOR_PERMIT_PERMIT d.val) on).drvenUpdate d
  else s

/-! ## A carrier period (R135 to R143) -/

/-- The signed table entry s(θ) · 32,768 (R138). -/
def Dev.sineAt (s : Dev) (d : Fin 2) (th : Nat) : Int :=
  let a := th % 65536 / 64
  let f : Int := th % 64
  let T (i : Nat) : Int := sx 16 (s.fldF (F.DOOR_TABLE_ENTRY d.val (i % 1024)))
  T a + ((T (a + 1) - T a) * f) / 64

/-- The angle at the centre of the period that starts at cycle c (R139). -/
def DoorVec.angleAt (v : DoorVec) (c P : Nat) : Nat :=
  let t : Int := ndiv (v.rate * (2 * ((c : Int) - v.ref) + P)) (2 * 16777216)
  (((v.angle : Int) + t) % 65536).toNat

/-- On-time of a phase (R140), before the clamp. -/
def onTime (P : Nat) (amp : Nat) (vdc s : Int) : Int :=
  if vdc ≤ 0 then ndiv P 2 else ndiv ((P : Int) * vdc * 32768 + 2 * P * amp * s) (2 * vdc * 32768)

/-- The sign of the latest sample's current of a phase in mA (R143). -/
def Dev.curSign (s : Dev) (d : Fin 2) (x : Nat) : Int :=
  match (s.doors[d]).last with
  | some y => sgn ((((if x = 0 then y.adc.iu else if x = 1 then y.adc.iv else y.adc.iw : Nat) : Int) - s.fldF (F.DOOR_IOFS_ZERO d.val x)) * s.fldF (F.DOOR_SENSE_ISCALE d.val))
  | none => 0

/-- The gates of one phase: the high and the low on-time after the dead time and the minimum (R136). -/
def Dev.gatesOf (s : Dev) (d : Fin 2) (P : Nat) (on0 : Nat) : Nat × Nat :=
  let dt := s.fldF (F.DOOR_DEAD_DEADT d.val)
  let mp := s.fldF (F.DOOR_DEAD_MINP d.val)
  let hi := on0 - dt
  let lo := P - on0 - dt
  (if hi < mp then 0 else hi, if lo < mp then 0 else lo)

/-- The on-time of phase x in the period at cycle c and whether it needed the clamp (R140). -/
def Dev.phaseOn (s : Dev) (d : Fin 2) (v : DoorVec) (c P x : Nat) : Nat × Bool :=
  let th := v.angleAt c P + [0, 65536 - 0x5555, 65536 - 0xAAAB].getD x 0
  let on0 := onTime P v.amp (s.rdI (R.DOOR_VDC d.val)) (s.sineAt d th)
  ((clampI 0 P on0).toNat, decide (on0 < 0 ∨ (P : Int) < on0))

/-- With DTCOMP set, the on-time is corrected by the current's sign and clamped again (R136). -/
def Dev.dtComp (s : Dev) (d : Fin 2) (P x on0 : Nat) : Nat :=
  if s.flagF (F.DOOR_DEAD_DTCOMP d.val) then (clampI 0 P ((on0 : Int) + s.curSign d x * s.fldF (F.DOOR_DEAD_DEADT d.val))).toNat else on0

/-- The gates of a period whose on-times are known: none without DRVEN, the bootstrap period first, then modulation (R136, R137);
an OV short stands. -/
def Dev.driveGates (s : Dev) (d : Fin 2) (P : Nat) (on : Vector Nat 3) : Dev :=
  let t := s.doors[d]
  if t.ovShort then s
  else if s.flag (F.DOOR_STATUS_DRVEN d.val) = false then s.gatesLow d
  else if t.boot then
    s.setDoor d fun t => { t with boot := false, booting := true, gateHi := Vector.replicate 3 0, gateLo := Vector.replicate 3 (P - s.fldF (F.DOOR_DEAD_DEADT d.val)) }
  else
    let g := on.map (s.gatesOf d P)
    s.setDoor d fun t => { t with booting := false, onNow := on, gateHi := g.map (·.1), gateLo := g.map (·.2) }

/-- A carrier period's on-times and VSAT, in every period (R136, R140), and its gates. -/
def Dev.modulate (s : Dev) (d : Fin 2) (c P : Nat) : Dev :=
  let t := s.doors[d]
  let v := if t.vec.commit ≤ c then t.vec else t.vecOld
  let on0 : Vector (Nat × Bool) 3 := Vector.ofFn fun x => s.phaseOn d v c P x.val
  let sat := on0.toList.any (·.2)
  let on1 : Vector Nat 3 := Vector.ofFn fun x => s.dtComp d P x.val (on0[x]).1
  let s1 := (List.finRange 3).foldl (fun e x => e.wrN (R.DOOR_ON d.val x.val) on1[x]) s
  let s2 := s1.setFlag (F.DOOR_STATUS_VSAT d.val) sat
  let s3 := if sat ∧ s.flag (F.DOOR_STATUS_VSAT d.val) = false then s2.log 0x2006 d.val v.amp (w32 (s.rdI (R.DOOR_VDC d.val))) else s2
  s3.driveGates d P on1

/-- The sample instant of a period: DOOR[1] waits for DOOR[0] where their samples would fall less than 1,000 ns apart (R142). -/
def Dev.sampleAt (s : Dev) (d : Fin 2) (c : Nat) : Nat × Bool :=
  if d = 0 then (c, false)
  else
    let P0 := s.fldF (F.DOOR_CARR_PERIOD 0)
    let r := c % P0
    if r < 400 then (c - r + 400, true) else if P0 - r < 400 then (c + (P0 - r) + 400, true) else (c, false)

/-- The supervision of one sample: OCFLT, UV with EN as the sample found it, OV, and the end of the shorting under OVACT = 1 (R146). -/
def Dev.sampleCheck (s : Dev) (d : Fin 2) (x : DoorSample) : Dev :=
  let vs := s.fldF (F.DOOR_SENSE_VSCALE d.val)
  let mv := w32 (quo (x.adc.vdc * vs) 10)
  let oc (e : Dev) (p : Nat × Nat) : Dev :=
    let raw : Int := ((p.1 : Int) - e.fldF (F.DOOR_IOFS_ZERO d.val p.2)) * e.fldF (F.DOOR_SENSE_ISCALE d.val)
    if 1000 * ((e.rdF (R.DOOR_IMAX d.val)).toNat : Int) ≤ |raw| then e.doorFault d 2 0x2002 p.2 (w32 (quo raw 1000)) else e
  let s1 := [(x.adc.iu, 0), (x.adc.iv, 1), (x.adc.iw, 2)].foldl oc s
  let s2 := if s1.vdcLow d x ∧ s.flag (F.DOOR_CTRL_EN d.val) then s1.doorFault d 3 0x2003 0 mv else s1
  let s3 := if s2.vdcHigh d x then s2.doorFault d 4 0x2003 1 mv else s2
  if (s3.doors[d]).ovShort ∧ 100 * x.adc.vdc * vs < 950 * (s.rdF (R.DOOR_VDCMAX d.val)).toNat then
    (s3.setDoor d fun t => { t with ovShort := false }).drvenUpdate d else s3

/-- The start of a carrier period: the next multiple of P fabric cycles (R135). -/
def Dev.carrier (s0 : Dev) (d : Fin 2) (adc : CarrierAdc) : Dev :=
  let P := s0.fldF (F.DOOR_CARR_PERIOD d.val)
  let c0 := (s0.now + P - 1) / P * P
  let c := if (s0.doors[d]).lastC = some c0 then c0 + P else c0
  let s := s0.at (c - s0.tick * tickCyc)
  let sa := s.sampleAt d c
  let x : DoorSample := { c := sa.1, adc := adc }
  let s1 := (s.setFlag (F.DOOR_STATUS_SHIFT d.val) sa.2).sampleCheck d x
  let s2 := s1.setDoor d fun t => { t with lastC := some c, last := some x, samples := t.samples ++ [x] }
  s2.modulate d c P

/-! ## The snapshot of the sensed values (R143, R144) -/

/-- The mean of the conversions of the samples that started in the last tick, rounded toward zero; without one, the last. -/
def meanOf (l : List DoorSample) (f : DoorSample → Int) (den : Nat) : Int :=
  cdiv (l.map f).sum ((l.length * den : Nat) : Int)

/-- The sensed registers at the sample point. -/
def Dev.doorSense (s : Dev) (d : Fin 2) : Dev :=
  let t := s.doors[d]
  let t0 := s.tick * tickCyc
  let inTick := t.samples.filter fun x => x.c < t0
  let l := if inTick = [] then t.last.toList else inTick
  if l = [] then s
  else
    let cur (x : Nat) (f : DoorSample → Nat) : Int := meanOf l (fun y => ((f y : Int) - s.fldF (F.DOOR_IOFS_ZERO d.val x)) * s.fldF (F.DOOR_SENSE_ISCALE d.val)) 1000
    let vol (f : DoorSample → Nat) : Int := meanOf l (fun y => (f y : Int) * s.fldF (F.DOOR_SENSE_VSCALE d.val)) 10
    let s1 := ((s.wrI (R.DOOR_IU d.val) (cur 0 (·.adc.iu))).wrI (R.DOOR_IV d.val) (cur 1 (·.adc.iv))).wrI (R.DOOR_IW d.val) (cur 2 (·.adc.iw))
    let s2 := ((s1.wrI (R.DOOR_VU d.val) (vol (·.adc.vu))).wrI (R.DOOR_VV d.val) (vol (·.adc.vv))).wrI (R.DOOR_VW d.val) (vol (·.adc.vw))
    (s2.wrI (R.DOOR_VDC d.val) (vol (·.adc.vdc))).setDoor d fun t => { t with samples := t.samples.filter fun x => t0 ≤ x.c }

/-- At each slow tick a door with DRVEN = 0 takes its current offsets (R144). -/
def Dev.doorZero (s : Dev) (d : Fin 2) (codes : List Nat) : Dev :=
  if s.flag (F.DOOR_STATUS_DRVEN d.val) then s
  else (upTo 3).foldl (fun e x =>
    let c := codes.getD x 8192 % 16384
    if |(c : Int) - 8192| ≤ 512 then e.setFld (F.DOOR_IOFS_ZERO d.val x) c else e.log 0x2007 d.val x c) s

/-! ## Feedback (R148 to R151) -/

/-- The counter and the Hall triplet of a door. -/
def Dev.doorCnt (s : Dev) (d : Fin 2) : Fin 4 := Fin.ofNat 4 (s.fldF (F.DOOR_FB_CNTSEL d.val))
def Dev.doorHall (s : Dev) (d : Fin 2) : Fin 2 := Fin.ofNat 2 (s.fldF (F.DOOR_FB_HALLSEL d.val))

/-- The encoder's rotor angle (R148). -/
def Dev.encRotor (s : Dev) (d : Fin 2) (pos : Int) : Nat :=
  (((s.fldF (F.DOOR_ANGOFS_ANG d.val) : Int) + ndiv (s.motEPM d * pos) 65536) % 65536).toNat

/-- The Hall rotor angle: the boundary angle, interpolated towards the far boundary (R149). -/
def Dev.hallRotor (s : Dev) (d : Fin 2) : Nat :=
  let h := s.doorHall d
  let c := s.posx.hall[h]
  let sec : Int := s.fld (F.POSX_HALL_STATE_SECTOR h.val)
  let base : Int := s.fldF (F.DOOR_FB_HALLOFS d.val)
  let per : Int := (s.rd (R.POSX_HALL_PERIOD h.val)).toNat
  let bound := if c.dir < 0 then base + (sec + 1) * 0x2AAB else base + sec * 0x2AAB
  let adv := if per = 0 then 0 else min 0x2AAB (quo (0x2AAB * ((s.now - c.lastAt : Nat) : Int)) per)
  ((bound + c.dir * adv) % 65536).toNat

/-- The encoder's own position, to which its rotor angle belongs (R148); a carried-over offset is no part of it. (DEDUCED, log 70) -/
def Dev.encPos (s : Dev) (d : Fin 2) : Int := s.rdI (R.POSX_CNT_POS (s.doorCnt d).val) + (s.rdF (R.DOOR_POSOFS d.val)).toInt

/-- The present Hall sector's distance from an angle, in units beyond the sector (R151). -/
def Dev.hallAway (s : Dev) (d : Fin 2) (rotor : Nat) : Bool :=
  let h := s.doorHall d
  let lo : Int := s.fldF (F.DOOR_FB_HALLOFS d.val) + s.fld (F.POSX_HALL_STATE_SECTOR h.val) * 0x2AAB
  let r := ((rotor : Int) - lo) % 65536
  decide (2 * 0x2AAB < r ∧ r < 65536 - 0x2AAB)

/-- The raw position and speed of a source: 1 encoder, 2 Hall, 3 sensorless (R148 to R150). -/
def Dev.sourcePos (s : Dev) (d : Fin 2) (src : Nat) : Int :=
  match src with
  | 1 => s.rdI (R.POSX_CNT_POS (s.doorCnt d).val)
  | 2 => quo ((s.posx.hall[s.doorHall d]).steps * 0x2AAB * 65536) (s.motEPM d)
  | _ => ndiv (s.doors[d]).slPos 65536

def Dev.sourceSpeed (s : Dev) (d : Fin 2) (src : Nat) : Int :=
  match src with
  | 1 => s.rdI (R.POSX_CNT_SPEED (s.doorCnt d).val)
  | 2 =>
    let h := s.doorHall d
    let per : Int := (s.rd (R.POSX_HALL_PERIOD h.val)).toNat
    if per = 0 then 0 else (s.posx.hall[h]).dir * quo (0x2AAB * 65536 * 400000000) (s.motEPM d * per)
  | _ => F64.round (s.motion[d]).vemf

/-- One tick of a source's supervision: a condition that shows now, one that the counts of the slow tick show, whether the source
becomes unusable. At the end of a slow tick the counts still hold what that slow tick gave. (DEDUCED, log 70) -/
def FbSource.watch (f : FbSource) (r1 r2 : Nat) (level counted fail slowEnd still : Bool) : FbSource :=
  let cond := level || counted
  let clean := if slowEnd then !(f.dirty || cond) else f.clean && !cond
  let bad := (f.bad || fail) && !(f.bad && !fail && still && clean)
  { run1 := r1, run2 := r2, bad := bad, dirty := if slowEnd then level else f.dirty || cond, clean := clean }

/-- The door stands still: its reference does (R151). (DEDUCED, log 70) -/
def Dev.doorStill (s : Dev) (d : Fin 2) : Bool := (s.motion[d]).vr = 0

/-- The conditions of the encoder (R151): the new supervision state and the cause of a failure. -/
def Dev.encWatch (s : Dev) (d : Fin 2) : FbSource × Nat :=
  let n := s.doorCnt d
  let f := (s.doors[d]).enc
  let lf := s.fld (F.POSX_CNT_STATUS_LINEFLT n.val) % 4 ≠ 0
  let hallOn := s.flagF (F.DOOR_FB_HALL_EN d.val)
  let dis := hallOn && s.hallAway d (s.encRotor d (s.encPos d))
  let r1 := if lf then f.run1 + 1 else 0
  let r2 := if dis then f.run2 + 1 else 0
  let il := (s.posx.cnt[n]).illSlow
  let cause := if 4 ≤ r1 then 1 else if 8 ≤ il then 2 else if 4 ≤ r2 then 3 else 0
  (f.watch r1 r2 (decide lf || dis) (decide (0 < il)) (cause != 0) (s.tick % 800 = 0) (s.doorStill d), cause)

/-- The conditions of the Hall triplet (R151). -/
def Dev.hallWatch (s : Dev) (d : Fin 2) : FbSource × Nat :=
  let h := s.doorHall d
  let f := (s.doors[d]).hall
  let uvw := s.fld (F.POSX_HALL_STATE_UVW h.val)
  let ill := uvw = 0 || uvw = 7
  let r1 := if ill then f.run1 + 1 else 0
  let sk := (s.posx.hall[h]).skips
  let cause := if 4 ≤ r1 then 4 else if 3 ≤ sk then 5 else 0
  (f.watch r1 0 ill (decide (0 < sk)) (cause != 0) (s.tick % 800 = 0) (s.doorStill d), cause)

/-- The highest-ranked enabled and usable source (R151). -/
def Dev.pickSource (s : Dev) (d : Fin 2) : Nat :=
  if s.flagF (F.DOOR_FB_ENC_EN d.val) && !(s.doors[d]).enc.bad then 1
  else if s.flagF (F.DOOR_FB_HALL_EN d.val) && !(s.doors[d]).hall.bad then 2
  else if s.flagF (F.DOOR_FB_SL_EN d.val) && s.flag (F.DOOR_STATUS_DRVEN d.val) then 3 else 0

/-- The change of the source without a position step; the event's cause where the spec names none is a free value. (DEDUCED, log 70) -/
def Dev.sourceChange (s : Dev) (d : Fin 2) (new cause : Nat) : Dev :=
  let old := s.fld (F.DOOR_STATUS_FBSRC d.val)
  if old = new then s
  else
    let ofs := (s.rdF (R.DOOR_POSOFS d.val)).toInt
    let s1 := if old ≠ 0 ∧ new ≠ 0 then s.setDoor d fun t => { t with carry := s.doorPos d - s.sourcePos d new - ofs } else s
    let s2 := (s1.setFld (F.DOOR_STATUS_FBSRC d.val) new).setFlag (F.DOOR_IRQ_FBCHG d.val) true
    let r := if cause ≠ 0 then (BitVec.ofNat 32 cause, s2) else if new ≠ 0 ∧ (new < old ∨ old = 0) then (6, s2) else s2.drawWord
    r.2.log 0x2004 d.val new r.1.toNat

/-- Feedback at the sample point: supervision, the source in use, POS, SPEED and ROTOR (R148 to R151). -/
def Dev.doorFeedback (s : Dev) (d : Fin 2) : Dev :=
  let e := s.encWatch d
  let h := s.hallWatch d
  let old := s.fld (F.DOOR_STATUS_FBSRC d.val)
  let s1 := s.setDoor d fun t => { t with enc := e.1, hall := h.1 }
  let s2 := s1.sourceChange d (s1.pickSource d) (if old = 1 then e.2 else if old = 2 then h.2 else 0)
  let src := s2.fld (F.DOOR_STATUS_FBSRC d.val)
  let s3 := s2.setFlag (F.DOOR_STATUS_POSVALID d.val) (src != 0 && (s2.doors[d]).alStep = 0)
  if src = 0 then s3
  else
    let p := s3.sourcePos d src + (s3.rdF (R.DOOR_POSOFS d.val)).toInt + (s3.doors[d]).carry
    let rot := if src = 1 then s3.encRotor d (s3.encPos d) else if src = 2 then s3.hallRotor d else s3.encRotor d (s3.motion[d]).xr
    ((s3.wrI (R.DOOR_POS d.val) p).wrI (R.DOOR_SPEED d.val) (s3.sourceSpeed d src)).wrN (R.DOOR_ROTOR d.val) rot

/-! ## The voltage-mode law (R141, R150) -/

/-- θr at T(k + 1) and v as the slot uses them, in binary64 angle units and µm/s (R141, R150). -/
def Dev.slotAngle (s : Dev) (d : Fin 2) : F64 × Int :=
  let I := F64.ofInt
  let epm := F64.div (I (s.motEPM d)) (I 65536)
  if s.fld (F.DOOR_STATUS_FBSRC d.val) = 3 then
    let v := (s.motion[d]).vr
    let x := F64.add (I (s.motion[d]).xr) (F64.div (I v) (I 8000))
    (F64.add (I (s.fldF (F.DOOR_ANGOFS_ANG d.val))) (F64.mul epm x), v)
  else
    let v := s.doorSpeed d
    (F64.add (I (s.fld (F.DOOR_ROTOR_VALUE d.val))) (F64.div (F64.mul epm (I v)) (I 8000)), v)

/-- The vector of a wanted current i in mA (R141), with the rotor angle and the direction that it used (R165, R166). -/
def Dev.doorLaw (s : Dev) (d : Fin 2) (i : F64) : DoorVec :=
  let I := F64.ofInt
  let tv := s.slotAngle d
  let v := I tv.2
  let epm := I (s.motEPM d)
  let two : F64 := I 2
  let we := F64.div (F64.mul (F64.mul (F64.mul two F64.pi) (F64.div epm (I 65536))) v) (I 65536)
  let vq := F64.add (F64.div (F64.mul (I (s.motR d)) i) (I 1000)) (F64.div (F64.mul (I (s.motKE d)) v) (I 1000000))
  let vd := if s.flagF (F.DOOR_MOT_L_LDEN d.val) then F64.div (F64.mul (F64.mul (F64.neg we) (I (s.motL d))) i) (I 1000000) else I 0
  let amp := F64.sqrt (F64.add (F64.mul vq vq) (F64.mul vd vd))
  let ang := F64.add tv.1 (F64.div (F64.mul (F64.atan2 vq vd) (I 65536)) (F64.mul two F64.pi))
  let rate := F64.mul (F64.mul (F64.mul (F64.div epm (I 65536)) v) (F64.div (I 25) (I 10000000000))) (I 16777216)
  { amp := (F64.round amp).toNat, angle := (F64.round ang % 65536).toNat, rate := F64.round rate, thr := quoF tv.1, dir := sgn tv.2 }

/-- Vectors are committed since the unit, its slot and PERMIT were first set together (R153). (DEDUCED, log 125) -/
def Dev.vecMay (s : Dev) (d : Fin 2) : Bool :=
  (s.doors[d]).vecOn || (s.flag (F.DOOR_CTRL_EN d.val) && s.flag (F.DOOR_PERMIT_PERMIT d.val) && s.flagF (F.CENG_SLOT_CFG_EN (1 + d.val)))

/-- The vector registers and the vector in force from the next carrier period after 95 µs (R137, R139, R153). -/
def Dev.commitVec (s : Dev) (d : Fin 2) (v : DoorVec) : Dev :=
  if s.vecMay d = false then s else
  let v1 : DoorVec := { v with ref := (s.tick + 1) * tickCyc, commit := s.tick * tickCyc + 38000 }
  let s1 := s.setDoor d fun t => { t with vecOld := t.vec, vec := v1, vecOn := true }
  ((s1.wrN (R.DOOR_AMP d.val) v.amp).wrN (R.DOOR_ANGLE d.val) v.angle).wrI (R.DOOR_RATE d.val) v.rate

/-! ## Alignment (R152) -/

/-- The amplitude of alignment: R · IMAX / 4,000 mV. -/
def Dev.alignAmp (s : Dev) (d : Fin 2) : Nat := (quo (s.motR d * (s.rdF (R.DOOR_IMAX d.val)).toNat) 4000).toNat

/-- The vector of the alignment step in progress. -/
def Dev.alignVec (s : Dev) (d : Fin 2) : DoorVec :=
  { amp := s.alignAmp d, angle := if (s.doors[d]).alStep = 1 then 0x4000 else 0, rate := 0 }

/-- A write of CTRL.ALIGN = 1 (R152), with DRVEN = 1; quarantine bars masters 1 to 4 and 7 (R145). -/
def Dev.alignStart (s : Dev) (m : Master) (d : Fin 2) : Dev :=
  if s.quarBars m ∨ s.flag (F.DOOR_STATUS_DRVEN d.val) = false ∨ (s.doors[d]).alStep ≠ 0 then s
  else ((s.setDoor d fun t => { t with alStep := 1, alAt := s.now }).setFlag (F.DOOR_STATUS_ALIGNBUSY d.val) true).setFlag (F.DOOR_STATUS_POSVALID d.val) false

/-- A write of CTRL.ALIGN waits for the sample point (R24). -/
def Dev.alignAdopt (s : Dev) (d : Fin 2) : Dev :=
  match (s.doors[d]).alPend with
  | some m => (s.setDoor d fun t => { t with alPend := none }).alignStart m d
  | none => s

/-- An alignment step has lasted 300 ms (R152). -/
def Dev.alignStep (s : Dev) (d : Fin 2) : Dev :=
  let t := s.doors[d]
  if t.alStep ≠ 0 ∧ t.alAt + 300 * msCyc ≤ s.now then
    let x := s.encPos d
    if t.alStep = 1 then s.setDoor d fun t => { t with alStep := 2, alAt := s.now, alPos := x }
    else if |s.motEPM d * (x - t.alPos) + 0x4000 * 65536| ≤ 0x1000 * 65536 then
      let ang := ((-(ndiv (s.motEPM d * x) 65536)) % 65536).toNat
      ((s.setFld (F.DOOR_ANGOFS_ANG d.val) ang).setFlag (F.DOOR_STATUS_ALIGNED d.val) true).alignEnd d 0
    else s.alignEnd d 1
  else s

end Sys2Proof.Machine
end

