-- ==== Sys2Proof/Machine/DoorMotion.lean ====
section
/-! DEFINITION. Door motion (R155 to R179): the reference, the commands, ends and holding, the estimates of load and force,
obstruction, the caps, the door zone, learning. -/

namespace Sys2Proof.Machine

/-! ## Limits (R157, R158, R172, R173) -/

/-- A learned mass of a landing, in 0.1 kg. -/
def Dev.massL (s : Dev) (d : Fin 2) (i : Nat) : Nat := s.fld (F.DOOR_MASSL_MASS d.val i)
def Dev.massLearned (s : Dev) (d : Fin 2) (i : Nat) : Bool := s.flag (F.DOOR_MASSL_LEARNED d.val i)

/-- The mass in force (R173): that of the landing at which the car stands, outside a door zone the largest learned one. -/
def Dev.massOf (s : Dev) (d : Fin 2) : Nat :=
  match s.zoneOf (s.rdI R.POSX_FUSE_POS) with
  | some i => s.massL d i
  | none => (upTo 128).foldl (fun m i => if s.massLearned d i then max m (s.massL d i) else m) 0

/-- A friction bin in 0.1 N, by direction (true opening). -/
def Dev.fric (s : Dev) (d : Fin 2) (b : Nat) (opening : Bool) : Nat :=
  if opening then s.fld (F.DOOR_FRIC_OPEN d.val b) else s.fld (F.DOOR_FRIC_CLOSE d.val b)

def Dev.fricMax (s : Dev) (d : Fin 2) (opening : Bool) : Nat := (upTo 64).foldl (fun m b => max m (s.fric d b opening)) 0

def Dev.stroke (s : Dev) (d : Fin 2) : Int := s.dod d 0 1

/-- The bin of a position: b * W / 64 ≤ POS < (b + 1) * W / 64, with the new W in a learning run (R175). -/
def Dev.binOf (s : Dev) (d : Fin 2) (p : Int) : Nat :=
  (clampI 0 63 (p * 64 / (if s.mState d = 8 then ((s.motion[d]).posDir : Int) else s.stroke d))).toNat

/-- A square root rounded to the nearest integer. -/
def roundSqrt (x : Nat) : Nat := (isqrt (4 * x) + 1) / 2

/-- The cap on speed for an energy of E mJ: floor(10⁶ √(2E/m)) µm/s (R173); without a mass the formula gives no bound. -/
def capSpeed (E m : Nat) : Option Nat := if m = 0 then none else some (isqrt (20000000000 * E / m))

/-- A_eff in µm/s² (R158). -/
def Dev.aEff (s : Dev) (d : Fin 2) (opening : Bool) : Int :=
  let a : Int := s.dod d 0 4
  let cap : Int := 10 * s.dod d 1 3
  let f : Int := s.fricMax d opening
  let m : Int := s.massOf d
  if cap ≤ f then 100000 else if m = 0 then a else min a (ndiv (800000 * (cap - f)) m)

/-- A_rev (R158). -/
def Dev.aRev (s : Dev) (d : Fin 2) : Int :=
  let a : Int := s.dod d 0 5
  let m : Int := s.massOf d
  if m = 0 then a else min a (ndiv (10000000 * s.dod d 1 3) m)

def Dev.nudging (s : Dev) (d : Fin 2) : Bool := s.flag (F.DOOR_MSTAT_NUDGE d.val)

/-- V_eff for a direction (R157): a nudge is under both energy caps. -/
def Dev.vEff (s : Dev) (d : Fin 2) (opening : Bool) : Int :=
  let v := if opening then s.dod d 0 2 else s.dod d 0 3
  let fb := s.fld (F.DOOR_STATUS_FBSRC d.val)
  let v1 := if fb = 2 then (v + 1) / 2 else if fb = 3 then (v + 2) / 4 else v
  let E := if s.nudging d then min (s.dod d 1 1) (min (s.dod d 1 2) (s.par 0x2708 2)) else min (s.dod d 1 1) (s.par 0x2708 1)
  if opening then v1 else match capSpeed E (s.massOf d) with | some c => min v1 c | none => v1

/-- ILIM in mA (R172). (DESIGN CHOICE, log 7) -/
def Dev.ilimOf (s : Dev) (d : Fin 2) : Nat :=
  let n : Nat := s.dod d 1 3 * 2000000
  if s.motKE d = 0 then w32 (Config.byZero n) else n / (3 * s.motKE d)

/-- The holding current I_h, reduced where MSTAT.REDUCED shows it (R163, R164). -/
def Dev.holdCur (s : Dev) (d : Fin 2) : Int :=
  let ih : Int := min (s.dod d 1 4) (s.ilimOf d)
  if s.flag (F.DOOR_MSTAT_REDUCED d.val) then quo (ih * (if s.mState d = 1 then s.dod d 1 5 else s.dod d 1 6)) 100 else ih

/-- The current limits of the door slot (R123, R163, R164, R172, R175): lower and upper, in mA. -/
def Dev.curLimits (s : Dev) (d : Fin 2) : Int × Int :=
  let il : Int := s.ilimOf d
  match s.mState d with
  | 0 => (0, 0)
  | 1 => (-(s.holdCur d), 0)
  | 2 => (0, s.holdCur d)
  | 8 => (-(quo il 2), quo il 2)
  | _ => (-il, il)

/-! ## Estimates (R165 to R167) -/

/-- The Clarke transform, scaled by 3: (2u - v - w, √3 (v - w)). -/
def clarke (x : Vector Int 3) : F64 × F64 :=
  (F64.ofInt (2 * x[0] - x[1] - x[2]), F64.mul (F64.sqrt (F64.ofInt 3)) (F64.ofInt (x[1] - x[2])))

/-- The 16-bit angle of a vector (assumption 4 for its last digit). -/
def angleOf (c : F64 × F64) : Nat :=
  (quoF (F64.div (F64.mul (F64.atan2 c.2 c.1) (F64.ofInt 65536)) (F64.mul (F64.ofInt 2) F64.pi)) % 65536).toNat

def magOf (c : F64 × F64) : F64 := F64.sqrt (F64.add (F64.mul c.1 c.1) (F64.mul c.2 c.2))

/-- A 16-bit signed difference of angles. -/
def angDiff (a b : Int) : Int := sx 16 ((a - b) % 65536).toNat

/-- Low mode holds (R167), with its two thresholds. -/
def Dev.lowMode (s : Dev) (d : Fin 2) : Bool :=
  let v := |(s.motion[d]).vr|
  if s.flag (F.DOOR_MSTAT_LOWMODE d.val) then decide (v < 55000) else decide (v < 50000)

/-- The estimates of the tick: EMF, load angle, EMF speed, motor force and external force (R165, R166), with the rotor angle that the
slot used for the vector committed in the previous tick; POS in sensorless operation (R167). The values times 125,000 keep the terms whole: v' in mV, R·i in µV, L·Δi/125 in mV. -/
def Dev.doorEstimate (s : Dev) (d : Fin 2) : Dev :=
  let t := s.motion[d]
  let i : Vector Int 3 := #v[s.rdI (R.DOOR_IU d.val), s.rdI (R.DOOR_IV d.val), s.rdI (R.DOOR_IW d.val)]
  let v : Vector Int 3 := #v[s.rdI (R.DOOR_VU d.val), s.rdI (R.DOOR_VV d.val), s.rdI (R.DOOR_VW d.val)]
  let tau : Int := s.fldF (F.DOOR_SENSE_VTAU d.val)
  let vec := (s.doors[d]).vec
  let vp : Vector Int 3 := Vector.ofFn fun x => 125000 * v[x] + 1000 * tau * (v[x] - t.vltPrev[x])
  let e : Vector Int 3 := Vector.ofFn fun x => vp[x] - 125 * (s.motR d * i[x]) - 1000 * (s.motL d * (i[x] - t.iPrev[x]))
  let ec := clarke e
  let ic := clarke i
  let th := angleOf ec
  let mag := F64.div (magOf ec) (F64.ofInt 375000)
  let turn := angDiff th t.theta
  let ve := F64.div (F64.mul (F64.mul mag (F64.ofInt (sgn turn))) (F64.ofInt 1000000)) (F64.ofInt (s.motKE d))
  let load := angDiff (angleOf (clarke vp)) th
  let want := (vec.angle : Int) - (vec.thr + vec.dir * 0x4000)
  let low := s.lowMode d
  let em := magOf ec
  let iq := if low then
      let ph := vec.thr + sgn t.vr * 0x4000
      F64.div (F64.add (F64.mul ic.1 (cosUnits ph)) (F64.mul ic.2 (sinUnits ph))) (F64.ofInt 3)
    else if F64.isZero em then F64.ofInt 0
    else F64.div (F64.div (F64.add (F64.mul ic.1 ec.1) (F64.mul ic.2 ec.2)) em) (F64.ofInt 3)
  let force := F64.div (F64.mul (F64.mul (F64.ofInt (3 * s.motKE d)) iq) (F64.ofInt 1)) (F64.ofInt 2000000)
  let ar := F64.div (F64.ofInt ((t.vr - t.vPrev) * 8000)) (F64.ofInt 1000000)
  let ma := F64.mul (F64.div (F64.ofInt (s.massOf d)) (F64.ofInt 10)) ar
  let ff := F64.div (F64.ofInt (sgn t.vr * s.fric d (s.binOf d (s.doorPos d)) (0 < t.vr))) (F64.ofInt 10)
  let fext := F64.mul (F64.ofInt (-(sgn t.vr))) (F64.sub (F64.sub force ma) ff)
  let s1 := s.setMo d fun t => { t with iPrev := i, vltPrev := v, theta := th, force := force, fext := fext, vemf := ve, deltaX := (angDiff load want).natAbs }
  let s2 := ((s1.wrN (R.DOOR_LOADANG d.val) (w32 load % 65536)).wrI (R.DOOR_EMFSPD d.val) (fitI 32 (quoF ve))).wrI (R.DOOR_FEXT d.val) (fitI 32 (quoF (F64.mul fext (F64.ofInt 10))))
  let was := s.flag (F.DOOR_MSTAT_LOWMODE d.val)
  let s3 := if was = low then s2 else s2.setMo d fun t => { t with runs := #v[t.runs[0], 0, 0, 0, t.runs[4]] }
  let s4 := s3.setFlag (F.DOOR_MSTAT_LOWMODE d.val) low
  if s.fld (F.DOOR_STATUS_FBSRC d.val) = 3 then
    s4.setDoor d fun u => { u with slPos := if low then 65536 * (t.xr - (s.rdF (R.DOOR_POSOFS d.val)).toInt - u.carry) else u.slPos + quoF (F64.div (F64.mul ve (F64.ofInt 65536)) (F64.ofInt 8000)) }
  else s4

/-! ## Commands (R160 to R162) -/

/-- The light curtain reads broken in the snapshot (R171). -/
def Dev.curtainOn (s : Dev) (d : Fin 2) : Bool :=
  let c := s.dod d 3 1
  decide (c < 52) && (s.inLevel c == (s.dod d 3 2 = 1))

/-- A command's direction: OPEN opens, CLOSE and NUDGE close; another target is compared with the reference, which lies 2,000 µm
beyond the end that holds it (R159, R161). -/
def Dev.cmdOpens (s : Dev) (d : Fin 2) (op : Nat) (x : Int) : Bool :=
  op = 1 || (op != 2 && op != 6 && decide (clampI 0 (s.stroke d) (s.motion[d]).xr < x))
def Dev.cmdCloses (s : Dev) (d : Fin 2) (op : Nat) (x : Int) : Bool :=
  op = 2 || op = 6 || (op != 1 && decide (x < clampI 0 (s.stroke d) (s.motion[d]).xr))

/-- Start the move of OPEN, CLOSE, MOVETO, RESUME or NUDGE; any command restores I_h (R164); a resumed move is no clean one (R176). -/
def Dev.doorMove (s : Dev) (d : Fin 2) (op : Nat) (x : Int) (tag : Nat) : Dev :=
  let opening := s.cmdOpens d op x
  let nudge := decide (op = 6)
  let s1 := s.setMo d fun t => { t with tgt := some x, slowAt := none, stillAt := none, runs := Vector.replicate 5 0, clean := op != 5, bins := [], sumFA := {}, sumAA := {}, opened := t.opened || opening, stopCode := 0, curtain := s.curtainOn d }
  let s2 := (((s1.setFlag (F.DOOR_MSTAT_NUDGE d.val) nudge).setFlag (F.DOOR_MSTAT_REDUCED d.val) false).setFlag (F.DOOR_MSTAT_KEPT d.val) false).mSet d (if opening then 3 else 4)
  (s2.mCode d 0).setFld (F.DOOR_MSTAT_TAG d.val) tag

/-- A command is rejected: code, TAG, event 0x2010; the motion in progress goes on (R161), and I_h is restored (R164). -/
def Dev.doorReject (s : Dev) (d : Fin 2) (code tag : Nat) : Dev :=
  let s1 := (s.setFlag (F.DOOR_MSTAT_REDUCED d.val) false).setMo d fun t => { t with stillAt := none }
  ((s1.mCode d code).setFld (F.DOOR_MSTAT_TAG d.val) tag).log 0x2010 d.val code tag

/-- Quarantine bars every master but 5 (R161, check 1). -/
def Dev.doorBarred (s : Dev) (m : Master) : Bool := s.quarantined && m != 5

/-- The target that a command names: OPEN W, CLOSE and NUDGE 0, MOVETO its operand, RESUME the kept target. -/
def Dev.doorTarget (s : Dev) (d : Fin 2) (op : Nat) (mtgt : Word) : Option Int :=
  match op with
  | 1 => some (s.stroke d)
  | 2 => some 0
  | 3 => some mtgt.toInt
  | 5 => if s.flag (F.DOOR_MSTAT_KEPT d.val) then (s.motion[d]).tgt else none
  | 6 => some 0
  | _ => none

/-- The checks of R161, in order: the first failing one gives the code. -/
def Dev.doorCheck (s : Dev) (m : Master) (d : Fin 2) (op : Nat) (mtgt : Word) : Option Nat :=
  let x := s.doorTarget d op mtgt
  let opening : Bool := match x with | some y => s.cmdOpens d op y | none => false
  let closing : Bool := match x with | some y => s.cmdCloses d op y | none => false
  let st := s.mState d
  if s.doorBarred m then some 0x1B
  else if op = 0 ∨ 8 < op then some 0x1C
  else if op ≠ 7 ∧ op ≠ 8 ∧ s.flag (F.DOOR_MSTAT_LEARNED d.val) = false then some 0x16
  else if op = 8 ∧ (s.level = 0 ∨ (st ≠ 0 ∧ st ≠ 1)) then some 0x16
  else if s.flag (F.DOOR_STATUS_DRVEN d.val) = false then some 0x12
  else if s.flag (F.DOOR_STATUS_POSVALID d.val) = false then some 0x15
  else if op = 3 ∧ (mtgt.toInt < 0 ∨ s.stroke d < mtgt.toInt) then some 0x13
  else if op = 5 ∧ x = none then some 0x14
  else if (opening ∨ op = 8) ∧ s.flag (F.DOOR_ZONE_OPENOK d.val) = false then some 0x10
  else if opening ∧ s.flag (F.DOOR_ZONE_LOCKED d.val) then some 0x11
  else if (op = 2 ∨ ((op = 3 ∨ op = 5) ∧ closing)) ∧ s.curtainOn d then some 0x18
  else if (op = 2 ∨ op = 6 ∨ op = 3 ∨ op = 5) ∧ (s.motion[d]).revTick = some s.tick then some 0x17
  else none

/-- An accepted command without a new target: code 0, TAG, I_h restored. -/
def Dev.doorAck (s : Dev) (d : Fin 2) (tag : Nat) : Dev :=
  (((s.mCode d 0).setFld (F.DOOR_MSTAT_TAG d.val) tag).setFlag (F.DOOR_MSTAT_REDUCED d.val) false).setMo d fun t => { t with stillAt := none }

/-- PAUSE (R162): decelerate and keep the target; during learning it aborts the run (R175). -/
def Dev.doorPause (s : Dev) (d : Fin 2) (tag : Nat) : Dev :=
  let st := s.mState d
  let s1 := s.doorAck d tag
  if st = 8 then s1.learnDoorAbort d 1
  else if st = 3 ∨ st = 4 ∨ st = 7 then (s1.setMo d fun t => { t with stopCode := 2, clean := false, vStop := 8000 * t.vr }).mSet d 5
  else s1

/-- RELEASE: the target is discarded, the current limits are 0, the state is IDLE (R160). -/
def Dev.doorRelease (s : Dev) (d : Fin 2) (tag : Nat) : Dev :=
  let s0 := if s.mState d = 8 then s.learnDoorAbort d 1 else s
  let s1 := (s0.doorAck d tag).setMo d fun t => { t with tgt := none, xr := s.doorPos d, vr := 0 }
  ((s1.setFlag (F.DOOR_MSTAT_KEPT d.val) false).setFlag (F.DOOR_MSTAT_NUDGE d.val) false).mSet d 0

/-- LEARN begins: close at 50,000 µm/s (R175). -/
def Dev.doorLearnStart (s : Dev) (d : Fin 2) (tag : Nat) : Dev :=
  let s1 := (s.doorAck d tag).setMo d fun t => { t with step := 1, lrnBins := [], sumFA := {}, sumAA := {}, slowAt := none, tgt := some (t.xr - 10000000) }
  s1.mSet d 8

/-- Adopt a door command (R160, R161). -/
def Dev.doorCmd (s : Dev) (m : Master) (d : Fin 2) (op : Nat) (mtgt : Word) (tag : Nat) : Dev :=
  match s.doorCheck m d op mtgt with
  | some c => s.doorReject d c tag
  | none =>
    match op with
    | 4 => s.doorPause d tag
    | 7 => s.doorRelease d tag
    | 8 => s.doorLearnStart d tag
    | _ =>
      let s1 := match s.doorTarget d op mtgt with | some x => s.doorMove d op x tag | none => s
      s1.abandonTorque

/-- The row DOOR_UNKNOWN_OP; the listed OPs have rows of their own. -/
def Dev.doorUnknown (s : Dev) (m : Master) (d : Fin 2) (op tag : Nat) : Dev :=
  if 1 ≤ op ∧ op ≤ 8 then s else s.doorCmd m d op 0 tag

/-! ## The reference (R156) -/

/-- One step of a speed towards another by at most `a`. -/
def toward (v w a : Int) : Int := if v + a < w then v + a else if w < v - a then v - a else w

/-- The same with the speeds in µm/s and the limit in µm/s², over one tick; the result is rounded (R156). -/
def towardTick (v w A : Int) : Int := ndiv (toward (8000 * v) (8000 * w) A) 8000

/-- Advance (x_r, v_r) towards a target under V and A. -/
def refStep (x v tgt V A : Int) : Int × Int :=
  let dl := tgt - x
  let va := sgn dl * min V (roundSqrt (2 * A.natAbs * dl.natAbs))
  let v1 := if V < |v| then sgn v * V else towardTick v va A
  let x1 := ndiv (16000 * x + v + v1) 16000
  if (0 ≤ dl ∧ tgt ≤ x1) ∨ (dl ≤ 0 ∧ x1 ≤ tgt) then (tgt, 0) else (x1, v1)

/-- Decelerate to standstill at A, with the speed kept in 1/8,000 µm/s, so that the stop takes the time of the example after R173.
(DEDUCED, log 125) -/
def Dev.refStop (s : Dev) (d : Fin 2) (A : Int) : Dev :=
  let t := s.motion[d]
  let w := toward t.vStop 0 A
  let v1 := ndiv w 8000
  s.setMo d fun t => { t with vPrev := t.vr, xr := ndiv (16000 * t.xr + t.vr + v1) 16000, vr := v1, vStop := w }

/-- Speed and acceleration limit of a learning step (R175). -/
def Dev.learnLimits (s : Dev) (d : Fin 2) (opening : Bool) : Int × Int :=
  match (s.motion[d]).step with
  | 1 => (50000, s.aEff d opening)
  | 2 => (50000, s.aEff d opening)
  | 5 => (250000, 500000)
  | _ => (100000, s.aEff d opening)

/-- Put the reference of the tick. -/
def Dev.putRef (s : Dev) (d : Fin 2) (r : Int × Int) : Dev := s.setMo d fun t => { t with vPrev := t.vr, xr := r.1, vr := r.2 }

/-- A stop under way has reached standstill (R162, R170): PAUSED with the target kept. -/
def Dev.stopDone (s : Dev) (d : Fin 2) : Dev :=
  if (s.motion[d]).vr = 0 then ((s.mSet d 6).mCode d (s.motion[d]).stopCode).setFlag (F.DOOR_MSTAT_KEPT d.val) true else s

/-- A reversal has reached zero speed: OPENING with A_eff (R169). -/
def Dev.reversalDone (s : Dev) (d : Fin 2) : Dev :=
  if s.mState d = 7 ∧ (s.motion[d]).vr = 0 then (s.mSet d 3).setMo d fun t => { t with runs := Vector.replicate 5 0, slowAt := none, opened := true } else s

/-- The row REVERSAL_COMPLETE: zero speed ends a reversal in OPENING, and the stop of an opening door in PAUSED (R169, R170). -/
def Dev.reversalRow (s : Dev) (d : Fin 2) : Dev := if s.mState d = 5 then s.stopDone d else s.reversalDone d

/-- The reference of the tick, by state (R156, R159, R162, R169, R170); in the tick of an obstruction it stays at (POS, SPEED). -/
def Dev.doorReference (s : Dev) (d : Fin 2) : Dev :=
  let t := s.motion[d]
  let opening : Bool := match t.tgt with | some x => decide (t.xr < x) | none => decide (0 < t.vr)
  let arev := s.aRev d
  match s.mState d with
  | 0 => s.putRef d (s.doorPos d, 0)
  | 1 => s.putRef d (-2000, 0)
  | 2 => s.putRef d (s.stroke d + 2000, 0)
  | 5 => if t.restTick = some s.tick then s else (s.refStop d (if t.stopCode = 5 then arev else s.aEff d (0 < t.vr))).stopDone d
  | 6 => s.putRef d (t.xr, 0)
  | 7 => if t.restTick = some s.tick then s else (s.refStop d arev).reversalDone d
  | 8 => let l := s.learnLimits d opening
         s.putRef d (refStep t.xr t.vr (t.tgt.getD t.xr) l.1 l.2)
  | _ => s.putRef d (refStep t.xr t.vr (t.tgt.getD t.xr) (s.vEff d opening) (s.aEff d opening))

/-- The registers of the motion. -/
def Dev.doorShow (s : Dev) (d : Fin 2) : Dev :=
  let t := s.motion[d]
  let opening : Bool := match t.tgt with | some x => decide (t.xr < x) | none => decide (0 < t.vr)
  let s1 := ((s.wrI (R.DOOR_REFPOS d.val) t.xr).wrI (R.DOOR_REFSPD d.val) t.vr).wrI (R.DOOR_REMAIN d.val) (match t.tgt with | some x => x - t.xr | none => 0)
  ((s1.wrI (R.DOOR_VLIM d.val) (s.vEff d opening)).wrN (R.DOOR_ILIM d.val) (s.ilimOf d)).wrN (R.DOOR_MASS d.val) (s.massOf d)

/-- The reference speed that the slot takes (R159): v_r + G (x_r - POS), clipped to ±V_eff. -/
def Dev.doorRefSpeed (s : Dev) (d : Fin 2) : Int :=
  let t := s.motion[d]
  let V := (s.rd (R.DOOR_VLIM d.val)).toNat
  clampI (-V) V (t.vr + s.dod d 0 6 * (t.xr - s.doorPos d))

/-! ## Obstruction (R168 to R171) -/

/-- The end of the stroke that a position of the target belongs to, if any. -/
def Dev.inEndZone (s : Dev) (d : Fin 2) : Bool :=
  match (s.motion[d]).tgt with
  | some x => decide (|s.doorPos d - x| ≤ (s.dod d 2 7 : Int))
  | none => false

/-- The target is an end of the stroke: only there the criteria rest (R163). -/
def Dev.endTarget (s : Dev) (d : Fin 2) : Bool :=
  match (s.motion[d]).tgt with
  | some x => x = 0 || x = s.stroke d || s.mState d = 8
  | none => false

/-- The slot is clipped at ILIM (R168). -/
def Dev.slotClipped (s : Dev) (d : Fin 2) : Bool :=
  let n : Fin 16 := if d = 0 then 1 else 2
  let y := (s.ceng.slot[n]).yLast
  let il : Int := 65536 * (s.ilimOf d)
  (s.flag (F.CENG_SLOT_STATUS_SATHI n.val) && y = il) || (s.flag (F.CENG_SLOT_STATUS_SATLO n.val) && y = -il)

/-- Whether the criteria are evaluated now: OPENING, CLOSING and NUDGE, outside the end zone; in a learning run once both ends are
known (R168, R175). (DEDUCED, log 125) -/
def Dev.critOn (s : Dev) (d : Fin 2) : Bool :=
  (s.mState d = 3 || s.mState d = 4 || (s.mState d = 8 && decide (3 ≤ (s.motion[d]).step))) && !(s.endTarget d && s.inEndZone d)

/-- Criterion `c` (0 force, 1 EMF speed, 2 load angle, 3 mismatch, 4 stall) holds in this tick (R168). -/
def Dev.critHolds (s : Dev) (d : Fin 2) (c : Fin 5) : Bool :=
  let t := s.motion[d]
  let low := s.flag (F.DOOR_MSTAT_LOWMODE d.val)
  let fb := s.fld (F.DOOR_STATUS_FBSRC d.val)
  match c.val with
  | 0 => F64.le (F64.ofInt (s.dod d 2 1)) t.fext
  | 1 => !low && F64.lt (F64.mul (F64.ofInt (100 * sgn t.vr)) t.vemf) (F64.ofInt (s.dod d 2 3 * |t.vr|))
  | 2 => !low && decide (s.dod d 2 4 ≤ t.deltaX)
  | 3 => low && (fb = 1 || fb = 2) && decide ((s.dod d 2 5 : Int) ≤ |s.doorPos d - t.xr|)
  | _ => decide (|s.doorSpeed d| < 5000) && s.slotClipped d

/-- The number of ticks from the first to the tripping one, N (R168). -/
def Dev.critN (s : Dev) (d : Fin 2) (c : Fin 5) : Nat := if c = 4 then 8 * s.dod d 2 8 else 8 * s.dod d 2 2

/-- The runs of the criteria in a tick. -/
def Dev.critWatch (s : Dev) (d : Fin 2) : Dev :=
  let on := s.critOn d
  s.setMo d fun t => { t with runs := Vector.ofFn fun c => if on && s.critHolds d c then t.runs[c] + 1 else 0 }

/-- The cause code of a criterion: 1 to 4, and 6 for the stall. -/
def causeCode (c : Fin 5) : Nat := if c = 4 then 6 else c.val + 1

/-- A criterion has tripped. -/
def Dev.critTripped (s : Dev) (d : Fin 2) (c : Fin 5) : Bool := decide (s.critN d c < (s.motion[d]).runs[c])

/-- The reference restarts at (POS, SPEED) (R169, R170). -/
def Dev.refRestart (s : Dev) (d : Fin 2) : Dev := s.setMo d fun t => { t with xr := s.doorPos d, vr := s.doorSpeed d, vPrev := s.doorSpeed d, vStop := 8000 * s.doorSpeed d, restTick := some s.tick, clean := false }

/-- A closing door reverses (R169): target W, REVERSING, the code and the cause. -/
def Dev.doorReverse (s : Dev) (d : Fin 2) (code cause : Nat) : Dev :=
  let s1 := (s.refRestart d).setMo d fun t => { t with tgt := some (s.stroke d), revTick := some s.tick, runs := Vector.replicate 5 0, slowAt := none }
  ((((s1.mSet d 7).mCode d code).setFld (F.DOOR_MSTAT_CAUSE d.val) cause).setFlag (F.DOOR_MSTAT_NUDGE d.val) false).tally (11 + d.val) 1

/-- An opening door stops, then holds its target (R170). -/
def Dev.doorBlock (s : Dev) (d : Fin 2) (cause : Nat) : Dev :=
  let s1 := (s.refRestart d).setMo d fun t => { t with stopCode := 5, runs := Vector.replicate 5 0 }
  ((s1.mSet d 5).setFld (F.DOOR_MSTAT_CAUSE d.val) cause).tally (11 + d.val) 1

/-- A tripped criterion takes effect: events 0x2011 and, for the stall, 0x2013; a learning run is aborted (R169, R170, R175). -/
def Dev.obstruct (s : Dev) (d : Fin 2) (c : Fin 5) : Dev :=
  let st := s.mState d
  if s.critTripped d c ∧ (st = 3 ∨ st = 4 ∨ st = 8) then
    let s0 := s.log 0x2011 d.val (causeCode c) (w32 (quoF (F64.mul (s.motion[d]).fext (F64.ofInt 10))))
    let s1 := if c = 4 then s0.log 0x2013 d.val (w32 (s.doorPos d)) st else s0
    if st = 8 then s1.learnDoorAbort d 1 else if st = 4 then s1.doorReverse d (if c = 4 then 0x20 else 3) (causeCode c) else s1.doorBlock d (causeCode c)
  else s

/-- The row OBSTRUCTION_TRIP: the criterion that a cause code names. -/
def Dev.obstructBy (s : Dev) (d : Fin 2) (cause : Nat) : Dev :=
  match (List.finRange 5).find? fun (c : Fin 5) => causeCode c == cause with
  | some c => s.obstruct d c
  | none => s

/-- The row LIGHT_CURTAIN_ACTIVE: the curtain, active in the snapshot, reverses a closing door, NUDGE apart, with cause 5 (R171). -/
def Dev.curtainTrip (s : Dev) (d : Fin 2) : Dev :=
  if s.mState d = 4 ∧ s.nudging d = false ∧ s.curtainOn d then
    (s.doorReverse d 4 5).log 0x2012 d.val (w32 (s.doorPos d)) (w32 (s.motion[d]).vr)
  else s

/-- The light curtain becomes active in this tick: it did not read active in the tick before (R171). -/
def Dev.curtainWatch (s : Dev) (d : Fin 2) : Dev :=
  let s1 := if (s.motion[d]).curtain then s else s.curtainTrip d
  s1.setMo d fun t => { t with curtain := s.curtainOn d }

/-! ## Ends and holding (R163, R164) -/

/-- Where the speed has been low: since which cycle in the end zone, and since which while holding; a move with another source than the
encoder is no clean one (R163, R164, R176). -/
def Dev.slowWatch (s : Dev) (d : Fin 2) : Dev :=
  let slow := decide (|s.doorSpeed d| < 5000)
  let st := s.mState d
  let near := ((st = 3 || st = 4) && s.inEndZone d) || st = 8
  let held := st = 1 || st = 2
  let s1 := s.setMo d fun t => { t with slowAt := if slow && near then some (t.slowAt.getD s.now) else none, stillAt := if slow && held then some (t.stillAt.getD s.now) else none, clean := t.clean && s.fld (F.DOOR_STATUS_FBSRC d.val) = 1 }
  if held && !slow then s1.setFlag (F.DOOR_MSTAT_REDUCED d.val) false else s1

/-- The arrival rule holds: |SPEED| < 5,000 µm/s throughout 100 ms in the end zone. -/
def Dev.arrivedAt (s : Dev) (d : Fin 2) : Bool :=
  match (s.motion[d]).slowAt with | some c => decide (c + 100 * msCyc ≤ s.now) | none => false

/-- POSOFS takes up what makes POS read a value (R163, R175). -/
def Dev.posTo (s : Dev) (d : Fin 2) (x : Int) : Dev :=
  let c := x - s.doorPos d
  (s.wrI (R.DOOR_POSOFS d.val) (fitI 32 (s.rdI (R.DOOR_POSOFS d.val) + c))).wrI (R.DOOR_POS d.val) x

/-- The friction bins of a clean move move towards their means (R176). -/
def Dev.refreshBin (s : Dev) (d : Fin 2) (b : Nat) (x : BinSum) : Dev :=
  let opening := b < 64
  let i := b % 64
  let old : Int := s.fric d i opening
  let mean := F64.div (F64.mul x.f (F64.ofInt 10)) (F64.ofInt x.n)
  let st := clampI (-20) 20 (quoF (F64.div (F64.sub mean (F64.ofInt old)) (F64.ofInt 8)))
  let v := (clampI 0 65535 (old + st)).toNat
  if opening then s.setFld (F.DOOR_FRIC_OPEN d.val i) v else s.setFld (F.DOOR_FRIC_CLOSE d.val i) v

/-- The mass sample of the move (R176), in 0.1 kg. -/
def Dev.massSample (s : Dev) (d : Fin 2) : Int :=
  let t := s.motion[d]
  quoF (F64.mul (F64.div t.sumFA t.sumAA) (F64.ofInt 10))

/-- The mass of the present landing takes the sample, or the sample is rejected (R176). -/
def Dev.refreshMass (s : Dev) (d : Fin 2) : Dev :=
  match s.zoneOf (s.rdI R.POSX_FUSE_POS) with
  | none => s
  | some i =>
    if F64.isZero (s.motion[d]).sumAA then s
    else
      let m : Int := s.massL d i
      let ms := s.massSample d
      if m ≤ 2 * ms ∧ ms ≤ 2 * m then
        let m1 := if m ≤ ms then ms else m + quo (ms - m) 8
        let s1 := s.setFld (F.DOOR_MASSL_MASS d.val i) (clampI 0 65535 m1).toNat
        if m1 = m then s1 else s1.log 0x2015 d.val i (w32 m1)
      else s.log 0x2014 d.val i (w32 ms)

/-- The learned values are refreshed after a clean arrival with the encoder (R176). -/
def Dev.refreshLearned (s : Dev) (d : Fin 2) : Dev :=
  if (s.motion[d]).clean ∧ s.fld (F.DOOR_STATUS_FBSRC d.val) = 1 then
    ((s.motion[d]).bins.foldl (fun e b => e.refreshBin d b.1 b.2) s).refreshMass d
  else s

/-- The sums of a high-mode tick (R175, R176): a_r = 0 feeds the bin, a_r ≠ 0 the mass. -/
def Dev.learnSums (s : Dev) (d : Fin 2) : Dev :=
  let t := s.motion[d]
  let st := s.mState d
  if s.flag (F.DOOR_MSTAT_LOWMODE d.val) ∨ t.vr = 0 ∨ ¬ (st = 3 ∨ st = 4 ∨ st = 8) then s
  else
    let opening := decide (0 < t.vr)
    let i := s.binOf d (s.doorPos d)
    let key := if opening then i else i + 64
    let dv := t.vr - t.vPrev
    let mag := F64.mul (F64.ofInt (sgn t.vr)) t.force
    if dv = 0 then
      let put (l : List (Nat × BinSum)) : List (Nat × BinSum) :=
        let b := alGet l key {}
        alSet l key { f := F64.add b.f mag, n := b.n + 1 }
      s.setMo d fun t => if st = 8 then (if t.step = 3 ∨ t.step = 4 then { t with lrnBins := put t.lrnBins } else t) else { t with bins := put t.bins }
    else
      let a := F64.div (F64.ofInt (dv * 8000)) (F64.ofInt 1000000)
      let fr := match (if st = 8 then (t.lrnBins.find? (fun b => b.1 == key)) else none) with
        | some b => F64.div b.2.f (F64.ofInt b.2.n)
        | none => F64.div (F64.ofInt (s.fric d i opening)) (F64.ofInt 10)
      let f := F64.sub t.force (F64.mul (F64.ofInt (sgn t.vr)) fr)
      s.setMo d fun t => { t with sumFA := F64.add t.sumFA (F64.mul f a), sumAA := F64.add t.sumAA (F64.mul a a) }

/-- The door has arrived (R163): CLOSED, OPEN, or standstill at a target within the stroke; code 0x01. -/
def Dev.doorArrival (s : Dev) (d : Fin 2) : Dev :=
  let st := s.mState d
  let t := s.motion[d]
  match t.tgt with
  | some x =>
    if (st = 3 ∨ st = 4) ∧ s.arrivedAt d then
      let s0 := s.refreshLearned d
      let s1 := ((s0.setMo d fun t => { t with tgt := none, slowAt := none, stillAt := none }).mCode d 1).setFlag (F.DOOR_MSTAT_NUDGE d.val) false
      if x = 0 then
        let c := -(s.doorPos d)
        let s2 := (s1.posTo d 0).mSet d 1
        let s3 := if 2000 < |c| then s2.log 0x2017 d.val (w32 c) 0 else s2
        let s4 := if t.opened then s3.tally (9 + d.val) 1 else s3
        s4.setMo d fun t => { t with opened := false }
      else if x = s.stroke d then s1.mSet d 2
      else s1.mSet d 6
    else s
  | none => s

/-- The holding limit falls after the delay (R164). -/
def Dev.holdReduce (s : Dev) (d : Fin 2) : Dev :=
  match (s.motion[d]).stillAt with
  | some c => if (s.mState d = 1 ∨ s.mState d = 2) ∧ c + s.dod d 1 7 * msCyc ≤ s.now then s.setFlag (F.DOOR_MSTAT_REDUCED d.val) true else s
  | none => s

/-! ## The door zone (R174) -/

/-- Turn an opening move into CLOSE when OPENOK has become 0. -/
def Dev.openToClose (s : Dev) (d : Fin 2) : Dev :=
  let st := s.mState d
  let t := s.motion[d]
  let openTgt : Bool := match t.tgt with | some x => decide (s.doorPos d < x) | none => false
  if st = 3 ∨ (st = 5 ∧ openTgt) then
    let s1 := ((s.setMo d fun t => { t with tgt := some 0, slowAt := none, runs := Vector.replicate 5 0 }).mSet d 4).mCode d 6
    s1.log 0x2018 d.val (w32 (s.doorPos d)) 0
  else s

/-- A write of ZONE by the safety runtime. -/
def Dev.zoneWrite (s : Dev) (m : Master) (d : Fin 2) (val : Word) : Dev :=
  if m = 5 then
    let was := s.flag (F.DOOR_ZONE_OPENOK d.val)
    let s1 := (s.setFlag (F.DOOR_ZONE_OPENOK d.val) (bitN val.toNat 0)).setFlag (F.DOOR_ZONE_LOCKED d.val) (bitN val.toNat 1)
    if was ∧ bitN val.toNat 0 = false then s1.openToClose d else s1
  else s

/-! ## Learning (R175) -/

/-- A bin of the learned friction, in 0.1 N. -/
def Dev.learnBin (s : Dev) (d : Fin 2) (b : Nat) (x : BinSum) : Dev :=
  let v := (clampI 0 65535 (quoF (F64.div (F64.mul x.f (F64.ofInt 10)) (F64.ofInt x.n)))).toNat
  if b < 64 then s.setFld (F.DOOR_FRIC_OPEN d.val b) v else s.setFld (F.DOOR_FRIC_CLOSE d.val (b % 64)) v

/-- The run has ended well: stroke, friction, mass, LEARNED (R175). -/
def Dev.learnDoorDone (s : Dev) (d : Fin 2) : Dev :=
  let t := s.motion[d]
  let m := (clampI 0 65535 (s.massSample d)).toNat
  let here := s.zoneOf (s.rdI R.POSX_FUSE_POS)
  let s1 := s.odPut (0x2300 + 16 * d.val) 1 (w32 t.posDir)
  let s2 := t.lrnBins.foldl (fun e b => e.learnBin d b.1 b.2) s1
  let s3 := (upTo 128).foldl (fun e i => if here = some i ∨ e.massLearned d i = false then
      (e.setFld (F.DOOR_MASSL_MASS d.val i) m).setFlag (F.DOOR_MASSL_LEARNED d.val i) true else e) s2
  let s4 := (s3.setFlag (F.DOOR_MSTAT_LEARNED d.val) true).setMo d fun t => { t with step := 0, tgt := none, lrnBins := [], slowAt := none }
  ((s4.mSet d 1).mCode d 1).log 0x2016 d.val 0 t.posDir

/-- A learning step ends by the arrival rule, and the next one starts (R175). -/
def Dev.learnDoorStep (s : Dev) (d : Fin 2) : Dev :=
  let t := s.motion[d]
  let go (e : Dev) (n : Nat) (x : Int) : Dev := e.setMo d fun t => { t with step := n, tgt := some x, slowAt := none, xr := e.doorPos d, vr := 0 }
  if s.mState d = 8 ∧ s.arrivedAt d then
    match t.step with
    | 1 => go (s.posTo d 0) 2 100000000
    | 2 =>
      if s.doorPos d ≤ 0 then s.learnDoorAbort d 2
      else go (s.setMo d fun t => { t with posDir := (s.doorPos d).toNat }) 3 0
    | 3 => go s 4 t.posDir
    | 4 => go (s.setMo d fun t => { t with sumFA := {}, sumAA := {} }) 5 0
    | 5 => s.learnDoorDone d
    | _ => s
  else s

/-! ## The door in a tick -/

/-- The waiting command is adopted (R160), after a reversal of the same tick (R171). -/
def Dev.doorAdopt (s : Dev) (d : Fin 2) : Dev :=
  match (s.motion[d]).pend with
  | some c =>
    let w := c.word.toNat
    (s.setMo d fun t => { t with pend := none }).doorCmd c.m d (w % 16) c.tgt (w / 2 ^ 24)
  | none => s

/-- A door unit in the tick: sensing, feedback, estimates, obstruction and curtain, the command, the reference, the ends. -/
def Dev.doorTick (s : Dev) (d : Fin 2) : Dev :=
  let s1 := ((((s.doorSense d).doorFeedback d).drvenUpdate d).drvenRise d).alignAdopt d
  let s2 := ((((s1.doorEstimate d).learnSums d).slowWatch d).critWatch d).alignStep d
  let s3 := ((List.finRange 5).foldl (fun e c => e.obstruct d c) s2).curtainWatch d
  let s4 := ((s3.doorAdopt d).doorReference d).doorShow d
  ((s4.doorArrival d).holdReduce d).learnDoorStep d

end Sys2Proof.Machine
end

