-- ==== Sys2Proof/Machine/Ceng.lean ====
section
/-! DEFINITION. CENG (R113 to R132): the schedule, the wiring, the control law, the two coefficient banks, following error and
overruns. Quantities of the law carry 16 fraction bits in 64-bit accumulators (R120). -/

namespace Sys2Proof.Machine

def Dev.setSlot (s : Dev) (n : Fin 16) (f : SlotSt → SlotSt) : Dev := { s with ceng := { s.ceng with slot := vmod s.ceng.slot n f } }

/-! ## Schedule (R113 to R116) -/

/-- Execution time of a slot in fabric cycles (R113). -/
def slotTime (n : Nat) : Nat := if n = 0 then 3000 else if n ≤ 2 then 6000 else 2000

/-- A configuration word's slot is due in ticks k with k mod 64 = r (R115). -/
def slotDueIn (n : Nat) (cfg : Word) (r : Nat) : Bool :=
  if n ≤ 2 then true
  else
    let div := 2 ^ (cfg.toNat / 2 ^ 25 % 8)
    r % div = cfg.toNat / 2 ^ 19 % 64

/-- EN of a configuration word. -/
def cfgEn (cfg : Word) : Bool := bitN cfg.toNat 31

/-- The load L(r) of a set of configuration words (R116). -/
def loadAt (cfg : Nat → Word) (r : Nat) : Nat :=
  (upTo 16).foldl (fun a n => if cfgEn (cfg n) && slotDueIn n (cfg n) r then a + slotTime n else a) 0

/-- The largest L(r). -/
def worstLoad (cfg : Nat → Word) : Nat := (upTo 64).foldl (fun a r => max a (loadAt cfg r)) 0

/-- The largest L(r) of the configuration in force, shown in CENG.SCHED from the sample point on (R24, R116). -/
def Dev.schedShow (s : Dev) : Dev := s.setFld F.CENG_SCHED_LOAD (worstLoad fun n => s.rdF (R.CENG_SLOT_CFG n))

/-- A configuration is refused: CFGERR, its interrupt flag, event 0x1302 (R116, R126). -/
def Dev.cfgRefuse (s : Dev) (n reason worst : Nat) : Dev :=
  ((s.setFlag F.CENG_STATUS_CFGERR true).setFlag F.CENG_IRQ_CFGERR true).log 0x1302 n reason worst

/-- A bank holds OUTMIN > OUTMAX. -/
def Dev.bankBad (s : Dev) (n : Nat) (b : Nat) : Bool :=
  decide (s.rdI (R.CENG_SLOT_OUTMAX_A n + 32 * b) < s.rdI (R.CENG_SLOT_OUTMIN_A n + 32 * b))

/-- The bank of a slot in force. -/
def Dev.bankAct (s : Dev) (n : Nat) : Nat := b2n (bitN (s.rd R.CENG_BANKACT).toNat n)

/-- The word that a write to SLOT[n].CFG leaves (R113, R115): KIND and, for slots 0 to 2, DIVSEL and PHASE are fixed,
EXTRAP exists for SLOT[0] only, a DIVSEL of 7 is ignored. -/
def Dev.cfgWritten (s : Dev) (n : Nat) (val : Word) : Word :=
  let old := s.rd (R.CENG_SLOT_CFG n)
  let keep (w : Word) (hi lo : Nat) : Word := (w &&& ~~~ BitVec.ofNat 32 (bitMask hi lo)) ||| (old &&& BitVec.ofNat 32 (bitMask hi lo))
  let w0 := keep (keep (keep val 30 28) 10 8) 3 0
  let w1 := if n ≤ 2 then keep w0 27 19 else if val.toNat / 2 ^ 25 % 8 = 7 then keep w0 27 25 else w0
  if n = 0 then w1 else keep w1 17 17

/-- A write to SLOT[n].CFG (R116, R126): the schedule check, PHASE < DIV, and the limits at enable. -/
def Dev.slotCfgWrite (s : Dev) (n : Fin 16) (val : Word) : Dev :=
  let i := n.val
  let old := s.rd (R.CENG_SLOT_CFG i)
  let w := s.cfgWritten i val
  let s1 := s.wr (R.CENG_SLOT_CFG i) w
  let worst := worstLoad fun k => s1.rd (R.CENG_SLOT_CFG k)
  let changed := cfgEn w != cfgEn old || w.toNat / 2 ^ 19 % 512 != old.toNat / 2 ^ 19 % 512
  if changed ∧ 2 ^ (w.toNat / 2 ^ 25 % 8) ≤ w.toNat / 2 ^ 19 % 64 ∧ 2 < i then s.cfgRefuse i 4 worst
  else if changed ∧ 24000 < worst then s.cfgRefuse i 1 worst
  else if cfgEn w ∧ cfgEn old = false ∧ s.bankBad i (s.bankAct i) then s.cfgRefuse i 2 worst
  else s1

/-! ## Wiring (R117 to R119) -/

/-- A code of R117. -/
def srcKnown (c : Nat) : Bool :=
  c ≤ 0x0D || (0x10 ≤ c && c ≤ 0x17) || (0x20 ≤ c && c ≤ 0x2B) || c = 0x30

/-- A phase missed its deadline in the present tick (R35). (DEDUCED, log 17) -/
def Dev.missed (s : Dev) (p : Fin 9) : Bool := s.missTick[p] = s.tick + 1

/-- A drive status has arrived within 0x2210:07 (R118). -/
def Dev.driveFresh (s : Dev) : Bool :=
  match s.pgen.statAt with | some c => decide (s.now < c + s.od? 0x2210 7 * msCyc) | none => false

/-- The value of a source and its validity when CENG latches it in phase 3, or when the slot starts for a VAR (R117, R118,
R119). (DEDUCED, log 18) -/
def Dev.srcValue (s : Dev) (c : Nat) : Int × Bool :=
  let p3 := !s.missed 3
  let pg := p3 && !s.missed 2
  let fu := p3 && !s.missed 0 && !s.missed 1 && s.flag F.POSX_FUSE_STATUS_VALID
  let cn := p3 && !s.missed 0
  if c = 0 then (0, true)
  else if c ≤ 3 then (s.rdI (R.PGEN_REF_POS + 4 * (c - 1)), pg)
  else if c = 4 then (s.rdI R.POSX_FUSE_POS, fu)
  else if c = 5 then (s.rdI R.POSX_FUSE_SPEED, fu)
  else if c ≤ 9 then (s.rdI (R.POSX_CNT_POS (c - 6)), cn)
  else if c ≤ 0x0D then (s.rdI (R.POSX_CNT_SPEED (c - 10)), cn)
  else if c ≤ 0x17 then
    let d : Fin 2 := if c < 0x14 then 0 else 1
    let v := match c % 4 with
      | 0 => (s.motion[d]).xr
      | 1 => s.doorRefSpeed d
      | 2 => s.doorPos d
      | _ => s.doorSpeed d
    (v, p3 && s.flag (F.DOOR_STATUS_POSVALID d.val))
  else if c ≤ 0x27 then (s.rdI (R.CENG_VAR (c - 0x20)), !(s.ceng.varBad[Fin.ofNat 8 (c - 0x20)]))
  else if c ≤ 0x2B then ((s.rdF (R.CENG_SETP (c - 0x28))).toInt, true)
  else (s.odI 0x2211 2, p3 && s.driveFresh)

/-! ## The control law (R120 to R124, R127) -/

/-- The coefficients of a bank: Q16.16, limits and rate in output units. -/
structure Coef where
  kp : Int
  ki : Int
  kd : Int
  k1 : Int
  k2 : Int
  lo : Int
  hi : Int
  rate : Nat
  deriving DecidableEq, Repr

/-- The bank in force of a slot; the limits of a door slot are narrowed to those of its unit (R123). -/
def Dev.coef (s : Dev) (n : Fin 16) (b : Nat) : Coef :=
  let r (k : Nat) : Int := (s.rdF (R.CENG_SLOT_KP_A n.val + 32 * b + 4 * k)).toInt
  let lim : Int × Int := if n = 1 then s.curLimits 0 else if n = 2 then s.curLimits 1 else (r 5, r 6)
  { kp := r 0, ki := r 1, kd := r 2, k1 := r 3, k2 := r 4, lo := max (r 5) lim.1, hi := min (r 6) lim.2,
    rate := (s.rdF (R.CENG_SLOT_RATE_A n.val + 32 * b)).toNat }

/-- A sum or product in the 64-bit accumulators. (DESIGN CHOICE, log 5) -/
def f64 (x : Int) : Int := fitI 64 x

/-- The rate limit: 0 is none. -/
def rateLim (y last : Int) (rate : Nat) : Int := if rate = 0 then y else clampI (last - 65536 * rate) (last + 65536 * rate) y

/-- What one run of the law delivers. -/
structure LawOut where
  st     : SlotSt
  e      : Int
  u      : Int
  y      : Int
  frozen : Bool
  deriving DecidableEq, Repr

/-- A product of a coefficient and an input, both with 16 fraction bits, to the nearest value with 16 (R120). -/
def mul16 (k x : Int) : Int := ndiv (k * x) 65536

/-- One run of R121, its four inputs with 16 fraction bits: `div` ticks since the last run, `df` the filter shift; `hold` keeps
I and Df at 0 (R124); `vsat` is the direction in which the door's voltage clips (R140), 0 none. (DEDUCED, log 64) -/
def lawRun (st : SlotSt) (c : Coef) (div df : Nat) (hold : Bool) (vsat : Int) (sp fb ff1 ff2 : Int) : LawOut :=
  let e := sp - fb
  let eL := if st.first then e else st.eLast
  let d0 := if st.first ∨ hold then 0 else st.Df
  let Df := if hold then 0 else f64 (d0 + ndiv (mul16 (c.kd * (8000 / (div : Int))) (e - eL) - d0) (2 ^ df))
  let i0 := if st.first ∨ hold then 0 else st.I
  let inc := if hold then 0 else f64 (ndiv (c.ki * e * div) (65536 * 8000))
  let base := f64 (mul16 c.k1 ff1 + mul16 c.k2 ff2 + mul16 c.kp e + Df)
  let yl := if st.first then 0 else st.yLast
  let lo := 65536 * c.lo
  let hi := 65536 * c.hi
  let u := f64 (base + i0 + inc)
  let y := rateLim (clampI lo hi u) yl c.rate
  if (y < u ∧ 0 < inc) ∨ (u < y ∧ inc < 0) ∨ (vsat ≠ 0 ∧ sgn inc = vsat) then
    let u2 := f64 (base + i0)
    let y2 := rateLim (clampI lo hi u2) yl c.rate
    { st := { st with I := i0, Df := Df, eLast := e, yLast := y2, first := false }, e := e, u := u2, y := y2, frozen := true }
  else
    { st := { st with I := if hold then 0 else clampI lo hi (f64 (i0 + inc)), Df := Df, eLast := e, yLast := y, first := false }, e := e, u := u, y := y, frozen := false }

/-- The bumpless swap run (R127). (DEDUCED, log 64) -/
def bumpRun (st : SlotSt) (c : Coef) (div df : Nat) (hold : Bool) (sp fb ff1 ff2 : Int) : LawOut :=
  let e := sp - fb
  let d0 := if st.first ∨ hold then 0 else st.Df
  let eL := if st.first then e else st.eLast
  let Df := if hold then 0 else f64 (d0 + ndiv (mul16 (c.kd * (8000 / (div : Int))) (e - eL) - d0) (2 ^ df))
  let base := f64 (mul16 c.k1 ff1 + mul16 c.k2 ff2 + mul16 c.kp e + Df)
  let lo := 65536 * c.lo
  let hi := 65536 * c.hi
  let y := clampI lo hi st.yLast
  let I := if hold then 0 else clampI lo hi (f64 (y - base))
  { st := { st with I := I, Df := Df, eLast := e, yLast := y, first := false }, e := e, u := f64 (base + I), y := y, frozen := false }

/-! ## Following error (R128) -/

/-- One level: the start of its window, whether it trips at this run, and whether it has tripped since the window began: a window
trips once. (DEDUCED, log 65) -/
def feLevel (over_ : Bool) (start : Option Nat) (tripped : Bool) (now ms : Nat) : Option Nat × Bool × Bool :=
  if over_ then
    let t0 := start.getD now
    let due := decide (t0 + ms * msCyc ≤ now)
    (some t0, due && !tripped, due || tripped)
  else (none, false, false)

/-- The stop requests shown in CENG.STATUS (R128, R131). -/
def Dev.stopShow (s : Dev) : Dev :=
  let c := s.ceng.slot.toList.any fun t => t.reqC || t.reqFe
  let i := s.ceng.slot.toList.any fun t => t.reqI
  let rise := (c && !s.flag F.CENG_STATUS_STOPREQ_C) || (i && !s.flag F.CENG_STATUS_STOPREQ_I)
  let s1 := (s.setFlag F.CENG_STATUS_STOPREQ_C c).setFlag F.CENG_STATUS_STOPREQ_I i
  if rise then s1.setFlag F.CENG_IRQ_STOPREQ true else s1

/-- The warn level trips (R128): FEWARN, its interrupt flag, event 0x1304 with e rounded. -/
def Dev.feWarn (s : Dev) (n : Fin 16) (e : Int) : Dev :=
  let s1 := s.setSlot n fun t => { t with tripW := true }
  ((s1.setFlag (F.CENG_SLOT_STATUS_FEWARN n.val) true).setFlag F.CENG_IRQ_FEWARN true).log 0x1304 n.val (w32 (fitI 32 (ndiv e 65536))) (s.rdF (R.CENG_SLOT_FE_WLIM n.val)).toNat

/-- The stop level trips (R128): FESTOP, its interrupt flag, event 0x1305, and the request. -/
def Dev.feStop (s : Dev) (n : Fin 16) (e : Int) : Dev :=
  let s1 := s.setSlot n fun t => { t with reqFe := true, tripS := true }
  (((s1.setFlag (F.CENG_SLOT_STATUS_FESTOP n.val) true).setFlag F.CENG_IRQ_FESTOP true).log 0x1305 n.val (w32 (fitI 32 (ndiv e 65536))) (s.rdF (R.CENG_SLOT_FE_SLIM n.val)).toNat).stopShow

/-- The error of the last run against a limit. (DEDUCED, log 65) -/
def Dev.feOver (s : Dev) (n : Fin 16) (lim : Nat) : Bool := decide (65536 * (lim : Int) < |(s.ceng.slot[n]).eLast|)

/-- A level's window is complete at the slot's run in this tick and has not tripped: the row of the table that states the trip by
itself (R128). (DEDUCED, log 65) -/
def Dev.feDue (s : Dev) (n : Fin 16) (start : Option Nat) (tripped : Bool) (ms : Nat) : Bool :=
  match start with
  | some t0 => s.flagF (F.CENG_SLOT_CFG_FEEN n.val) && s.flag (F.CENG_SLOT_STATUS_RAN n.val) && !tripped && decide (t0 + ms * msCyc ≤ s.tick * tickCyc)
  | none => false

def Dev.feWarnRow (s : Dev) (n : Fin 16) : Dev :=
  if s.feDue n (s.ceng.slot[n]).feW (s.ceng.slot[n]).tripW (s.fldF (F.CENG_SLOT_FE_TIME_WARN n.val)) then s.feWarn n (s.ceng.slot[n]).eLast else s

def Dev.feStopRow (s : Dev) (n : Fin 16) : Dev :=
  if s.feDue n (s.ceng.slot[n]).feS (s.ceng.slot[n]).tripS (s.fldF (F.CENG_SLOT_FE_TIME_STOP n.val)) then s.feStop n (s.ceng.slot[n]).eLast else s

/-- Both levels of a run that was not held. -/
def Dev.feRun (s : Dev) (n : Fin 16) (e : Int) : Dev :=
  if s.flagF (F.CENG_SLOT_CFG_FEEN n.val) then
    let t := s.ceng.slot[n]
    let w := feLevel (s.feOver n (s.rdF (R.CENG_SLOT_FE_WLIM n.val)).toNat) t.feW t.tripW s.now (s.fldF (F.CENG_SLOT_FE_TIME_WARN n.val))
    let p := feLevel (s.feOver n (s.rdF (R.CENG_SLOT_FE_SLIM n.val)).toNat) t.feS t.tripS s.now (s.fldF (F.CENG_SLOT_FE_TIME_STOP n.val))
    let s1 := s.setSlot n fun t => { t with feW := w.1, feS := p.1, tripW := w.2.2, tripS := p.2.2, reqFe := t.reqFe && p.1.isSome }
    let s2 := if w.2.1 then s1.feWarn n e else s1
    if p.2.1 then s2.feStop n e else s2.stopShow
  else (s.setSlot n fun t => { t with feW := none, feS := none, tripW := false, tripS := false, reqFe := false }).stopShow

/-! ## Overruns (R129 to R131) -/

/-- The escalation of consecutive overruns (R131): each request once, with event 0x1306; eight of a door slot remove DRVEN. -/
def Dev.overrunStop (s : Dev) (n : Fin 16) : Dev :=
  let c := s.fld (F.CENG_SLOT_OVR_CONSEC n.val)
  let t := s.ceng.slot[n]
  let s1 := if n = 0 ∧ 2 ≤ c ∧ t.reqC = false then (s.setSlot n fun t => { t with reqC := true }).log 0x1306 n.val 0 c else s
  let s2 := if n.val ≤ 2 ∧ 8 ≤ c ∧ t.reqI = false then (s1.setSlot n fun t => { t with reqI := true }).log 0x1306 n.val 1 c else s1
  let s3 := s2.stopShow
  if n = 1 then s3.drvenUpdate 0 else if n = 2 then s3.drvenUpdate 1 else s3

/-- Copy an output to VAR[VARSEL] (R113). -/
def Dev.putVar (s : Dev) (n : Fin 16) (y : Int) (bad : Bool) : Dev :=
  if s.flagF (F.CENG_SLOT_CFG_VAREN n.val) then
    let v := Fin.ofNat 8 (s.fldF (F.CENG_SLOT_CFG_VARSEL n.val))
    let s1 := s.wrI (R.CENG_VAR v.val) y
    { s1 with ceng := { s1.ceng with varBad := s1.ceng.varBad.set v bad } }
  else s

/-- Deliver y to the slot's output (R113, R123, R124): OUT, VAR, and the voltage vector of a door slot. -/
def Dev.deliver (s : Dev) (n : Fin 16) (y : Int) (held : Bool) : Dev :=
  let yi := ndiv y 65536
  let s1 := (s.wrI (R.CENG_SLOT_OUT n.val) yi).putVar n yi held
  let dv (d : Fin 2) : Dev :=
    if (s.doors[d]).alStep ≠ 0 then s1.commitVec d (s.alignVec d) else s1.commitVec d (s.doorLaw d (F64.rnd y (-16)))
  if n = 1 then dv 0 else if n = 2 then dv 1 else s1

/-- The slot holds its output (R129); a run that is held advances no window of R128. At a stall a door keeps the vector of the tick
before. (DEDUCED, log 18) -/
def Dev.slotHold (s : Dev) (n : Fin 16) (cause : Nat) : Dev :=
  let skip := 2 ^ s.fldF (F.CENG_SLOT_CFG_DIVSEL n.val) * tickCyc
  let s1 := (s.satInc (F.CENG_SLOT_OVR_COUNT n.val)).satInc (F.CENG_SLOT_OVR_CONSEC n.val)
  let s2 := (s1.setFlag (F.CENG_SLOT_STATUS_HELD n.val) true).setFlag F.CENG_IRQ_OVR true
  let s3 := (s2.setSlot n fun t => { t with held := true, feW := t.feW.map (· + skip), feS := t.feS.map (· + skip) }).log 0x1301 n.val cause (s2.fld (F.CENG_SLOT_OVR_CONSEC n.val))
  let s4 := if cause = 1 then s3.deliver n (s.ceng.slot[n]).yLast true else s3.putVar n (ndiv (s.ceng.slot[n]).yLast 65536) true
  s4.overrunStop n

/-- The input of SLOT[0] with EXTRAP set (R130), with 16 fraction bits: an invalid position is replaced, and any other input is as
latched. -/
def Dev.extrapolated (s : Dev) (c : Nat) : Option Int :=
  if c = 1 then some (65536 * s.ceng.lastRef + ndiv (65536 * s.ceng.lastVel) 8000)
  else if c = 4 then some (65536 * s.ceng.lastPos + ndiv (65536 * s.ceng.lastSpd) 8000) else none

/-- The four inputs of a slot as values with 16 fraction bits, with what must be extrapolated: none where an input is invalid otherwise. -/
def Dev.slotInputs (s : Dev) (n : Fin 16) : Option (List Int × Bool) :=
  let w := (s.rdF (R.CENG_SLOT_SRC n.val)).toNat
  let codes := [w / 2 ^ 24, w / 2 ^ 16 % 256, w / 2 ^ 8 % 256, w % 256]
  let may := n = 0 && s.flagF (F.CENG_SLOT_CFG_EXTRAP 0) && decide ((s.ceng.slot[n]).ext ≤ s.fldF (F.CENG_SLOT_CFG_EXTMAX 0))
  codes.foldr (fun c acc =>
    match acc with
    | none => none
    | some (l, x) =>
      let v := s.srcValue c
      if v.2 then some (65536 * v.1 :: l, x)
      else if may then match s.extrapolated c with | some y => some (y :: l, true) | none => none
      else none) (some ([], false))

/-- The bank that BANKSEL in force selects differs from the one in force. -/
def Dev.swapWanted (s : Dev) (n : Nat) : Bool := bitN (s.rdF R.CENG_BANKSEL).toNat n != bitN (s.rd R.CENG_BANKACT).toNat n && bitN (s.rd R.CENG_BANKSEL).toNat n != bitN (s.rd R.CENG_BANKACT).toNat n

/-- The swap of a slot's bank (R126): BANKACT follows, or the swap is refused and BANKSEL returns. -/
def Dev.bankTake (s : Dev) (n : Fin 16) : Bool × Dev :=
  if s.swapWanted n.val then
    let b := 1 - s.bankAct n.val
    if s.bankBad n.val b then
      let back := putBit (s.rd R.CENG_BANKSEL).toNat n.val (bitN (s.rd R.CENG_BANKACT).toNat n.val)
      (false, (s.wrN R.CENG_BANKSEL back).cfgRefuse n.val 3 (s.fld F.CENG_SCHED_LOAD))
    else (true, s.wrN R.CENG_BANKACT (putBit (s.rd R.CENG_BANKACT).toNat n.val (b = 1)))
  else (false, s)

/-- The direction in which the door's voltage saturates, for a door slot (R140). -/
def Dev.vsatDir (s : Dev) (n : Fin 16) : Int :=
  if n = 1 ∧ s.flag (F.DOOR_STATUS_VSAT 0) then sgn (s.ceng.slot[n]).yLast
  else if n = 2 ∧ s.flag (F.DOOR_STATUS_VSAT 1) then sgn (s.ceng.slot[n]).yLast else 0

/-- A run that is not held: the swap, the law, the outputs, the following error. -/
def Dev.slotRun (s0 : Dev) (n : Fin 16) (inp : List Int) (ext : Bool) : Dev :=
  let i := n.val
  let sw := s0.bankTake n
  let s := sw.2
  let st := s.ceng.slot[n]
  let c := s.coef n (s.bankAct i)
  let div := 2 ^ s.fldF (F.CENG_SLOT_CFG_DIVSEL i)
  let df := s.fldF (F.CENG_SLOT_CFG_DF i)
  let hold := n = 0 && !bitN (s.od? 0x2210 3) 0
  let g (k : Nat) : Int := inp.getD k 0
  let o := if sw.1 && s.flagF (F.CENG_SLOT_CFG_BUMPLESS i) then bumpRun st c div df hold (g 0) (g 1) (g 2) (g 3)
    else lawRun st c div df hold (s.vsatDir n) (g 0) (g 1) (g 2) (g 3)
  let s1 := s.setSlot n fun _ => { o.st with held := false, reqC := false, reqI := false, ext := if ext then st.ext + 1 else 0 }
  let s2 := (s1.setFld (F.CENG_SLOT_OVR_CONSEC i) 0).setFlag (F.CENG_SLOT_STATUS_HELD i) false
  let s3 := ((s2.setFlag (F.CENG_SLOT_STATUS_SATHI i) (o.y < o.u)).setFlag (F.CENG_SLOT_STATUS_SATLO i) (o.u < o.y)).setFlag (F.CENG_SLOT_STATUS_FROZEN i) o.frozen
  let s4 := ((s3.setFlag (F.CENG_SLOT_STATUS_EXTRAP i) ext).setFlag (F.CENG_SLOT_STATUS_RAN i) true).setFld (F.CENG_SLOT_STATUS_BANK i) (s.bankAct i)
  let s5 := ((s4.wrI (R.CENG_SLOT_ERR i) (fitI 32 (ndiv o.e 65536))).wrI (R.CENG_SLOT_INTEG i) (fitI 32 (cdiv o.st.I 65536))).wrI (R.CENG_SLOT_PRE i) (fitI 32 (ndiv o.u 65536))
  let s6 := if ext ∧ st.ext = 0 then s5.log 0x1303 i (s.rd R.POSX_FUSE_STATUS).toNat 0 else s5
  let s7 := if sw.1 then s6.log 0x1307 i (s.bankAct i) (w32 (cdiv o.st.I 65536)) else s6
  (s7.deliver n o.y false).feRun n o.e

/-- A disabled slot delivers 0, its VAR is valid, its next run is a first run; a swap needs no run (R127, R132). -/
def Dev.slotOff (s0 : Dev) (n : Fin 16) : Dev :=
  let sw := s0.bankTake n
  let s := if sw.1 then sw.2.log 0x1307 n.val (sw.2.bankAct n.val) 0 else sw.2
  let s1 := s.setSlot n fun t => { reqC := t.reqC, reqI := t.reqI, reqFe := t.reqFe }
  let s2 := ((s1.setFlag (F.CENG_SLOT_STATUS_RAN n.val) false).wrN (R.CENG_SLOT_OUT n.val) 0).putVar n 0 false
  if n = 1 then s2.commitVec 0 {} else if n = 2 then s2.commitVec 1 {} else s2

/-- A slot in phase 4 of a tick; where the engine stalled, the slots below `done` had completed (R129). -/
def Dev.slotTick (s : Dev) (done : Nat) (n : Fin 16) : Dev :=
  let cfg := s.rdF (R.CENG_SLOT_CFG n.val)
  if cfgEn cfg = false then s.slotOff n
  else if slotDueIn n.val cfg (s.tick % 64) then
    if s.missed 4 ∧ done ≤ n.val then (s.setFlag (F.CENG_SLOT_STATUS_RAN n.val) false).slotHold n 2
    else
      match s.slotInputs n with
      | some x => s.slotRun n x.1 x.2
      | none => (s.setFlag (F.CENG_SLOT_STATUS_RAN n.val) false).slotHold n 1
  else s.setFlag (F.CENG_SLOT_STATUS_RAN n.val) false

/-- The row BANK_SWAP (R127): the run of a due slot whose swap waits and whose last due run was not held. -/
def Dev.bankSwapRow (s : Dev) (n : Fin 16) : Dev :=
  if s.swapWanted n.val ∧ s.flag (F.CENG_SLOT_STATUS_RAN n.val) = false ∧ (s.ceng.slot[n]).held = false then s.slotTick 0 n else s

/-- CENG in phase 4: the slots in ascending order; the values of the tick are kept for R130. -/
def Dev.cengTick (s : Dev) (done : Nat) : Dev :=
  let s1 := (List.finRange 16).foldl (fun e n => e.slotTick done n) s
  let ran := s1.flag (F.CENG_SLOT_STATUS_RAN 0)
  { s1 with ceng := { s1.ceng with refRan := ran, lastRef := s.rdI R.PGEN_REF_POS, lastVel := s.rdI R.PGEN_REF_VEL,
                                   lastPos := s.rdI R.POSX_FUSE_POS, lastSpd := s.rdI R.POSX_FUSE_SPEED } }

end Sys2Proof.Machine
end

