-- ==== Sys2Proof/Machine/Memory.lean ====
section
/-! DEFINITION. Memory (R15 to R21, R339 to R356): the map and the rights, the byte store in its canonical form, the code words
with correctable and uncorrectable errors, flip-mask testing, the scrubbers, repair and flash health. -/

namespace Sys2Proof.Machine

/-! ## The byte store -/

/-- What an address without an entry reads as: the fill that covers it (R358, R374), 0 in the MRAM (assumption 6), and
nothing elsewhere, a poisoned word (R341). -/
def fillByte : List MemFill → Nat → Option Byte
  | [], _ => none
  | f :: t, a => if f.lo ≤ a ∧ a ≤ f.hi then some (BitVec.ofNat 8 (f.pat / 2 ^ (8 * (a % 8)))) else fillByte t a

/-- (DESIGN CHOICE, log 6) -/
def MemSys.absent (m : MemSys) (a : Nat) : Option Byte :=
  if 0x20000000 ≤ a ∧ a ≤ 0x203FFFFF then some 0 else fillByte m.fills a

/-- The byte that the list holds for an address. -/
def cellGet : List Host.Cell → Nat → Option Byte
  | [], _ => none
  | (k, v) :: t, a => if k = a then some v else cellGet t a

/-- The byte at an address, if the word there holds data. (DESIGN CHOICE, log 6) -/
def MemSys.byte (m : MemSys) (a : Nat) : Option Byte :=
  match cellGet m.cells a with
  | some b => some b
  | none => m.absent a

/-- Remove the entry of an address. -/
def cellDrop (l : List Host.Cell) (a : Nat) : List Host.Cell := l.filter fun c => c.1 != a

/-- Put an entry in its place. -/
def cellPut : List Host.Cell → Nat → Byte → List Host.Cell
  | [], a, b => [(a, b)]
  | (k, v) :: t, a, b => if a < k then (a, b) :: (k, v) :: t else if k = a then (k, b) :: t else (k, v) :: cellPut t a b

/-- Write one byte; writing what an unlisted address reads as removes the entry. -/
def MemSys.putByte (m : MemSys) (a : Nat) (b : Byte) : MemSys :=
  { m with cells := if m.absent a = some b then cellDrop m.cells a else cellPut m.cells a b }

/-- Write bytes from an address on. -/
def MemSys.putBytes (m : MemSys) : Nat → List Byte → MemSys
  | _, [] => m
  | a, b :: t => (m.putByte a b).putBytes (a + 1) t

/-- Hardware fills a range; what it covers is no longer listed, and neither are its flipped bits (R344). -/
def MemSys.fill (m : MemSys) (lo hi pat : Nat) : MemSys :=
  { m with cells := m.cells.filter fun c => !(decide (lo ≤ c.1) && decide (c.1 ≤ hi)),
           fills := { lo := lo, hi := hi, pat := pat } :: m.fills,
           faults := m.faults.filter fun f => !(decide (lo ≤ f.addr) && decide (f.addr ≤ hi)) }

/-- The canonical form: addresses strictly rising, and no entry equal to what an unlisted address reads as. -/
def MemSys.wf (m : MemSys) : Bool :=
  decide (m.cells.Pairwise fun x y => x.1 < y.1) && m.cells.all fun c => m.absent c.1 != some c.2

/-- Poison a region (R341): no byte of it holds data. -/
def MemSys.poison (m : MemSys) (lo hi : Nat) : MemSys :=
  { m with cells := m.cells.filter fun c => !(decide (lo ≤ c.1) && decide (c.1 ≤ hi)),
           fills := m.fills.filter fun f => !(decide (lo ≤ f.lo) && decide (f.hi ≤ hi)),
           faults := m.faults.filter fun f => !(decide (lo ≤ f.addr) && decide (f.addr ≤ hi)) }

/-! ## The map and the rights (R17 to R19, R385) -/

/-- The regions of R17; 0 to 2 are the arrays of R339. -/
inductive Region where
  | safety | shared | dram | rom | mram | periph
  deriving DecidableEq, Repr

/-- (DESIGN CHOICE, log 32) -/
def regionOf (a : Nat) : Option Region :=
  if a ≤ 0x1FFFF then some .rom
  else if 0x10000000 ≤ a ∧ a ≤ 0x101FFFFF then some .safety
  else if 0x18000000 ≤ a ∧ a ≤ 0x183FFFFF then some .shared
  else if 0x20000000 ≤ a ∧ a ≤ 0x203FFFFF then some .mram
  else if 0x40000000 ≤ a ∧ a ≤ 0x401AFFFF then some .periph
  else if 0x800000000 ≤ a ∧ a ≤ 0x9FFFFFFFF then some .dram
  else none

/-- The array number in the logs and counters: 0 safety SRAM, 1 shared SRAM, 2 DRAM. -/
def Region.num : Region → Nat
  | .safety => 0
  | .shared => 1
  | _ => 2

/-- Bytes of a code word. -/
def Region.wordBytes : Region → Nat
  | .dram => 8
  | _ => 4

/-- The physical address of a master's access: Marten's window (R19). -/
def Dev.physical (s : Dev) (m : Master) (a : Nat) : Nat :=
  if m = 5 ∧ 0xC0000000 ≤ a ∧ a ≤ 0xCFFFFFFF then 0x800000000 + (s.rd R.MEMC_MWIN).toNat % 32 * 0x10000000 + (a - 0xC0000000) else a

/-- The access of a master as R17 and R18 judge it. -/
inductive Reach where
  | outside
  | denied
  | ignored
  | ok (r : Region)
  deriving DecidableEq, Repr

/-- The areas of Bear that a master writes (R385). -/
def bearWrites (m : Master) (a : Nat) : Bool :=
  (m = 5 && ((0x20022000 ≤ a && a ≤ 0x20022FFF) || (0x2003D000 ≤ a && a ≤ 0x201FFFFF))) ||
  (1 ≤ m.val && m.val ≤ 4 && 0x20200000 ≤ a)

/-- The number of the register block of an address (R14). -/
def blockNo (a : Nat) : Nat := a / 0x10000 % 0x4000

/-- The register blocks a master reaches (R18): every block for the cores, Marten and the debug port; for the DMA those that a channel's
PERM allows; ODE, LRING and BID have no channel that is set to serve a block. (DEDUCED, log 121) -/
def Dev.blockMay (s : Dev) (m : Master) (blk : Nat) : Bool :=
  if m = 6 then (upTo 8).any fun c => bitN (s.rd (R.MEMC_DMA_PERM c)).toNat blk
  else !(decide (7 ≤ m.val) && decide (m.val ≤ 9))

/-- Whether a master reaches an address (R17, R18): Marten sees DRAM through its window only. (DEDUCED, log 30) -/
def Dev.reach (s : Dev) (m : Master) (a0 a : Nat) (write : Bool) : Reach :=
  match regionOf a with
  | none => .outside
  | some r =>
    let engine := 6 ≤ m.val && m.val ≤ 9
    let ok := match r with
      | .rom => !write && (m.val ≤ 5 || m = 10)
      | .safety => m = 5 || (m = 10 && !write)
      | .shared => true
      | .mram => !engine && !(write && m = 10)
      | .periph => s.blockMay m (blockNo a)
      | .dram => m ≠ 5 || a0 ≠ a
    if !ok then .denied
    else if r = .mram ∧ write ∧ bearWrites m a = false then .ignored
    else .ok r

/-! ## Code words (R340 to R345) -/

/-- The class of a code word: 0 clean, 1 correctable, 2 uncorrectable (R340); three flips and more are open. -/
def faultClass (f : MemFault) : Nat :=
  let n := onesN 64 f.dmask + onesN 8 f.cmask
  if n ≤ 2 then n else (Config.manyFlipsClass f.addr f.dmask f.cmask).val

def MemSys.fault? (m : MemSys) (w : Nat) : Option MemFault := m.faults.find? fun f => f.addr == w

/-- A word that holds data in every byte; the boot ROM has written the whole safety SRAM (R341). (DESIGN CHOICE, log 6; DESIGN CHOICE, log 12) -/
def MemSys.wordData (m : MemSys) (r : Region) (w : Nat) : Option (List Byte) :=
  (upTo r.wordBytes).foldr (fun i acc =>
    match acc with
    | none => none
    | some l =>
      match m.byte (w + i) with
      | some b => some (b :: l)
      | none => if r = .safety ∧ m.safeInit then some (Config.sramByte (w + i) :: l) else none) (some [])

/-- ELOG shows the last error (R342, R343). -/
def Dev.elog (s : Dev) (r : Region) (w : Nat) (m : Master) (f : MemFault) (unc : Bool) : Dev :=
  let info := (Config.syndrome w f.dmask f.cmask).toNat * 256 + m.val % 16 * 16 + b2n f.inj * 8 + b2n unc * 4 + r.num
  ((s.wrN R.MEMC_ELOG_LO w).wrN R.MEMC_ELOG_HI (w / 2 ^ 32)).wrN R.MEMC_ELOG_INFO info

/-- A counter register of 32 bits saturates. -/
def Dev.satReg (s : Dev) (a : Nat) : Dev := if (s.rd a).toNat + 1 < 2 ^ 32 then s.wrN a ((s.rd a).toNat + 1) else s

/-- A correctable error (R342): kind 0 read, 1 healed by write, 2 scrubbed. (DESIGN CHOICE, log 131) -/
def Dev.correctable (s : Dev) (r : Region) (w : Nat) (m : Master) (f : MemFault) (kind : Nat) : Dev :=
  let s1 := ((s.satReg (R.MEMC_CE r.num)).elog r w m f false).setFlag F.MEMC_IRQ_CE true
  s1.logBy m.val 0x7001 w (r.num + 8 * b2n f.inj + 16 * kind) m.val

/-- An uncorrectable error (R343, R345): the code is 0x7002 for a read and 0x7003 for a partial write. (DESIGN CHOICE, log 131) -/
def Dev.uncorrectable (s : Dev) (r : Region) (w : Nat) (m : Master) (f : MemFault) (code : Nat) : Dev :=
  let s1 := ((s.satReg (R.MEMC_UE r.num)).elog r w m f true).setFlag F.MEMC_IRQ_UE true
  let s2 := s1.logBy m.val code w (r.num + 8 * b2n f.inj) m.val
  if m = 5 ∧ r = .safety ∧ code = 0x7002 then { s2 with memc := { s2.memc with martenFatal := true } } else s2

/-! ## Repair candidates (R350) -/

/-- A row becomes a candidate: the first free place, else the oldest repaired SRAM candidate, else it is only logged. -/
def Dev.candidate (s : Dev) (r : Region) (row reason : Nat) : Dev :=
  let word := 2147483648 + r.num * 536870912 + row % 536870912
  let has := (upTo 16).any fun j => (s.rd (R.MEMC_CAND j)).toNat = word
  if has then s
  else
    let repaired (j : Nat) : Bool := (s.rd (R.MEMC_CAND j)).toNat / 536870912 % 4 != 2 && (upTo 64).any fun i => s.rd (R.MEMC_FUSE_REC i) == s.rd (R.MEMC_CAND j)
    let s1 := (s.setFlag F.MEMC_IRQ_CAND true).logE 0x7030 r.num row reason
    let put (j : Nat) : Dev := { s1 with memc := { s1.memc with candOrder := s1.memc.candOrder.erase j ++ [j] } }.wrN (R.MEMC_CAND j) word
    match (upTo 16).find? fun j => (s.rd (R.MEMC_CAND j)).toNat < 2147483648 with
    | some j => put j
    | none => match s.memc.candOrder.find? repaired with
      | some j => put j
      | none => s1

/-- A correctable word that was not injected counts for its row in the lap; the third different word makes a candidate. (DESIGN CHOICE, log 110) -/
def Dev.countRow (s : Dev) (r : Region) (w : Nat) (f : MemFault) : Dev :=
  if f.inj then s
  else
    let row := Config.rowOf r.num w
    let l := if r = .dram then s.memc.weevRows else s.memc.antRows
    let l1 := if l.contains (row * 4 + r.num, w) then l else (row * 4 + r.num, w) :: l
    let s1 := { s with memc := if r = .dram then { s.memc with weevRows := l1 } else { s.memc with antRows := l1 } }
    if 3 ≤ (l1.filter fun x => x.1 == row * 4 + r.num).length then s1.candidate r row 0 else s1

/-- The row of an uncorrectable word that was not injected becomes a candidate. -/
def Dev.candidateOf (s : Dev) (r : Region) (w : Nat) (f : MemFault) : Dev :=
  if f.inj then s else s.candidate r (Config.rowOf r.num w) 1

/-- The fault record of a word without flips. -/
def noFault (w : Nat) : MemFault := { addr := w, dmask := 0, cmask := 0, inj := false }

/-- The data that the decoder delivers: the true bytes up to one flip; with three flips or more it is open (R340). -/
def decoded (r : Region) (f : MemFault) (l : List Byte) : List Byte :=
  if onesN 64 f.dmask + onesN 8 f.cmask ≤ 2 then l
  else leBytes r.wordBytes (Config.manyFlipsData f.addr f.dmask f.cmask).toNat

/-- Read a code word for a master (R342, R343): its bytes, or none where it is uncorrectable. -/
def readWord (p : Dev × MemSys) (m : Master) (r : Region) (w : Nat) : Option (List Byte) × (Dev × MemSys) :=
  match p.2.wordData r w with
  | none => (none, (p.1.uncorrectable r w m (noFault w) 0x7002, p.2))
  | some l =>
    match p.2.fault? w with
    | none => (some l, p)
    | some f =>
      match faultClass f with
      | 0 => (some (decoded r f l), p)
      | 1 => (some (decoded r f l), ((p.1.correctable r w m f 0).countRow r w f, p.2))
      | _ => (none, ((p.1.uncorrectable r w m f 0x7002).candidateOf r w f, p.2))

/-- The address in FLIP_ADDR, and the code word that holds it. -/
def Dev.flipAddr (s : Dev) : Nat := (s.rd R.MEMC_FLIP_ADDR_LO).toNat + (s.rd R.MEMC_FLIP_ADDR_HI).toNat * 2 ^ 32
def Dev.flipWord (s : Dev) : Nat := s.flipAddr - s.flipAddr % (match regionOf s.flipAddr with | some r => r.wordBytes | none => 1)

/-- FLIP is armed for this word (R347). -/
def Dev.flipArmed (s : Dev) (w : Nat) : Bool := s.flag F.MEMC_FLIP_CTRL_ARM && s.flipWord = w

/-- Write a whole code word (R344); the armed mask is stored with it (R347). -/
def writeWord (p : Dev × MemSys) (r : Region) (w : Nat) (l : List Byte) : Dev × MemSys :=
  let m1 := { p.2 with faults := p.2.faults.filter fun f => f.addr != w }
  let m2 := m1.putBytes w l
  if p.1.flipArmed w then
    let dm := (p.1.rd R.MEMC_FLIP_DMASK_LO).toNat + (if r = .dram then (p.1.rd R.MEMC_FLIP_DMASK_HI).toNat * 2 ^ 32 else 0)
    let cm := (p.1.rd R.MEMC_FLIP_CMASK).toNat % (if r = .dram then 256 else 128)
    let s1 := (p.1.setFlag F.MEMC_FLIP_CTRL_ARM false).setFlag F.MEMC_FLIP_CTRL_DONE true
    (s1, if dm = 0 ∧ cm = 0 then m2 else { m2 with faults := { addr := w, dmask := dm, cmask := cm, inj := true } :: m2.faults })
  else (p.1, m2)

/-- Replace part of a word's bytes. -/
def patch (l : List Byte) (off : Nat) (new : List Byte) : List Byte := l.take off ++ new ++ l.drop (off + new.length)

/-- Write part of a code word by read-modify-write (R345): true where it took place. A partial write to the armed word does
not take the mask (R347). (DEDUCED, log 40) -/
def writePart (p : Dev × MemSys) (m : Master) (r : Region) (w off : Nat) (new : List Byte) : Bool × (Dev × MemSys) :=
  let put (l : List Byte) (f : Option MemFault) : Dev × MemSys :=
    let m1 := { p.2 with faults := p.2.faults.filter fun f => f.addr != w }
    let d := match f with | some f => (p.1.correctable r w m f 1).countRow r w f | none => p.1
    (d, m1.putBytes w (patch l off new))
  match p.2.wordData r w with
  | none => (false, (p.1.uncorrectable r w m (noFault w) 0x7003, p.2))
  | some l =>
    match p.2.fault? w with
    | none => (true, put l none)
    | some f =>
      match faultClass f with
      | 0 => (true, put (decoded r f l) none)
      | 1 => (true, put (decoded r f l) (some f))
      | _ => (false, ((p.1.uncorrectable r w m f 0x7003).candidateOf r w f, p.2))

/-! ## Accesses -/

/-- Read `n` bytes of an array, word by word; none at the first uncorrectable word. -/
def readArray (m : Master) (r : Region) : Nat → Nat → Nat → (Dev × MemSys) → Option (List Byte) × (Dev × MemSys)
  | 0, _, _, p => (some [], p)
  | k + 1, a, n, p =>
    if n = 0 then (some [], p)
    else
      let wb := r.wordBytes
      let off := a % wb
      let take_ := min n (wb - off)
      match readWord p m r (a - off) with
      | (none, q) => (none, q)
      | (some l, q) =>
        match readArray m r k (a + take_) (n - take_) q with
        | (none, q2) => (none, q2)
        | (some rest, q2) => (some ((l.drop off).take take_ ++ rest), q2)

/-- Write bytes into an array, word by word; it stops at the first aborted partial write. -/
def writeArray (m : Master) (r : Region) : Nat → Nat → List Byte → (Dev × MemSys) → Bool × (Dev × MemSys)
  | 0, _, _, p => (true, p)
  | k + 1, a, l, p =>
    if l = [] then (true, p)
    else
      let wb := r.wordBytes
      let off := a % wb
      let now_ := l.take (wb - off)
      let q := if off = 0 ∧ now_.length = wb then (true, writeWord p r a now_) else writePart p m r (a - off) off now_
      if q.1 then writeArray m r k (a + now_.length) (l.drop (wb - off)) q.2 else (false, q.2)

/-- Bytes of the MRAM and the boot ROM. Bear's areas that hardware writes have no byte layout in the spec: free values. -/
def romBytes : Nat → Nat → List Byte
  | _, 0 => []
  | a, n + 1 => Config.bootRomByte a :: romBytes (a + 1) n

/-- (DESIGN CHOICE, log 31) -/
def bearHeld (a : Nat) : Bool := a < 0x20022000 || (0x20023000 ≤ a && a < 0x2003D000)

/-- (DESIGN CHOICE, log 31) -/
def mramBytes : Nat → Nat → (Dev × MemSys) → List Byte × (Dev × MemSys)
  | _, 0, p => ([], p)
  | a, n + 1, p =>
    if bearHeld a then
      let d := p.1.drawWord
      let r := mramBytes (a + 1) n (d.2, p.2)
      (d.1.setWidth 8 :: r.1, r.2)
    else
      let r := mramBytes (a + 1) n p
      (((p.2.byte a).getD 0) :: r.1, r.2)

/-- An access that a master may not make ends in a bus error and is logged (R17, R18, R385). (DEDUCED, log 30) -/
def Dev.refuseAccess (s : Dev) (m : Master) (a : Nat) (x : Reach) : Dev :=
  match x with
  | .outside => (s.logBy m.val 0x7010 a (a / 2 ^ 32) m.val).busError m
  | .denied => (s.logBy m.val 0x7011 a (a / 2 ^ 32) m.val).busError m
  | .ignored => s.logBy m.val 0x7011 a (a / 2 ^ 32) m.val
  | .ok _ => s

/-- Read memory outside the peripheral space: data, or none with the error that ended the access. -/
def memFetch (p : Dev × MemSys) (m : Master) (a n : Nat) : Option (List Byte) × (Dev × MemSys) :=
  let pa := p.1.physical m a
  match p.1.reach m a (pa + (n - 1)) false, p.1.reach m a pa false with
  | .ok _, .ok .rom => (some (romBytes pa n), p)
  | .ok _, .ok .mram => let r := mramBytes pa n p; (some r.1, r.2)
  | .ok _, .ok .periph => (none, p)
  | .ok _, .ok r => readArray m r (n + 1) pa n p
  | x, .ok _ => (none, (p.1.refuseAccess m a x, p.2))
  | _, x => (none, (p.1.refuseAccess m a x, p.2))

/-- Write memory outside the peripheral space. -/
def memStore (p : Dev × MemSys) (m : Master) (a : Nat) (l : List Byte) : Bool × (Dev × MemSys) :=
  let pa := p.1.physical m a
  match p.1.reach m a (pa + (l.length - 1)) true, p.1.reach m a pa true with
  | .ok _, .ok .mram => (true, (p.1, p.2.putBytes pa l))
  | .ok _, .ok .rom => (false, p)
  | .ok _, .ok .periph => (false, p)
  | .ok _, .ok r => writeArray m r (l.length + 1) pa l p
  | x, .ok _ => (false, (p.1.refuseAccess m a x, p.2))
  | _, x => (false, (p.1.refuseAccess m a x, p.2))

/-- The APP domain is gated, while Fox parks and until it wakes (R370, R371) and from a power fail on (R423). -/
def Dev.appGated (s : Dev) : Bool := s.fld F.MBOX_PARK_STATE ≠ 0 || s.sout.pfail.isSome

/-- The masters that issue accesses (R21): 1 to 9, but for a gated Fox (R370, R423), and the debug port once unlocked (R18, R407).
(DEDUCED, log 33) -/
def Dev.mayAccess (s : Dev) (m : Master) : Bool :=
  if m = 10 then s.flag F.PRES_STATUS_DEBUG else m ≠ 0 && !(decide (m.val ≤ 4) && s.appGated)

/-- The master issues accesses and reaches the register at an address (R18). -/
def Dev.mayUse (s : Dev) (m : Master) (a : Nat) : Bool := s.mayAccess m && s.blockMay m (blockNo a)

/-! ## Flip-mask testing (R347) -/

/-- The address lies in one of the three arrays, and in the safety SRAM only for master 5. -/
def flipAddrOk (m : Master) (a : Nat) : Bool :=
  match regionOf a with
  | some .safety => m = 5
  | some .shared => true
  | some .dram => true
  | _ => false

/-- A write to FLIP_CTRL: DONE is W1C, ARM arms while it is clear and the address is valid. -/
def Dev.flipArm (s : Dev) (m : Master) (val : Word) : Dev :=
  if s.flag F.MEMC_FLIP_CTRL_ARM then s
  else
    let s1 := if bitN val.toNat 1 then s.setFlag F.MEMC_FLIP_CTRL_DONE false else s
    if bitN val.toNat 0 ∧ flipAddrOk m s.flipAddr then s1.setFlag F.MEMC_FLIP_CTRL_ARM true else s1

/-- A write to another FLIP register (R347). -/
def Dev.flipWrite (s : Dev) (m : Master) (a : Nat) (val : Word) : Dev :=
  if s.flag F.MEMC_FLIP_CTRL_ARM then s
  else if a = R.MEMC_FLIP_ADDR_LO ∨ a = R.MEMC_FLIP_ADDR_HI then
    let s1 := s.wr a val
    if flipAddrOk m s1.flipAddr then s1 else s
  else s.wr a (if a = R.MEMC_FLIP_CMASK then val &&& 0xFF else val)

/-! ## Scrubbing (R348, R349) -/

/-- A scrubber reads one word and rewrites it where it is correctable. (DESIGN CHOICE, log 110) -/
def scrubWord (p : Dev × MemSys) (r : Region) (w : Nat) : Dev × MemSys :=
  match p.2.wordData r w, p.2.fault? w with
  | some _, none => p
  | some _, some f =>
    match faultClass f with
    | 0 => p
    | 1 => ((p.1.correctable r w 0 f 2).countRow r w f, { p.2 with faults := p.2.faults.filter fun g => g.addr != w })
    | _ => ((p.1.uncorrectable r w 0 f 0x7002).candidateOf r w f, p.2)
  | none, _ => (p.1.uncorrectable r w 0 (noFault w) 0x7002, p.2)

/-- Ant reads one word of an SRAM; the last word of the shared SRAM ends its lap (R348). -/
def antScrub (p : Dev × MemSys) (a : Nat) : Dev × MemSys :=
  let w := a - a % 4
  match regionOf a with
  | some .safety => scrubWord p .safety w
  | some .shared =>
    let q := scrubWord p .shared w
    if w = 0x183FFFFC then
      let s := q.1
      let ms := (s.now - s.memc.antStart) / msCyc
      let s1 := { s with memc := { s.memc with antStart := s.now, antRows := [] } }.wrN R.SCRB_ANTLAP ms
      let slow := decide (10000 * msCyc < s.now - s.memc.antStart)
      (if slow then (s1.setBit R.SCRB_STATUS 0).log 0x7020 ms 0 0 else s1, q.2)
    else q
  | _ => p

/-- LAPTIME in fabric cycles, and the cycle at which a line falls due (R349). -/
def Dev.lapCyc (s : Dev) : Nat := s.fld F.SCRB_WCFG_LAPTIME * 60000 * msCyc
def Dev.lineDue (s : Dev) : Nat := s.memc.weevStart + (s.rd R.SCRB_WPOS).toNat * s.lapCyc / 134217728

/-- A Weevil lap ends: WLAP, and WSLOW when it ends more than 10 % late. -/
def Dev.weevLap (s : Dev) : Dev :=
  let took := s.now - s.memc.weevStart
  let mins := took / (60000 * msCyc)
  let laps := min 65535 ((s.rd R.SCRB_WLAP).toNat / 65536 + 1)
  let s1 := ({ s with memc := { s.memc with weevStart := s.now, weevRows := [] } }.wrN R.SCRB_WPOS 0).wrN R.SCRB_WLAP (laps * 65536 + mins % 65536)
  if 11 * s.lapCyc < 10 * took then (s1.setBit R.SCRB_STATUS 1).log 0x7021 mins (s.fld F.SCRB_WCFG_LAPTIME) 0 else s1

/-- Weevil reads the next line of eight code words. -/
def weevLine (p : Dev × MemSys) : Dev × MemSys :=
  let l := (p.1.rd R.SCRB_WPOS).toNat
  let q := (upTo 8).foldl (fun x i => scrubWord x .dram (0x800000000 + l * 64 + i * 8)) p
  if l + 1 = 134217728 then (q.1.weevLap, q.2) else (q.1.wrN R.SCRB_WPOS (l + 1), q.2)

/-- The row WEEVIL_LINE: with DRAM active, the line that has fallen due. -/
def weevRow (p : Dev × MemSys) : Dev × MemSys :=
  if p.1.memc.selfRefresh = false ∧ p.1.lineDue ≤ p.1.now then weevLine p else p

/-- A visit reads every line then due, at most a whole lap (R349). -/
def weevDue : Nat → (Dev × MemSys) → Dev × MemSys
  | 0, p => p
  | k + 1, p => if p.1.lineDue ≤ p.1.now then weevDue k (weevLine p) else p

def weevVisit (p : Dev × MemSys) : Dev × MemSys :=
  if p.1.memc.selfRefresh then weevDue 134217728 p else p

/-! ## Repair and flash health (R351 to R353) -/

/-- The number of unused fuse records. -/
def Dev.fuseLeft (s : Dev) : Nat := ((upTo 64).filter fun i => (s.rd (R.MEMC_FUSE_REC i)).toNat < 2147483648).length

/-- A write to FUSE_PROG with GO, at presence level 2 (R351). -/
def Dev.fuseProgram (s : Dev) (m : Master) (val : Word) : Dev :=
  let s0 := s.plainWrite m R.MEMC_FUSE_PROG val
  if s.level ≠ 2 ∨ s.flag F.MEMC_FUSE_STATUS_BUSY ∨ bitN val.toNat 31 = false then s0
  else if s.fuseLeft = 0 then (s0.setFld F.MEMC_FUSE_STATUS_RESULT 2).setFlag F.MEMC_IRQ_REPAIR true
  else
    let s1 := { s0 with memc := { s0.memc with fuseBusy := some val } }
    (s1.setFlag F.MEMC_FUSE_STATUS_BUSY true).setFld F.MEMC_FUSE_STATUS_RESULT 0

/-- The programming has ended: the record, RESULT done, event 0x7031. -/
def Dev.fuseDone (s : Dev) : Dev :=
  match s.memc.fuseBusy with
  | none => s
  | some v =>
    let i := 64 - s.fuseLeft
    let s1 := { s with memc := { s.memc with fuseBusy := none } }.wrN (R.MEMC_FUSE_REC i) (2147483648 + v.toNat % 2147483648)
    let s2 := (s1.setFlag F.MEMC_FUSE_STATUS_BUSY false).setFld F.MEMC_FUSE_STATUS_RESULT 1
    ((s2.setFld F.MEMC_FUSE_STATUS_LEFT s2.fuseLeft).setFlag F.MEMC_IRQ_REPAIR true).log 0x7031 i (v.toNat / 536870912 % 4) (v.toNat % 536870912)

/-- The spare rows left in a bank (R352). -/
def Dev.spareLeft (s : Dev) (bank : Nat) : Nat :=
  Config.spareRows bank - alGet s.nv.pprUsed bank 0 - (s.nv.ppr.filter fun w => w.toNat / 33554432 % 16 == bank).length

/-- A write to PPR_REQ with GO, at presence level 2 (R352). -/
def Dev.pprRequest (s : Dev) (m : Master) (val : Word) : Dev :=
  let s0 := s.plainWrite m R.MEMC_PPR_REQ val
  if s.level ≠ 2 ∨ bitN val.toNat 31 = false then s0
  else
    let bank := val.toNat / 33554432 % 16
    if s.spareLeft bank = 0 then ((s0.setFld F.MEMC_PPR_STATUS_RESULT 3).setFld F.MEMC_PPR_STATUS_LEFT 0).setFlag F.MEMC_IRQ_REPAIR true
    else
      let s1 := { s0 with nv := { s0.nv with ppr := s0.nv.ppr ++ [val] } }
      (s1.setFld F.MEMC_PPR_STATUS_RESULT 5).setFld F.MEMC_PPR_STATUS_LEFT (s1.spareLeft bank)

/-- The hourly health report (R353): a rise to "warning" or to "urgent". -/
def Dev.flashHealth (s : Dev) (life : Nat) (pre : Nat) : Dev :=
  let was := s.fld F.FLSH_HEALTH_PREEOL
  let s1 := (s.setFld F.FLSH_HEALTH_LIFE life).setFld F.FLSH_HEALTH_PREEOL pre
  let s2 := if was < 2 ∧ 2 ≤ pre then s1.logE 0x7040 pre life 0 else s1
  if was < 3 ∧ pre = 3 then ((s2.log 0x7041 pre life 0).setFlag F.EVR_STATUS_ARCHOFF true).log 0x0045 1 0 0 else s2

end Sys2Proof.Machine
end

