-- ==== Sys2Proof/Machine/Ring.lean ====
section
/-! DEFINITION. LRING (R180 to R206): the ring cycle, the frames that leave and return, slots and the lock encoding, payload
entries and messages, the tail, breaks, enumeration. -/

namespace Sys2Proof.Machine

def Dev.setRing (s : Dev) (r : RingSt) : Dev := { s with ring := r }
def Dev.node (s : Dev) (a : Nat) : NodeSt := alGet s.ring.nodes a {}
def Dev.putNode (s : Dev) (a : Nat) (x : NodeSt) : Dev := s.setRing { s.ring with nodes := alSet s.ring.nodes a x }
def Dev.rState (s : Dev) : Nat := s.fld F.LRING_STATUS_STATE
def Dev.rSet (s : Dev) (st : Nat) : Dev := s.setFld F.LRING_STATUS_STATE st

/-- Byte `a - 1` of a byte-packed register array. -/
def Dev.packed (s : Dev) (reg : Nat → Nat) (a : Nat) : Nat := (s.rd (reg ((a - 1) / 4))).toNat / 2 ^ (8 * ((a - 1) % 4)) % 256

/-- Lock mask and expected class of an address, as LRING holds them. -/
def Dev.lmask (s : Dev) (a : Nat) : Nat := s.packed R.LRING_LMASK a
def Dev.eclass (s : Dev) (a : Nat) : Nat := s.packed R.LRING_CLASS a

/-- The enumerated node at ring position p (1 up): address and class. -/
def Dev.orderAt (s : Dev) (p : Nat) : Nat := s.fld (F.LRING_ORDER_ADDR p)
def Dev.orderClass (s : Dev) (p : Nat) : Nat := s.fld (F.LRING_ORDER_CLASS p)

/-- A machine-side class (R202). -/
def isMachine (c : Nat) : Bool := 0x10 ≤ c && c ≤ 0x1F

def Dev.positions (s : Dev) : List Nat := ((upTo 192).map (· + 1)).filter fun p => s.orderAt p != 0

/-- Insert into a rising list. -/
def insAsc (a : Nat) : List Nat → List Nat
  | [] => [a]
  | b :: t => if a ≤ b then a :: b :: t else b :: insAsc a t

/-- The machine addresses in ascending order, and the ordinary ones in ring order (R185). -/
def Dev.machineAddrs (s : Dev) : List Nat := ((s.positions.filter fun p => isMachine (s.orderClass p)).map s.orderAt).foldr insAsc []
def Dev.ordinaryAddrs (s : Dev) : List Nat := (s.positions.filter fun p => !isMachine (s.orderClass p)).map s.orderAt

/-! ## Check codes of the ring (R187) -/

def crc16 (start : Nat) (l : List Byte) : List Byte := leBytes 2 (crcBytes 16 0x1021 start l)
def crc32r (start : Nat) (l : List Byte) : List Byte := leBytes 4 (crcBytes 32 0x04C11DB7 start l)

/-- Start values for address a: uplink and downlink CRC-16, uplink and downlink CRC-32. -/
def startUp (a : Nat) : Nat := 0xFFFF ^^^ (a * 0x0101)
def startDn (a : Nat) : Nat := startUp a ^^^ 0xFFFF
def start32Up (a : Nat) : Nat := 0xFFFF0000 + startUp a
def start32Dn (a : Nat) : Nat := 0xFFFF0000 + startDn a

def by8 (x : Nat) : Byte := BitVec.ofNat 8 x

/-! ## Line code (R182, R183) -/

/-- The code groups of ISO/IEC 9314-1: the sixteen nibbles. (PRESUMED, log 126) -/
def dataGroup (x : Nat) : Nat :=
  [0x1E, 0x09, 0x14, 0x15, 0x0A, 0x0B, 0x0E, 0x0F, 0x12, 0x13, 0x16, 0x17, 0x1A, 0x1B, 0x1C, 0x1D].getD x 0

/-- I, H, and the delimiters J K and T R. (PRESUMED, log 126) -/
def groupI : Nat := 0x1F
def groupH : Nat := 0x04
def startDelim : List Nat := [0x18, 0x11]
def endDelim : List Nat := [0x0D, 0x07]

/-- A frame as code groups: SD, every byte's low nibble first, ED (R182, R185). -/
def frameGroups (l : List Byte) : List Nat :=
  startDelim ++ (l.map fun b => [dataGroup (b.toNat % 16), dataGroup (b.toNat / 16)]).flatten ++ endDelim

/-- NRZI: a transition for every 1, the first bit of a group being its most significant (R182). -/
def nrzi (level : Bool) (groups : List Nat) : List Bool :=
  ((groups.map fun g => [4, 3, 2, 1, 0].map fun i => bitN g i).flatten.foldl
    (fun (acc : Bool × List Bool) b => let x := acc.1 != b; (x, x :: acc.2)) (level, [])).2.reverse

/-- What RING_TX[p] carries in the present cycle: the frame's groups, and the group between frames, none where it is high impedance
(R182, R183, R200, R206). -/
def Dev.pairFrame (s : Dev) (p : Fin 2) : List Nat := if s.ring.sent[p] = [] then [] else frameGroups s.ring.sent[p]
def Dev.pairIdle (s : Dev) (p : Fin 2) : Option Nat :=
  match s.ring.idle[p] with | 0 => none | 1 => some groupI | _ => some groupH

/-! ## The frame that leaves (R185, R186, R188, R194, R196 to R198) -/

/-- The frame time F in fabric cycles: 0.4 µs per byte (R185). (DESIGN CHOICE, log 75) -/
def frameCyc (no mc : Nat) : Nat := 160 * (176 + 8 * no + 48 * mc)

/-- An ordinary downlink slot. -/
def Dev.downSlot (s : Dev) (n a : Nat) : List Byte :=
  let w := (s.rd (R.LRING_TXOUT a)).toNat
  let l := [by8 a, by8 (n % 16)] ++ leBytes 4 w
  l ++ crc16 (startDn a) l

/-- The header (R186). -/
def Dev.ringHeader (s : Dev) (n : Nat) (enum dual : Bool) (dir ns mc : Nat) : List Byte :=
  let car := (s.rd R.LRING_CAR).toNat
  let mid := if enum then
      (match s.ring.acmd with
       | some w => [by8 1, by8 (w.toNat % 256)] ++ leBytes 2 (w.toNat / 65536) ++ [by8 (w.toNat / 256 % 256), 0]
       | none => [0, 0, 0, 0, 0, 0])
    else leBytes 3 car ++ [0, 0, 0]
  let h := [by8 (if enum then 2 else 1), by8 (b2n dual + 2 * dir)] ++ leBytes 4 n ++ [by8 ns, by8 mc] ++ mid
  h ++ crc16 0xFFFF h

/-- The tail as the module sends it (R198). -/
def ringTail (n : Nat) : List Byte :=
  let t := leBytes 4 n ++ List.replicate 8 0
  t ++ crc16 0xFFFF t

/-- The drive values of the process block, for the drive node while the drive travels in the machine slot (R197). -/
def Dev.processBlock (s : Dev) (a : Nat) : List Byte :=
  if s.od? 0x2404 1 = a ∧ s.od? 0x2210 6 = 1 then
    leBytes 4 (s.od? 0x2210 1) ++ leBytes 4 (s.od? 0x2210 2) ++ leBytes 2 (s.od? 0x2210 3) ++ leBytes 2 (s.od? 0x2210 4) ++ List.replicate 4 0
  else List.replicate 16 0

/-- A machine downlink slot with its message block (R196). -/
def Dev.downMachine (s : Dev) (n a : Nat) (msg : List Byte) : List Byte :=
  let l := [by8 a, by8 (n % 16), 0, 0] ++ s.processBlock a ++ (msg ++ List.replicate 24 0).take 24
  l ++ crc32r (start32Dn a) l

/-- A payload entry (R194). -/
def payloadEntry (a dctl : Nat) (pl : List Byte) : List Byte :=
  let l := [by8 a, by8 dctl] ++ (pl ++ List.replicate 32 0).take 32
  l ++ crc16 (startDn a) l

/-! ## The queues in shared SRAM -/

/-- The places of the entries that wait in a queue, oldest first. -/
def waiting (size head tail : Nat) : List Nat :=
  if size = 0 then [] else (upTo ((head + size - tail) % size)).map fun i => (tail + i) % size

/-- Read an entry as LRING; an unreadable entry is discarded with status 2 (R343). -/
def queueRead (p : Dev × MemSys) (base len i : Nat) : Option (List Byte) × (Dev × MemSys) := memFetch p 8 (base + len * i) len

/-- Write an entry's status back. -/
def queueStatus (p : Dev × MemSys) (base len i off st : Nat) (two : Bool) : Dev × MemSys :=
  (memStore p 8 (base + len * i + off) (if two then leBytes 2 st else [by8 st])).2

/-- Move TAIL past the entries that are done or dropped; `fin` lists their places. -/
def advanceTail (l fin : List Nat) (tail : Nat) : Nat :=
  match l with
  | [] => tail
  | i :: t => if fin.contains i then advanceTail t fin (match t with | j :: _ => j | [] => i + 1) else i

/-- A payload entry of the transmit queue ends: status, service count, TAIL (R195). -/
def ptxEnd (p : Dev × MemSys) (i st : Nat) : Dev × MemSys :=
  let s := p.1
  let base := (s.rd R.LRING_PTXBASE).toNat
  let size := s.fld F.LRING_PTXCTL_SIZE
  let q := queueStatus p base 40 i 2 st true
  let s1 := q.1.setRing { q.1.ring with svc := alSet q.1.ring.svc i 255 }
  let fin := (s1.ring.svc.filter fun x => x.2 == 255).map (·.1)
  let t := advanceTail (waiting size (s.fld F.LRING_PTXCTL_HEAD) (s.fld F.LRING_PTXCTL_TAIL)) fin (s.fld F.LRING_PTXCTL_TAIL) % (if size = 0 then 256 else size)
  let gone := (waiting size t (s.fld F.LRING_PTXCTL_TAIL))
  let s2 := s1.setRing { s1.ring with svc := alDrop s1.ring.svc fun k => gone.contains k }
  (s2.setFld F.LRING_PTXCTL_TAIL t, q.2)

/-- A message entry of the transmit queue ends. -/
def mtxEnd (p : Dev × MemSys) (i st : Nat) : Dev × MemSys :=
  let s := p.1
  let base := (s.rd R.LRING_MTXBASE).toNat
  let size := s.fld F.LRING_MTXCTL_SIZE
  let q := queueStatus p base 32 i 3 st false
  let s1 := q.1.setRing { q.1.ring with msvc := alSet q.1.ring.msvc i 255 }
  let fin := (s1.ring.msvc.filter fun x => x.2 == 255).map (·.1)
  let t := advanceTail (waiting size (s.fld F.LRING_MTXCTL_HEAD) (s.fld F.LRING_MTXCTL_TAIL)) fin (s.fld F.LRING_MTXCTL_TAIL) % (if size = 0 then 256 else size)
  let gone := (waiting size t (s.fld F.LRING_MTXCTL_TAIL))
  let s2 := s1.setRing { s1.ring with msvc := alDrop s1.ring.msvc fun k => gone.contains k }
  (s2.setFld F.LRING_MTXCTL_TAIL t, q.2)

/-- Add an entry to a receive queue, or drop it with 0x300A (R195). -/
def receivePut (p : Dev × MemSys) (baseReg : Nat) (size head tail : Fld) (queue a : Nat) (entry : List Byte) : Dev × MemSys :=
  let s := p.1
  let sz := s.fld size
  let h := s.fld head
  if sz = 0 ∨ (h + 1) % sz = s.fld tail then (s.log 0x300A a queue 0, p.2)
  else
    let q := (memStore p 8 ((s.rd baseReg).toNat + entry.length * h) entry).2
    ((q.1.setFld head ((h + 1) % sz)).setFlag F.LRING_IRQ_RXQ true, q.2)

/-- The oldest waiting entry of each address in the payload transmit queue, with its DCTL and payload. -/
def ptxPending (p : Dev × MemSys) : List (Nat × Nat × List Byte) × (Dev × MemSys) :=
  let s := p.1
  let base := (s.rd R.LRING_PTXBASE).toNat
  let l := waiting (s.fld F.LRING_PTXCTL_SIZE) (s.fld F.LRING_PTXCTL_HEAD) (s.fld F.LRING_PTXCTL_TAIL)
  l.foldl (fun acc i =>
    if alGet acc.2.1.ring.svc i 0 = 255 then acc
    else
      match queueRead acc.2 base 40 i with
      | (none, q) => (acc.1, ptxEnd q i 2)
      | (some e, q) =>
        let a := (e.getD 0 0).toNat
        if acc.1.any fun x => x.1 == a then (acc.1, q) else (acc.1 ++ [(a, i, e)], q)) ([], p)

/-- The oldest waiting message of each machine node. -/
def mtxPending (p : Dev × MemSys) : List (Nat × Nat × List Byte) × (Dev × MemSys) :=
  let s := p.1
  let base := (s.rd R.LRING_MTXBASE).toNat
  let l := waiting (s.fld F.LRING_MTXCTL_SIZE) (s.fld F.LRING_MTXCTL_HEAD) (s.fld F.LRING_MTXCTL_TAIL)
  l.foldl (fun acc i =>
    if alGet acc.2.1.ring.msvc i 0 = 255 then acc
    else
      match queueRead acc.2 base 32 i with
      | (none, q) => (acc.1, mtxEnd q i 2)
      | (some e, q) =>
        let a := (e.getD 0 0).toNat
        if acc.1.any fun x => x.1 == a then (acc.1, q) else (acc.1 ++ [(a, i, e)], q)) ([], p)

/-- The addresses served in this cycle: candidates in ascending order after the last one served, at most four (R195). -/
def serveOrder (last : Nat) (cand : Nat → Bool) : List Nat :=
  (((upTo 192).map fun i => (last + i) % 192 + 1).filter cand).take 4

/-! ## The start of a cycle (R184, R195, R201, R206) -/

def Dev.dualForced (s : Dev) : Bool := s.flag F.LRING_CTRL_DUALFORCE
def Dev.dual (s : Dev) : Bool := s.flag F.LRING_STATUS_DUAL

/-- Enter or leave dual mode (R201). -/
def Dev.setDual (s : Dev) (on : Bool) : Dev :=
  if s.dual = on then s else (s.setFlag F.LRING_STATUS_DUAL on).setFlag F.LRING_IRQ_DUALCHG true

/-- Count one more service of a queue entry. -/
def bumpSvc (l : List (Nat × Nat)) (i : Nat) : List (Nat × Nat) := alSet l i (alGet l i 0 + 1)

/-- The payload block of a RUN frame: what is served, its bytes. -/
def fillEntries (p : Dev × MemSys) : List (SentEntry × List Byte) × (Dev × MemSys) :=
  let r := ptxPending p
  let s := r.2.1
  let who := serveOrder s.ring.lastServed fun a => r.1.any (fun x => x.1 == a) || (s.node a).req
  let es : List (SentEntry × List Byte) := who.map fun a =>
    match r.1.find? fun x => x.1 == a with
    | some (_, i, e) => ({ addr := a, slot := some i }, payloadEntry a ((e.getD 1 0).toNat % 128) ((e.drop 4).take 32))
    | none => ({ addr := a, slot := none }, payloadEntry a 0 [])
  let svc := es.foldl (fun l (x : SentEntry × List Byte) => match x.1.slot with | some i => bumpSvc l i | none => l) s.ring.svc
  (es, (s.setRing { s.ring with entries := es.map (·.1), svc := svc, lastServed := who.getLast?.getD s.ring.lastServed }, r.2.2))

/-- The group node while the machine slot carries the group messages (R220), else 0. -/
def Dev.groupVia (s : Dev) : Nat := if s.od? 0x2500 2 = 1 then s.od? 0x2404 2 else 0

/-- The frames of a cycle leave, on port 1 as well in dual mode, with DIR set there (R186, R201). -/
def Dev.framesOut (s : Dev) (f : Nat → List Byte) : Vector (List Byte) 2 := #v[f 0, if s.dual then f 1 else []]

/-- The frame of a RUN cycle leaves the module. A waiting message of the group goes out where no queued one does. -/
def sendRun (p : Dev × MemSys) (n : Nat) : Dev × MemSys :=
  let e := fillEntries p
  let mq := mtxPending e.2
  let s := mq.2.1
  let ma := s.machineAddrs
  let oa := s.ordinaryAddrs
  let msgOf (a : Nat) : List Byte := match mq.1.find? fun x => x.1 == a with | some (_, _, b) => (b.drop 1).take 2 ++ (b.drop 4).take 22 | none => if s.groupVia = a then s.bid.slotOut.headD [] else []
  let grp := s.groupVia ≠ 0 ∧ ma.contains s.groupVia ∧ s.bid.slotOut ≠ [] ∧ (mq.1.any fun x => x.1 == s.groupVia) = false
  let sentMsgs : List (Nat × Nat) := ma.filterMap fun a =>
    match mq.1.find? fun x => x.1 == a with | some (_, i, _) => some (a, i) | none => none
  let frame (dir : Nat) := s.ringHeader n false s.dual dir (ma.length + oa.length) ma.length ++ ((e.1.map fun (x : SentEntry × List Byte) => x.2).flatten ++ List.replicate 144 0).take 144 ++
    (ma.map fun a => s.downMachine n a (msgOf a)).flatten ++ (oa.map (s.downSlot n)).flatten ++ ringTail n
  (s.setRing { s.ring with sent := s.framesOut frame, kind := 0, msgs := sentMsgs, msvc := sentMsgs.foldl (fun l (x : Nat × Nat) => bumpSvc l x.2) s.ring.msvc, rx := [], open_ := true, grp := decide grp }, mq.2.2)

/-- The frame of an ENUM cycle: 192 free slots; `kind` tells those of an enumeration (2) from those of FAULT (1). -/
def Dev.sendEnum (s : Dev) (n : Nat) : Dev :=
  let frame (dir : Nat) := s.ringHeader n true s.dual dir 192 0 ++ List.replicate 144 0 ++ List.replicate 1536 0 ++ ringTail n
  s.setRing { s.ring with sent := s.framesOut frame, kind := if s.rState = 2 then 2 else 1, entries := [], msgs := [], rx := [], open_ := true }

/-! ## The returning frames (R184, R190, R202) -/

/-- What a port's transmit pair carries between frames (R200, R206): 0 high impedance, 1 I, 2 H. -/
def Dev.putIdle (s : Dev) (p : Fin 2) (x : Nat) : Dev := s.setRing { s.ring with idle := s.ring.idle.set p (if s.rState = 0 then 0 else x) }

/-- A returning frame ended, or its window did (R184); a lost side that hears valid groups is answered with I (R200). -/
def Dev.ringFrame (s : Dev) (port : Fin 2) (bytes : List (Option Byte)) (endC : Nat) : Dev :=
  let s1 := if s.ring.sideLost[port] then s.putIdle port 1 else s
  if s.ring.open_ then s1.setRing { s1.ring with rx := s.ring.rx ++ [{ port := port.val, bytes := bytes, endC := endC }] } else s1

/-- The window end after T(8n) in fabric cycles. (DESIGN CHOICE, log 75) -/
def windowEnd : Nat := 398400

/-- A place of a frame arrived before the window end: 160 cycles per byte, the end delimiter last. (DESIGN CHOICE, log 75) -/
def RingFrame.inTime (f : RingFrame) (last : Nat) : Bool := decide (f.endC < windowEnd + 160 * (f.bytes.length - last))

/-- An element as it returned complete before the window end: its bytes with violations, or none. -/
def RingFrame.elem (f : RingFrame) (off len : Nat) : Option (List (Option Byte)) :=
  if off + len ≤ f.bytes.length ∧ f.inTime (off + len - 1) then some ((f.bytes.drop off).take len) else none

/-- The bytes of an element without a violation. -/
def clean : List (Option Byte) → Option (List Byte)
  | [] => some []
  | none :: _ => none
  | some b :: t => (clean t).map (b :: ·)

/-- The direction of a frame: FLAGS bit 1 of its header, where that byte arrived. -/
def RingFrame.dir (f : RingFrame) : Nat := match f.bytes.getD 1 none with | some b => b.toNat / 2 % 2 | none => 1 - f.port

/-- A frame that came back at the port that sent it (R200). -/
def RingFrame.wrapped (f : RingFrame) : Bool := f.port = f.dir

/-- Offset and length of an address's slot in a RUN frame. -/
def Dev.slotPlace (s : Dev) (a : Nat) : Option (Nat × Nat) :=
  let ma := s.machineAddrs
  let oa := s.ordinaryAddrs
  match ma.findIdx? (· == a) with
  | some i => some (160 + 48 * i, 48)
  | none => match oa.findIdx? (· == a) with
    | some i => some (160 + 48 * ma.length + 8 * i, 8)
    | none => none

/-- The judgement of one copy of a slot (R190). -/
inductive Verdict where
  | absent
  | bad (reason : Nat)
  | good (bytes : List Byte)
  deriving DecidableEq, Repr

/-- R190 for one copy: the checks in the table's order. While PRESENT is 0, the first of the slots that bring it back is taken whatever
its SEQ (R191). (DEDUCED, log 77) -/
def judgeSlot (x : NodeSt) (a : Nat) (raw : Option (List (Option Byte))) : Verdict :=
  match raw with
  | none => .absent
  | some l =>
    match clean l with
    | none => .bad 5
    | some b =>
      let g (i : Nat) : Nat := (b.getD i 0).toNat
      let mach := b.length = 48
      let crcOk := if mach then b.drop 44 = crc32r (start32Up a) (b.take 44) else b.drop 6 = crc16 (startUp a) (b.take 6)
      let step := (g 1 % 16 + 16 - x.seq) % 16
      if g 1 < 128 then .bad 6
      else if !crcOk then .bad 1
      else if g 0 ≠ a then .bad 2
      else if !mach ∧ g 2 ^^^ g 3 ≠ 0xFF then .bad 3
      else if (x.present ∨ x.ref) ∧ (step = 0 ∨ 3 < step) then .bad 4
      else .good b

/-- One address ends the cycle: accepted with its bytes, or missing with the reasons and frames to log. -/
def judgeAddr (x : NodeSt) (a : Nat) (f r : Option (List (Option Byte))) : Option (List Byte) × List (Nat × Nat) :=
  match judgeSlot x a f, judgeSlot x a r with
  | .good p, .good q => if p = q then (some p, []) else (none, [(7, 0)])
  | .good p, _ => (some p, [])
  | _, .good q => (some q, [])
  | v, w =>
    let one (v : Verdict) (k : Nat) : List (Nat × Nat) := match v with | .bad c => [(c, k)] | _ => []
    (none, one v 0 ++ one w 1)

/-- PRESENT falls after three missing cycles (R191): 0x3001. -/
def Dev.nodeLost (s : Dev) (a : Nat) : Dev :=
  let x := s.node a
  if x.present ∧ 3 ≤ x.miss then
    ((s.putNode a { x with present := false, ref := false, two := false }).setFlag F.LRING_IRQ_NODELOST true).log 0x3001 a (s.eclass a) (s.lmask a)
  else s

/-- PRESENT returns after two accepted slots with SEQ stepping by 1 (R191): `two` marks the second of them. (DEDUCED, log 77) -/
def Dev.nodeRegained (s : Dev) (a : Nat) : Dev :=
  let x := s.node a
  if x.present = false ∧ x.two then (s.putNode a { x with present := true, ref := false, two := false }).log 0x3002 a x.seq 0 else s

/-- An accepted slot (R191): `ref` marks an accepted slot of the cycle before while PRESENT is 0. (DEDUCED, log 77) -/
def Dev.slotTaken (s : Dev) (a : Nat) (b : List Byte) : Dev :=
  let x := s.node a
  let q := (b.getD 1 0).toNat
  let y : NodeSt := { x with miss := 0, seq := q % 16, lock := if b.length = 8 then b.getD 2 0 else 0, req := bitN q 6, ref := !x.present,
                             two := !x.present && x.ref && decide (q % 16 = (x.seq + 1) % 16) }
  let s1 := s.putNode a y
  let s2 := (s1.setFld (F.LRING_ERR_SEQ a) (q % 16)).setFld (F.LRING_ERR_MISS a) 0
  s2.nodeRegained a

/-- A missing slot with its rejected copies (R190, R191). -/
def Dev.slotMissing (s : Dev) (a : Nat) (rej : List (Nat × Nat)) : Dev :=
  let s0 := rej.foldl (fun e x => (e.satInc (F.LRING_ERR_REJ a)).log 0x3003 a x.1 x.2) s
  let x := s0.node a
  let s1 := s0.putNode a { x with miss := min 255 (x.miss + 1), ref := false, two := false }
  (s1.setFld (F.LRING_ERR_MISS a) (min 255 (x.miss + 1))).nodeLost a

/-- A cycle without a slot of any address (R190, R191). -/
def Dev.allMissing (s : Dev) : Dev := ((upTo 192).map (· + 1)).foldl (fun e a => e.slotMissing a []) s

/-! ## Tail and node count (R192, R198) -/

/-- The tail of a frame: HOPS, WRAPADDR and whether its check is good. -/
def RingFrame.tail (f : RingFrame) : Option (Nat × Nat) :=
  match f.elem (f.bytes.length - 14) 14 with
  | none => none
  | some l => match clean l with
    | none => none
    | some b => if b.drop 12 = crc16 0xFFFF (b.take 12) then some (ofLe ((b.drop 4).take 2), (b.getD 6 0).toNat) else none

/-- The nodes that a frame has passed, or a fault (R192). -/
def RingFrame.passed (f : RingFrame) : Option Nat :=
  match f.tail with
  | none => none
  | some (h, _) => if f.wrapped then (if h % 2 = 0 then none else some ((h + 1) / 2)) else some h

/-- Three cycles with the condition: HOPSFLT, its interrupt flag and event (R192). -/
def Dev.nodeCountFault (s : Dev) (passed acc frame : Nat) : Dev :=
  if 3 ≤ s.ring.hopsRun ∧ s.ring.hopsFlt = false then
    let s1 := (s.setRing { s.ring with hopsFlt := true }).setFlag F.LRING_STATUS_HOPSFLT true
    (s1.setFlag F.LRING_IRQ_HOPSFLT true).log 0x3006 passed acc frame
  else s

/-- The lock vector by a set of masks (R191, R192): bit a - 1 of a number. -/
def Dev.lockVec (s : Dev) (mask : Nat → Nat) : List Bool :=
  ((upTo 192).map (· + 1)).map fun a =>
    let m := mask a
    m = 0 || (s.rState = 3 && !s.ring.hopsFlt && (s.node a).present && ((s.node a).lock.toNat &&& m) == m)

/-- Bits as bytes, the lowest address in bit 0 (R193). -/
def bitsToBytes : Nat → List Bool → List Byte
  | 0, _ => []
  | n + 1, l => by8 ((l.take 8).foldr (fun b acc => b2n b + 2 * acc) 0) :: bitsToBytes n (l.drop 8)

/-- LVHASH (R193). -/
def lvHash (n : Nat) (l : List Bool) : Nat := crc32 (leBytes 4 n ++ bitsToBytes 24 l)

/-! ## The end of the receive window (R184, R201) -/

/-- A frame that has not ended in the window: LATE and 0x3009 (R184). -/
def Dev.frameLate (s : Dev) (k : Nat) (f : Option RingFrame) : Dev :=
  let late := match f with | some x => decide (windowEnd ≤ x.endC) | none => true
  if late then (s.setFlag F.LRING_STATUS_LATE true).log 0x3009 k (match f with | some x => x.endC / 40 | none => 0xFFFFFFFF) 0 else s

/-- A frame ended whole at the opposite port within the window. -/
def wholeAt (f : Option RingFrame) : Bool := match f with | some x => decide (x.endC < windowEnd) && !x.wrapped | none => false

/-- Sixteen clean dual cycles return LRING to single mode (R201). -/
def Dev.dualLeave (s : Dev) : Dev :=
  if s.dual ∧ 16 ≤ s.ring.dualClean ∧ s.dualForced = false then
    let s1 := (s.setRing { s.ring with dualClean := 0, dualFor := 0, dualNext := false }).setDual false
    s1.log 0x3005 s.ring.dualFor 0 0
  else s

/-- The raw bytes of a slot as a buffer holds them (R193): the first eight, a violation as it is shown. (DESIGN CHOICE, log 13) -/
def rawBytes (n a : Nat) (l : Option (List (Option Byte))) : List Byte :=
  match l with
  | none => List.replicate 8 0
  | some x => (x.take 8).zipIdx.map fun p => p.1.getD (Config.lineByte n (8 * a + p.2))

/-- The payload entries of the returning frames (R195, R201): the forward copy first. (DESIGN CHOICE, log 78) -/
def entriesBack (f r : Option RingFrame) (n : Nat) (p : Dev × MemSys) : Dev × MemSys :=
  let get (k a : Nat) (x : Option RingFrame) : Option (List Byte) := match x with
    | none => none
    | some x => match x.elem (16 + 36 * k) 36 with
      | none => none
      | some l => match clean l with
        | none => none
        | some b => if (b.getD 0 0).toNat = a ∧ 128 ≤ (b.getD 1 0).toNat ∧ b.drop 34 = crc16 (startUp a) (b.take 34) then some b else none
  p.1.ring.entries.zipIdx.foldl (fun acc e =>
    let a := e.1.addr
    match (match get e.2 a f with | some b => some b | none => get e.2 a r) with
    | some b =>
      let q := match e.1.slot with | some i => ptxEnd acc i 1 | none => acc
      if bitN (b.getD 1 0).toNat 5 then q
      else receivePut q R.LRING_PRXBASE F.LRING_PRXCTL_SIZE F.LRING_PRXCTL_HEAD F.LRING_PRXCTL_TAIL 1 a
        ([by8 a, b.getD 1 0, 0, 0] ++ (b.drop 2).take 32 ++ leBytes 4 n)
    | none =>
      match e.1.slot with
      | some i => if 3 ≤ alGet acc.1.ring.svc i 0 then let q := ptxEnd acc i 2; (q.1.log 0x300A a 0 0, q.2) else acc
      | none => acc) p

/-- The row PAYLOAD_ENTRY_DROPPED: an entry of an address with three services behind it. (DESIGN CHOICE, log 78) -/
def entryDrop (a : Nat) (p : Dev × MemSys) : Dev × MemSys :=
  match p.1.ring.entries.find? fun e => e.addr == a with
  | some ⟨_, some i⟩ => if 3 ≤ alGet p.1.ring.svc i 0 ∧ alGet p.1.ring.svc i 0 ≠ 255 then let q := ptxEnd p i 2; (q.1.log 0x300A a 0 0, q.2) else p
  | _ => p

/-- The messages of accepted machine slots: a sent message is done, a received one goes to the queue (R196). Those of the group node
are BID's own. -/
def messagesBack (acc : List (Nat × List Byte)) (n : Nat) (p : Dev × MemSys) : Dev × MemSys :=
  let p1 := p.1.ring.msgs.foldl (fun q x =>
    if acc.any fun y => y.1 == x.1 then mtxEnd q x.2 1
    else if 3 ≤ alGet q.1.ring.msvc x.2 0 then let z := mtxEnd q x.2 2; (z.1.log 0x300A x.1 2 0, z.2) else q) p
  let p2 := if p1.1.ring.grp ∧ (acc.any fun y => y.1 == p1.1.groupVia) then ({ p1.1 with bid := { p1.1.bid with slotOut := p1.1.bid.slotOut.drop 1 } }, p1.2) else p1
  acc.foldl (fun q x =>
    if x.2.length = 48 ∧ (x.2.getD 20 0) ≠ 0 ∧ x.1 ≠ p1.1.groupVia then
      receivePut q R.LRING_MRXBASE F.LRING_MRXCTL_SIZE F.LRING_MRXCTL_HEAD F.LRING_MRXCTL_TAIL 3 x.1
        ([by8 x.1, x.2.getD 20 0, x.2.getD 21 0, 0] ++ (x.2.drop 22).take 22 ++ [0, 0] ++ leBytes 4 n)
    else q) p2

/-- The accepted copies in one frame (R192). -/
def Dev.acceptedIn (s : Dev) (addrs : List Nat) (x : Option RingFrame) : Nat :=
  match x with
  | none => 0
  | some f => (addrs.filter fun a => match s.slotPlace a with
      | some pl => (match judgeSlot (s.node a) a (f.elem pl.1 pl.2) with | .good _ => true | _ => false)
      | none => false).length

/-- One cycle's node count: a frame that passed more nodes than it brought back slots, or that is faulty. -/
def Dev.countBad (s : Dev) (addrs : List Nat) (x : Option RingFrame) : Option (Nat × Nat) :=
  match x with
  | none => none
  | some f =>
    let a := s.acceptedIn addrs (some f)
    match f.passed with
    | none => some (0, a)
    | some h => if a < h then some (h, a) else none

/-- The fault of a cycle's two counts, where it has stood for three cycles: the forward one first. -/
def Dev.countFault (s : Dev) (f r : Option (Nat × Nat)) : Dev :=
  match f, r with
  | some x, _ => s.nodeCountFault x.1 x.2 0
  | none, some x => s.nodeCountFault x.1 x.2 1
  | none, none => s

/-- The filled slots of a frame of an ENUM cycle, each with its slot position plus 1 (R202). -/
def RingFrame.enumNodes (f : RingFrame) : List EnumNode :=
  (upTo 192).filterMap fun i =>
    match f.elem (160 + 8 * i) 8 with
    | none => none
    | some l => match clean l with
      | none => none
      | some b =>
        let a := (b.getD 0 0).toNat
        if 128 ≤ (b.getD 1 0).toNat ∧ b.drop 6 = crc16 (startUp a) (b.take 6) then
          some { pos := i + 1, addr := a, cls := (b.getD 2 0).toNat, uid := ofLe ((b.drop 4).take 2) } else none

/-- The node count of a cycle's frame: an ENUM frame brings back the slots that the nodes filled (R192, R202). -/
def Dev.countOf (s : Dev) (x : Option RingFrame) : Option (Nat × Nat) :=
  if s.ring.kind = 0 then s.countBad (s.machineAddrs ++ s.ordinaryAddrs) x
  else match x with
    | none => none
    | some f => match f.passed with
      | none => some (0, f.enumNodes.length)
      | some h => if f.enumNodes.length < h then some (h, f.enumNodes.length) else none

/-- The row NODE_COUNT_FAULT: the condition on the frames received. -/
def Dev.nodeCountRow (s : Dev) : Dev :=
  s.countFault (s.countOf (s.ring.rx.find? fun f => f.dir = 0)) (s.countOf (s.ring.rx.find? fun f => f.dir = 1))

/-- The frames that returned in the cycle: the forward one, and in dual mode the reverse one. -/
def Dev.fwFrame (s : Dev) : Option RingFrame := s.ring.rx.find? fun f => f.dir = 0
def Dev.rvFrame (s : Dev) : Option RingFrame := if s.dual then s.ring.rx.find? fun f => f.dir = 1 else none

/-- The frames that did not end in the window (R184). -/
def Dev.lateFrames (s : Dev) (fw rv : Option RingFrame) : Dev :=
  let s1 := s.frameLate 0 fw
  if s.dual then s1.frameLate 1 rv else s1

/-- HOPS and WRAPADDR of a frame; a tail that did not come back whole leaves the ones before. -/
def Dev.tailOf (s : Dev) (x : Option RingFrame) (hops wrap : Fld) : Nat × Nat :=
  match x with | some f => f.tail.getD (s.fld hops, s.fld wrap) | none => (s.fld hops, s.fld wrap)

/-- How a cycle of either kind ends (R184, R192, R201): the node count, dual mode, and the results that wait for delivery. -/
def Dev.cycleEnd (s : Dev) (fw rv : Option RingFrame) (badF badR : Option (Nat × Nat)) (out : RingOut) : Dev :=
  let bad := badF.isSome || badR.isSome
  let s1 := s.setRing { s.ring with hopsRun := if bad then s.ring.hopsRun + 1 else 0, hopsFlt := s.ring.hopsFlt && bad }
  let s2 := (if bad then s1 else s1.setFlag F.LRING_STATUS_HOPSFLT false).countFault badF badR
  let tf := s.tailOf fw F.LRING_HOPS_FWD F.LRING_STATUS_WRAPF
  let tr := s.tailOf rv F.LRING_HOPS_REV F.LRING_STATUS_WRAPR
  let okF := wholeAt fw
  let cleanNow := s.dual && okF && wholeAt rv && tf.2 = 0 && tr.2 = 0 && !bad
  s2.setRing { s2.ring with
    open_ := false,
    out := some { out with n := s.ring.cycle, hopsF := tf.1, hopsR := tr.1, wrapF := tf.2, wrapR := tr.2, closed := okF },
    dualClean := if cleanNow then s2.ring.dualClean + 1 else 0,
    dualFor := if s.dual then s2.ring.dualFor + 1 else 0,
    dualNext := s2.ring.dualNext || (!s.dual && !okF) }

/-- The judgement of a RUN cycle. -/
def closeRun (p : Dev × MemSys) : Dev × MemSys :=
  let s := p.1
  let n := s.ring.cycle
  let fw := s.fwFrame
  let rv := s.rvFrame
  let addrs := s.machineAddrs ++ s.ordinaryAddrs
  let el (x : Option RingFrame) (a : Nat) : Option (List (Option Byte)) := match x, s.slotPlace a with
    | some f, some pl => f.elem pl.1 pl.2
    | _, _ => none
  let badF := s.countOf fw
  let badR := s.countOf rv
  let js := ((upTo 192).map (· + 1)).map fun a => (a, judgeAddr (s.node a) a (el fw a) (el rv a))
  let s3 := js.foldl (fun e j => match j.2.1 with | some b => e.slotTaken j.1 b | none => e.slotMissing j.1 j.2.2) (s.lateFrames fw rv)
  let acc := js.filterMap fun j => j.2.1.map fun b => (j.1, b)
  let drive := match acc.find? fun x => x.1 == s.od? 0x2404 1 with
    | some x => if x.2.length = 48 ∧ s.od? 0x2210 6 = 1 then some ((x.2.drop 4).take 8) else none
    | none => none
  let grp := (acc.filter fun x => x.1 == s.groupVia && x.2.length == 48 && x.2.getD 20 0 != 0).map fun x => (x.2.drop 20).take 24
  let out : RingOut := { acc := acc, rawF := addrs.map fun a => (a, rawBytes n a (el fw a)), rawR := addrs.map fun a => (a, rawBytes n a (el rv a)),
                         drive := drive, grpIn := grp }
  let q := messagesBack acc n (entriesBack fw rv n (s3.cycleEnd fw rv badF badR out, p.2))
  (q.1.dualLeave, q.2)

/-- LAT in fabric cycles (R204): the way of the forward frame through the ring, or under a break the larger half. -/
def latOf (cyc : Nat) (fw rv : Option RingFrame) : Nat :=
  let half (x : Option RingFrame) : Nat := match x with | some f => if f.wrapped then (f.endC - 1600 - cyc) / 2 else 0 | none => 0
  match fw with
  | some f => if f.wrapped then max (half fw) (half rv) else f.endC - 1600 - cyc
  | none => half rv

/-- The result of an ENUM cycle (R202): the nodes by ring position; under a break those of the reverse frame count from the break on. -/
def enumResult (fw rv : Option RingFrame) : List EnumNode :=
  let nodes (x : Option RingFrame) : List EnumNode := match x with | some f => f.enumNodes | none => []
  let last (l : List EnumNode) : Nat := (l.getLast?.map (·.pos)).getD 0
  let a := nodes fw
  if wholeAt fw then a
  else
    let b := nodes rv
    a ++ b.reverse.map fun x => { x with pos := last a + last b + 1 - x.pos }

/-- The judgement of an ENUM cycle: no address is heard in a slot of its own; an enumeration takes the result of its own frames. -/
def Dev.closeEnum (s : Dev) : Dev :=
  let fw := s.fwFrame
  let rv := s.rvFrame
  let s1 := (s.lateFrames fw rv).allMissing.cycleEnd fw rv (s.countOf fw) (s.countOf rv) {}
  let mine := decide (s.ring.kind = 2 ∧ s.rState = 2)
  (s1.setRing { s1.ring with enums := if mine then s1.ring.enums ++ [enumResult fw rv] else s1.ring.enums,
                             lat := if mine then latOf (frameCyc 192 0) fw rv else s1.ring.lat }).dualLeave

/-! ## Delivery at T(8n + 8) (R23, R191, R193, R197) -/

/-- LOCKVEC words. -/
def Dev.putLockVec (s : Dev) (l : List Bool) : Dev :=
  let b := bitsToBytes 24 l
  (upTo 6).foldl (fun e i => e.wrN (R.LRING_LOCKVEC i) (ofLe ((b.drop (4 * i)).take 4))) s

def Dev.putPresent (s : Dev) : Dev :=
  let b := bitsToBytes 24 (((upTo 192).map (· + 1)).map fun a => (s.node a).present)
  (upTo 6).foldl (fun e i => e.wrN (R.LRING_PRESENT i) (ofLe ((b.drop (4 * i)).take 4))) s

/-- Bytes 0 to 7 of the raw slots into their two words; 0 where nothing returned (R193). -/
def Dev.putRaw (s : Dev) (reg : Nat → Nat) (l : List (Nat × List Byte)) : Dev :=
  ((upTo 192).map (· + 1)).foldl (fun e a =>
    let b := alGet l a []
    (e.wrN (reg a) (ofLe (b.take 4))).wrN (reg a + 4) (ofLe ((b.drop 4).take 4))) s

/-- A valid drive status (R108, R197). -/
def Dev.driveStatusTake (s : Dev) (b : List Byte) : Dev :=
  ((((s.odPut 0x2211 1 (ofLe (b.take 2))).odPut 0x2211 2 (ofLe ((b.drop 2).take 4))).odPut 0x2211 3 (ofLe ((b.drop 6).take 2)))).driveStatus

/-- The results of the cycle appear. -/
def Dev.ringDeliver (s : Dev) : Dev :=
  let lv := s.lockVec s.lmask
  match s.ring.out with
  | none => if s.rState = 0 then s else (s.putLockVec lv).putPresent.wrN R.LRING_LVHASH (lvHash (s.rd R.LRING_CYCLE).toNat lv)
  | some o =>
    let s1 := ((s.putLockVec lv).putPresent.putRaw R.LRING_RAWF o.rawF).putRaw R.LRING_RAWR o.rawR
    let s2 := (((s1.wrN R.LRING_CYCLE o.n).setFld F.LRING_HOPS_FWD o.hopsF).setFld F.LRING_HOPS_REV o.hopsR).wrN R.LRING_LVHASH (lvHash o.n lv)
    let s3 := ((s2.setFld F.LRING_NODES_ACC o.acc.length).setFld F.LRING_STATUS_WRAPF o.wrapF).setFld F.LRING_STATUS_WRAPR o.wrapR
    let s4 := (s3.setFlag F.LRING_STATUS_CLOSED o.closed).setFlag F.LRING_IRQ_CYCLE true
    let s5 := match o.drive with | some b => s4.driveStatusTake b | none => s4
    { s5.setRing { s5.ring with out := none } with bid := { s5.bid with slotIn := s5.bid.slotIn ++ o.grpIn } }

/-- Dual mode begins with this cycle (R201). -/
def Dev.dualBegin (s : Dev) : Dev :=
  if (s.ring.dualNext ∨ s.dualForced) ∧ s.dual = false then
    ((s.setRing { s.ring with dualNext := false, dualClean := 0, dualFor := 0 }).setDual true).log 0x3004 (s.fld F.LRING_STATUS_WRAPF) (s.fld F.LRING_STATUS_WRAPR) (s.fld F.LRING_HOPS_FWD)
  else s

/-- The ring stops (R206): OFF, the pairs high impedance, every masked lock bit open. -/
def Dev.ringOff (s : Dev) : Dev :=
  let s1 := (s.rSet 0).setRing { s.ring with open_ := false, rx := [], out := none, disable := false, enums := [], acmd := none, hopsRun := 0, hopsFlt := false, dualNext := false, sent := Vector.replicate 2 [], idle := Vector.replicate 2 0 }
  let lv := s1.lockVec s1.lmask
  (((s1.setDual false).putLockVec lv).wrN R.LRING_LVHASH (lvHash (s1.rd R.LRING_CYCLE).toNat lv)).setFlag F.LRING_STATUS_HOPSFLT false

/-! ## Start, stop and enumeration (R203, R204, R206) -/

/-- EN becomes 1: SYNC for five cycles. -/
def Dev.ringEnable (s : Dev) : Dev :=
  let s1 := s.setFlag F.LRING_CTRL_EN true
  if s.rState = 0 then (s1.rSet 1).setRing { s1.ring with syncLeft := 5, disable := false, idle := s.ring.sideLost.map fun l => if l then 2 else 1 } else s1.setRing { s1.ring with disable := false }

/-- EN becomes 0: the ring stops at the next cycle start. -/
def Dev.ringDisable (s : Dev) : Dev :=
  let s1 := s.setFlag F.LRING_CTRL_EN false
  if s.rState = 0 then s1 else s1.setRing { s1.ring with disable := true }

/-- Five cycles of idle have passed: the enumeration begins. -/
def Dev.syncEnd (s : Dev) : Dev :=
  if s.rState = 1 ∧ s.ring.syncLeft = 0 then (s.rSet 2).setRing { s.ring with enums := [], acmd := none } else s

/-- An enumeration command is accepted (R203): presence, PGEN at rest, LRING in RUN or FAULT; the reason of a refusal. -/
def Dev.enumCheck (s : Dev) : Option Nat :=
  if s.level = 0 then some 1
  else if (s.pgState = 0 ∨ s.pgState = 4) ∧ (s.rState = 3 ∨ s.rState = 4) then none else some 2

/-- Start an enumeration, with an address assignment or without. -/
def Dev.enumStart (s : Dev) (assign : Option Word) : Dev := (s.rSet 2).setRing { s.ring with enums := [], acmd := assign }

/-- The configured addresses, and how many of them are machine nodes (R203). -/
def Dev.cfgAddrs (s : Dev) : List Nat := ((upTo 192).map (· + 1)).filter fun a => s.eclass a != 0
def Dev.cfgMachines (s : Dev) : Nat := (s.cfgAddrs.filter fun a => isMachine (s.eclass a)).length

/-- The conditions of R203: the first failing code, 0 for success. (DEDUCED, log 76) -/
def Dev.enumJudge (s : Dev) (l : List EnumNode) (same : Bool) : Nat :=
  let cfg := s.cfgAddrs
  let have_ (a : Nat) : Bool := l.any fun x => x.addr == a
  let mc := s.cfgMachines
  if !cfg.all have_ then 1
  else if l.any fun x => x.addr != 0 && s.eclass x.addr == 0 then 2
  else if l.any fun x => x.addr != 0 && x.cls != s.eclass x.addr then 3
  else if l.any fun x => x.addr != 0 && 1 < (l.filter fun y => y.addr == x.addr).length then 4
  else if l.any fun x => x.addr == 0 then 5
  else if !same then 6
  else if 398400 ≤ 1600 + frameCyc (cfg.length - mc) mc + 2 * s.ring.lat then 7
  else if 8 < mc then 8
  else if ((upTo 192).map (· + 1)).any fun a => s.lmask a != 0 && s.eclass a != 1 && s.eclass a != 7 then 9
  else 0

/-- The ring order of an enumeration; a position without a result reads 0. -/
def Dev.putOrder (s : Dev) (l : List EnumNode) : Dev :=
  ((upTo 192).map (· + 1)).foldl (fun e i => match l.find? fun x => x.pos == i with
    | some x => e.wrN (R.LRING_ORDER i) (x.addr + x.cls * 256 + x.uid * 65536)
    | none => e.wrN (R.LRING_ORDER i) 0) s

/-- Sixteen results are in: the enumeration ends in RUN or FAULT; BUDGET shows the configured slots (R204). (DEDUCED, log 76) -/
def Dev.enumEnd (s : Dev) : Dev :=
  if s.rState = 2 ∧ 16 ≤ s.ring.enums.length then
    let l := s.ring.enums.getLast?.getD []
    let same := s.ring.enums.all fun x => x == l
    let code := s.enumJudge l same
    let mc := (l.filter fun x => isMachine x.cls).length
    let s1 := ((s.putOrder l).setFld F.LRING_NODES_N l.length).setFld F.LRING_NODES_M mc
    let s2 := ((s1.setFld F.LRING_BUDGET_FRAME (frameCyc (s.cfgAddrs.length - s.cfgMachines) s.cfgMachines / 40)).setFld F.LRING_BUDGET_LAT (s.ring.lat / 4)).setFld F.LRING_STATUS_ENUMCODE code
    let s3 := ((s2.odPut 0x2403 2 code).setFlag F.LRING_IRQ_ENUMDONE true).rSet (if code = 0 then 3 else 4)
    let s4 := (s3.setRing { s3.ring with enums := [], acmd := none }).log 0x3007 code l.length mc
    match s.ring.acmd with
    | some w => s4.log 0x3008 (w.toNat % 256) (w.toNat / 256 % 256) (w.toNat / 65536)
    | none => s4
  else s

/-- The receive window of the cycle ends: an ENUM cycle's sixteenth result ends the enumeration (R203). -/
def ringClose (p : Dev × MemSys) : Dev × MemSys :=
  if p.1.ring.open_ then (if p.1.ring.kind = 0 then closeRun p else (p.1.closeEnum.enumEnd, p.2)) else p

/-- T(8n): the last cycle ends if it has not, its results appear, and the cycle's frame leaves. -/
def ringCycleStart (p : Dev × MemSys) : Dev × MemSys :=
  let n := p.1.tick / 8
  if p.1.tick % 8 = 0 ∧ (p.1.ring.started = false ∨ p.1.ring.cycle < n) then
    let q := ringClose p
    let s := q.1.ringDeliver
    let s1 := s.setRing { s.ring with cycle := n, started := true }
    if s1.ring.disable then (s1.ringOff, q.2)
    else
      match s1.rState with
      | 0 => (s1, q.2)
      | 1 =>
        let s2 := if s1.ring.syncLeft < 5 then s1.allMissing else s1
        if s2.ring.syncLeft = 0 then (s2.syncEnd.dualBegin.sendEnum n, q.2) else (s2.setRing { s2.ring with syncLeft := s2.ring.syncLeft - 1 }, q.2)
      | 3 => sendRun (s1.dualBegin, q.2) n
      | _ => (s1.dualBegin.sendEnum n, q.2)
  else p

/-- A receive side is lost or regained (R200): its transmit pair carries H, then I again. -/
def Dev.ringSide (s : Dev) (p : Fin 2) (lost : Bool) : Dev :=
  (s.setRing { s.ring with sideLost := s.ring.sideLost.set p lost }).putIdle p (if lost then 2 else 1)

end Sys2Proof.Machine
end

