-- ==== Sys2Proof/Machine/Bid.lean ====
section
/-! DEFINITION. BID (R209 to R235): the stop plan and its feasibility, the price of an insertion, group messages, the auction,
the call table, and the commands of firmware. -/

namespace Sys2Proof.Machine

def Dev.setBid (s : Dev) (b : BidSt) : Dev := { s with bid := b }

/-- This car's number (0x2500:01). -/
def Dev.car (s : Dev) : Nat := s.od? 0x2500 1

/-! ## The plan (R212, R213) -/

def PlanStop.has (x : PlanStop) (k : Nat) : Bool := x.items.any fun i => i.kind == k
def PlanStop.pax (x : PlanStop) (k : Nat) : Nat := (x.items.filter fun i => i.kind == k).foldl (fun a i => a + i.pax) 0

/-- Passengers boarding and alighting as the dwell counts them: a car call counts one (R215). -/
def PlanStop.moves (x : PlanStop) : Nat := x.pax 1 + x.pax 2 + b2n (x.has 0)

/-- A stop with what an insertion compares it against: its arrival before, and how many pickups and drop-offs it then had. -/
abbrev AStop := PlanStop × Nat × Nat

/-- Add an item to a stop; a second car call of a landing adds its sides. -/
def PlanStop.add (x : PlanStop) (i : StopItem) : PlanStop :=
  if i.kind = 0 ∧ x.has 0 then { x with items := x.items.map fun j => if j.kind == 0 then { j with side := j.side ||| i.side } else j }
  else { x with items := x.items ++ [i] }

/-- Place an item at position k (R212): merged into STOP[k - 1], else into STOP[k], else a stop of its own. The plan, the
place of the stop, and whether it is new. -/
def placeAt (l : List AStop) (k land : Nat) (i : StopItem) : List AStop × Nat × Bool :=
  let before := l.take k
  let after := l.drop k
  match before.getLast?, after with
  | some (x, n), _ =>
    if x.land = land then (before.dropLast ++ [(x.add i, n)] ++ after, k - 1, false)
    else match after with
      | (y, m) :: t => if y.land = land then (before ++ (y.add i, m) :: t, k, false) else (before ++ ({ land := land, items := [i] }, 0, 0) :: after, k, true)
      | [] => (before ++ [({ land := land, items := [i] }, 0, 0)], k, true)
  | none, (y, m) :: t => if y.land = land then ((y.add i, m) :: t, k, false) else (({ land := land, items := [i] }, 0, 0) :: after, k, true)
  | none, [] => ([({ land := land, items := [i] }, 0, 0)], k, true)

/-- The car moves: the PGEN reference has speed. -/
def Dev.moving (s : Dev) : Bool := !s.atRest

/-- The landing at which the car stands with its doors not closed and locked (R212). (DESIGN CHOICE, log 81) -/
def Dev.here? (s : Dev) : Option Nat :=
  if s.moving ∨ s.doorsShut then none else s.zoneOf (s.rdI R.POSX_FUSE_POS)

/-- STOP[0] is committed (R213 rule 2). -/
def Dev.committed (s : Dev) (land : Nat) : Bool :=
  s.fld F.PGEN_TGTLAND_VALUE = land && (s.pgState = 1 || s.pgState = 2 || s.pgState = 3 || s.pgState = 5)

/-- A landing and its sides are served for a call of this type, without RELEARN (R213 rule 6). -/
def Dev.servedFor (s : Dev) (land side typ : Nat) : Bool :=
  let v := s.od? 0x2503 (land + 1)
  let need := match typ with | 1 => bitN v 2 | 2 => bitN v 3 | 3 => bitN v 4 | _ => true
  decide (land < s.landings) && side != 0 && (side &&& v) == side && need && !s.relearn land

/-- The predicted load before the first leg (R213, R434). -/
def Dev.loadNow (s : Dev) : Int := if s.loadValid then s.load else s.bid.load

/-- The predicted loads on the legs of a plan. -/
def legLoads (mass : Nat) : Int → List PlanStop → List Int
  | _, [] => []
  | q, x :: t => q :: legLoads mass (q + (mass * x.pax 1 : Nat) - (mass * x.pax 2 : Nat)) t

def Dev.legs (s : Dev) (l : List PlanStop) : List Int := legLoads (s.od? 0x2501 8) s.loadNow l

/-- A ride from the first position to the last: every stop between lies strictly between them, in travel order (R213 rule 5). -/
def oneWay : List Int → Bool
  | [_, _] => true
  | a :: b :: t => (a < b && (b :: t).Pairwise (· < ·)) || (b < a && (b :: t).Pairwise (· > ·))
  | _ => true

/-- The positions from a stop of the plan to a drop-off of a call, both included. -/
def rideTo (pos : Nat → Int) (id : Nat) : List PlanStop → Option (List Int)
  | [] => none
  | x :: t =>
    if x.items.any fun i => i.kind == 2 && i.id == id then some [pos x.land]
    else match rideTo pos id t with
      | some r => some (pos x.land :: r)
      | none => none

/-- R213 rules 4 and 5 over the stops of a plan, in order. -/
def ridesOk (pos : Nat → Int) : List PlanStop → Bool
  | [] => true
  | x :: t =>
    (x.items.all fun i =>
      if i.kind = 1 ∧ i.typ = 3 then (match rideTo pos i.id t with | some r => oneWay (pos x.land :: r) | none => true)
      else if i.kind = 1 ∧ (i.typ = 1 ∨ i.typ = 2) then
        (match t with | [] => true | y :: _ => if i.typ = 1 then decide (x.land < y.land) else decide (y.land < x.land))
      else true) && ridesOk pos t

/-- The passengers aboard ride on from the car's present position without a reversal; the present stop is where they stand. -/
def Dev.aboardOk (s : Dev) (l : List PlanStop) : Bool :=
  let pos := s.landTarget
  let ahead := match s.here?, l with | some h, x :: t => if x.land = h then t else l | _, _ => l
  let picked := (l.map fun x => (x.items.filter fun i => i.kind == 1).map (·.id)).flatten
  let aboard := ((ahead.map fun x => (x.items.filter fun i => i.kind == 2).map (·.id)).flatten).filter fun i => !picked.contains i
  aboard.all fun id => match rideTo pos id ahead with
    | some r => oneWay ((match s.here? with | some h => pos h | none => micro s.pgen.p) :: r)
    | none => true

/-- The stops of a plan that count (R212): the present stop, held again for a pickup that merges into it, adds none. -/
def Dev.planSize (s : Dev) (l : List PlanStop) : Nat :=
  match l with
  | x :: t => if s.here? = some x.land ∧ x.has 1 ∧ x.has 0 = false ∧ x.has 2 = false ∧ (s.bid.plan.head?.map (·.land)) ≠ some x.land then t.length else l.length
  | [] => 0

/-- R213, but for rule 2, which the place of an insertion decides. -/
def Dev.feasible (s : Dev) (l : List PlanStop) : Bool :=
  decide (s.planSize l ≤ 64) &&
  (!s.moving || (match l with | x :: _ => s.goAhead (s.landTarget x.land) == none | [] => true)) &&
  ridesOk s.landTarget l && s.aboardOk l &&
  (l.all fun x => x.items.all fun i => s.servedFor x.land i.side i.typ) &&
  (s.legs l).all fun q => decide (q ≤ (s.od? 0x2501 7 : Int))

/-! ## Arrival times and cost (R215, R216) -/

/-- A plan time in whole µs, rounded up (R91), with the limits of the mode, in a re-levelling as well. -/
def Dev.tripUs (s : Dev) (p v a : F64) (target : Int) : Nat :=
  (F64.ceil (F64.mul (makePlan { s.limits with V := metres s.modeV } s.passenger 0 p v a target).total (F64.ofInt 1000000))).toNat

/-- The dwell at a stop in µs. -/
def Dev.dwellUs (s : Dev) (pax : Nat) : Nat := 1000 * (s.od? 0x2502 1 + s.od? 0x2502 2 * pax)

/-- Passengers already served at the present landing. -/
def Dev.hereDone (s : Dev) : Nat := if s.bid.hereAt = s.pgen.arrivedAt then s.bid.here else 0

/-- What remains of the dwell at the present landing, in µs (R215). (DESIGN CHOICE, log 81) -/
def Dev.dwellLeft (s : Dev) (pax : Nat) : Nat :=
  max (1000 * s.od? 0x2502 4) (s.dwellUs (pax + s.hereDone) - (s.now - s.pgen.arrivedAt) / usCyc)

/-- Arrivals after a departure from a landing. -/
def legEtas (s : Dev) (land t : Nat) : List PlanStop → List Nat
  | [] => []
  | x :: rest =>
    let arr := t + 1000 * s.od? 0x2502 3 + s.tripUs (metres (s.landTarget land)) ⟨0, 0⟩ ⟨0, 0⟩ (s.landTarget x.land)
    arr :: legEtas s x.land (arr + s.dwellUs x.moves) rest

/-- The arrival times of a plan in µs (R215). -/
def Dev.etas (s : Dev) : List PlanStop → List Nat
  | [] => []
  | x :: rest =>
    let go (arr : Nat) : List Nat := arr :: legEtas s x.land (arr + s.dwellUs x.moves) rest
    let tgt := s.landTarget x.land
    let still := s.tripUs s.pgen.p ⟨0, 0⟩ ⟨0, 0⟩ tgt
    if s.moving then go (s.tripUs s.pgen.p s.pgen.v s.pgen.a tgt)
    else match s.here? with
      | some h =>
        if x.land = h then 0 :: legEtas s x.land (s.dwellLeft x.moves) rest
        else go (s.dwellLeft 0 + 1000 * s.od? 0x2502 3 + still)
      | none => go ((if s.doorsShut then 0 else s.dwellLeft 0) + 1000 * s.od? 0x2502 3 + still)

/-- µs as ms, rounded up. -/
def msUp (us : Nat) : Nat := (us + 999) / 1000

/-- The peak predicted load on any leg. -/
def peak : List Int → Int
  | [] => 0
  | [q] => q
  | q :: t => max q (peak t)

/-- The cost of an insertion (R216): the arrivals at pickup and drop-off in µs, the new plan with its arrivals, stops added. -/
def Dev.cost (s : Dev) (wait ride : Nat) (l : List AStop) (arrs : List Nat) (nNew : Nat) : Nat :=
  let delay := (l.zip arrs).foldl (fun a x => a + x.1.2.2 * (x.2 - x.1.2.1)) 0
  let Q := s.od? 0x2501 6
  let over_ := if Q = 0 then 0 else (peak (s.legs (l.map (·.1))) - (Q : Int)).toNat
  min 0xFFFFFFFE ((s.od? 0x2501 1 * msUp wait + s.od? 0x2501 2 * msUp ride + s.od? 0x2501 3 * msUp delay + s.od? 0x2501 4 * nNew + s.od? 0x2501 5 * over_) % 2 ^ 64)

/-- The plan with each stop's arrival and its pickups and drop-offs. -/
def Dev.annotated (s : Dev) (l : List PlanStop) : List AStop :=
  (l.zip (s.etas l)).map fun x => (x.1, x.2, (x.1.items.filter fun i => i.kind != 0).length)

/-- An insertion: its plan, its cost, the arrival at the pickup in ms, its two positions. -/
structure Insertion where
  plan : List PlanStop
  cost : Nat
  arr  : Nat
  i    : Nat
  j    : Nat
  deriving DecidableEq, Repr

/-- A pickup at position 0 of the landing at which the car stands merges into the present stop (R212). -/
def Dev.intoPresent (s : Dev) (land k : Nat) (it : StopItem) : Bool := k == 0 && it.kind == 1 && s.here? == some land

/-- No stop is placed before a committed STOP[0] (R213 rule 2); a merge into the present stop places none. -/
def Dev.beforeCommitted (s : Dev) (l : List AStop) (land k : Nat) (it : StopItem) (new : Bool) : Bool :=
  new && k == 0 && !s.intoPresent land k it && (match l with | x :: _ => s.committed x.1.land | [] => false)

/-- A stop counts as added unless it is the present stop. -/
def Dev.added (s : Dev) (land k : Nat) (it : StopItem) (new : Bool) : Nat := b2n (new && !s.intoPresent land k it)

/-- One insertion of a single item (a car call or a hall call) at position k. -/
def Dev.insertOne (s : Dev) (l : List AStop) (k land : Nat) (it : StopItem) : Option Insertion :=
  let r := placeAt l k land it
  let plan := r.1.map (·.1)
  if s.beforeCommitted l land r.2.1 it r.2.2 ∨ s.feasible plan = false then none
  else
    let arrs := s.etas plan
    let arr := arrs.getD r.2.1 0
    let wait := if it.kind = 0 then 0 else arr
    some { plan := plan, cost := s.cost wait 0 r.1 arrs (s.added land r.2.1 it r.2.2), arr := msUp arr, i := k, j := 255 }

/-- One insertion of a destination call at positions i and j: the drop-off follows the pickup, directly for j = i (R217). -/
def Dev.insertTwo (s : Dev) (l : List AStop) (i j org dst : Nat) (up down : StopItem) : Option Insertion :=
  let r := placeAt l i org up
  let k := if j = i then r.2.1 + 1 else j + b2n r.2.2
  let q := placeAt r.1 k dst down
  let plan := q.1.map (·.1)
  if s.beforeCommitted l org r.2.1 up r.2.2 ∨ s.feasible plan = false then none
  else
    let arrs := s.etas plan
    let a := arrs.getD r.2.1 0
    let b := arrs.getD q.2.1 0
    some { plan := plan, cost := s.cost a (b - a) q.1 arrs (s.added org r.2.1 up r.2.2 + b2n q.2.2), arr := msUp a, i := i, j := j }

/-- The lower cost; among equal costs the earlier one. -/
def cheaper (x y : Option Insertion) : Option Insertion :=
  match x, y with
  | some a, some b => if b.cost < a.cost then some b else some a
  | none, y => y
  | x, none => x

/-- The best insertion of a group call (R217), in the order of positions. -/
def Dev.bestCall (s : Dev) (id typ org dst pax side : Nat) : Option Insertion :=
  let l := s.annotated s.bid.plan
  let n := l.length
  if typ = 3 then
    let up : StopItem := { kind := 1, id := id, pax := pax, typ := 3, mate := dst, side := side }
    let down : StopItem := { kind := 2, id := id, pax := pax, typ := 3, mate := org, side := side }
    (upTo (n + 1)).foldl (fun b i => (upTo (n + 1)).foldl (fun b j => if j < i then b else cheaper b (s.insertTwo l i j org dst up down)) b) none
  else
    (upTo (n + 1)).foldl (fun b i => cheaper b (s.insertOne l i org { kind := 1, id := id, pax := pax, typ := typ, side := side })) none

/-- Every insertion of a call exceeds 64 stops (R219, reason 4). -/
def Dev.allTooLong (s : Dev) (typ org dst : Nat) : Bool :=
  let l := s.annotated s.bid.plan
  let up : StopItem := { kind := 1, typ := typ, mate := dst }
  let long (x : List AStop) : Bool := decide (64 < s.planSize (x.map (·.1)))
  (upTo (l.length + 1)).all fun i =>
    let r := placeAt l i org up
    if typ = 3 then
      (upTo (l.length + 1)).all fun j =>
        decide (j < i) || long (placeAt r.1 (if j = i then r.2.1 + 1 else j + b2n r.2.2) dst { kind := 2, typ := typ, mate := org }).1
    else long r.1

/-- The reason for no bid when no insertion is feasible (R219). -/
def Dev.noBidReason (s : Dev) (typ org dst side : Nat) : Nat :=
  if s.allTooLong typ org dst then 4
  else if s.servedFor org side typ = false ∨ (typ = 3 ∧ s.servedFor dst side typ = false) then 5 else 6

/-- The present positions of a held call: those of its pickup and of its drop-off, 255 where it has none (R221). -/
def Dev.heldAt (s : Dev) (id : Nat) : Nat × Nat :=
  let at_ (k : Nat) : Nat := (s.bid.plan.findIdx? fun x => x.items.any fun i => i.kind == k && i.id == id).getD 255
  (at_ 1, at_ 2)

/-- The cost of a held call at its present positions (R227). -/
def Dev.holderCost (s : Dev) (id : Nat) : Nat × Nat :=
  let mine (i : StopItem) : Bool := i.kind != 0 && i.id == id
  let rest := s.bid.plan.map fun x => { x with items := x.items.filter fun i => !mine i }
  let without := rest.filter fun x => !x.items.isEmpty
  let old := s.annotated without
  let base (x : PlanStop) : Nat × Nat := match old.find? fun o => o.1 == { x with items := x.items.filter fun i => !mine i } with | some o => o.2 | none => (0, 0)
  let l : List AStop := s.bid.plan.map fun x => (x, base x)
  let arrs := s.etas s.bid.plan
  let at_ (k : Nat) : Nat := match (s.bid.plan.zip arrs).find? fun x => x.1.items.any fun i => mine i && i.kind == k with | some x => x.2 | none => 0
  let nNew := s.bid.plan.length - without.length
  (s.cost (at_ 1) (at_ 2 - at_ 1) l arrs nNew, msUp (at_ 1))

/-! ## The registers of the plan and the table -/

/-- The direction promised on departure: up for a hall call up and for a ride up. -/
def PlanStop.depart (x : PlanStop) : Nat :=
  match x.items.find? fun i => i.kind == 1 with
  | some i => if i.typ = 1 then 1 else if i.typ = 2 then 2 else if x.land < i.mate then 1 else 2
  | none => 0

/-- STOP[i].DEF. -/
def Dev.stopDef (s : Dev) (i : Nat) (x : PlanStop) : Nat :=
  let side := x.items.foldl (fun a j => a ||| j.side) 0
  2147483648 + 1073741824 * b2n (i == 0 && s.committed x.land) + 536870912 * b2n (x.has 0) + 268435456 * b2n (x.has 1) + 134217728 * b2n (x.has 2) +
    33554432 * x.depart + 262144 * min 63 (x.pax 1) + 4096 * min 63 (x.pax 2) + 256 * (side % 4) + x.land % 128

/-- Show the plan in the 64 STOP[i] and NSTOP; arrivals in ms from the latest phase 2. -/
def Dev.bidShow (s : Dev) : Dev :=
  let n := s.bid.plan.length
  let was := s.fld F.BID_STATUS_NSTOP
  let arrs := s.etas s.bid.plan
  let s1 := ((s.bid.plan.zip arrs).take 64).zipIdx.foldl (fun e x => (e.wrN (R.BID_STOP_DEF x.2) (s.stopDef x.2 x.1.1)).wrN (R.BID_STOP_ETA x.2) (min 0xFFFFFFFE (msUp x.1.2))) s
  let s2 := (upTo (min was 64 - n)).foldl (fun e i => (e.wrN (R.BID_STOP_DEF (n + i)) 0).wrN (R.BID_STOP_ETA (n + i)) 0xFFFFFFFF) s1
  s2.setFld F.BID_STATUS_NSTOP n

/-- The plan changes (R235 PLANCHG). -/
def Dev.setPlan (s : Dev) (l : List PlanStop) : Dev :=
  ((s.setBid { s.bid with plan := l.filter fun x => !x.items.isEmpty }).bidShow).setFlag F.BID_IRQ_PLANCHG true

/-- An entry that holds a call. -/
def Dev.callAt (s : Dev) (i : Nat) : CallEnt := alGet s.bid.calls i {}

def Dev.findCall (s : Dev) (id : Nat) : Option (Nat × CallEnt) := s.bid.calls.find? fun x => x.2.state != 0 && x.2.id == id

/-- Put an entry, with its four words and NCALL. -/
def Dev.putCall (s : Dev) (i : Nat) (e : CallEnt) : Dev :=
  let s1 := s.setBid { s.bid with calls := alSet s.bid.calls i e }
  let s2 := ((s1.wrN (R.BID_CALL i) (e.id * 65536 + e.holder % 256 * 256 + e.state * 16 + e.typ)).wrN (R.BID_CALL i + 4)
    (e.announcer % 256 * 16777216 + e.pax % 256 * 65536 + e.dst % 256 * 256 + e.org % 256)).wrN (R.BID_CALL i + 8) e.cost
  let s3 := s2.wrN (R.BID_CALL i + 12) e.arr
  s3.setFld F.BID_STATUS_NCALL (s3.bid.calls.filter fun x => (x.2.state == 2 || x.2.state == 3) && x.2.holder == s.car).length

/-- The entry for a new call (R230): one never used, else the one freed longest ago. -/
def Dev.freeEntry (s : Dev) : Option Nat :=
  match (upTo 256).find? fun i => !(s.callAt i).used with
  | some i => some i
  | none =>
    (s.bid.calls.filter fun x => x.2.state == 0).foldl (fun b x => match b with
      | none => some x
      | some y => if x.2.freed < y.2.freed then some x else some y) (none : Option (Nat × CallEnt)) |>.map (·.1)

/-- Free an entry: it keeps its contents with state 0. -/
def Dev.freeCall (s : Dev) (i : Nat) (e : CallEnt) : Dev :=
  (s.setBid { s.bid with freed := s.bid.freed + 1 }).putCall i { e with state := 0, freed := s.bid.freed, running := false, awarded := false }

/-! ## Messages (R220, R221) -/

/-- Send a group message on the transport in use; on CAN only while CANX[0] is in FD mode (R321). (DEDUCED, log 79) -/
def Dev.bidSend (s : Dev) (typ len : Nat) (content : List Byte) : Dev :=
  if s.od? 0x2500 2 ≠ 1 ∧ s.fld (F.CANX_CFG_MODE 0) ≠ 1 then s else
  let msg := [by8 typ, by8 len] ++ (content ++ List.replicate 22 0).take 22
  let s1 := s.setBid { s.bid with out := s.bid.out ++ [msg], slotOut := if s.od? 0x2500 2 = 1 then s.bid.slotOut ++ [msg] else s.bid.slotOut }
  if s.od? 0x2500 2 = 1 then s1
  else { s1 with can := vmod s1.can 0 fun c => { c with out := some { id := 0x6C0 + s.car, data := msg }, sent := c.sent + 1 } }

/-- A message with a wrong LEN or a sender outside 1 to 16 is discarded (R220). (DESIGN CHOICE, log 120) -/
def Dev.bidTake (s : Dev) (typ len : Nat) (content : List Byte) (f : Dev → Dev) : Dev :=
  let who := (content.getD 0 0).toNat
  let s0 := s.setBid { s.bid with out := [] }
  if content.length ≠ len ∨ who = 0 ∨ 16 < who then s0.log 0x400A who typ content.length else f s0

/-- Byte, 16-bit and 32-bit fields of a message's content. -/
def c8 (c : List Byte) (i : Nat) : Nat := (c.getD i 0).toNat
def c16 (c : List Byte) (i : Nat) : Nat := c8 c i + 256 * c8 c (i + 1)
def c32 (c : List Byte) (i : Nat) : Nat := c16 c i + 65536 * c16 c (i + 2)

/-! ## The group (R222) -/

/-- Reason 1 of R219; also while VERIFYPEND is set (R410). -/
def Dev.outOfService (s : Dev) : Bool :=
  s.flag F.BOOT_STATUS_VERIFYPEND || !s.flag F.BID_CTRL_EN || !s.flag F.BID_CTRL_BIDEN || s.quarantined || !s.passenger || !s.bothRun

def Dev.inGroup (s : Dev) (c : Nat) : Bool := s.bid.beats.any fun x => x.1 == c

/-- Show the group: MEMBER and GROUPN. -/
def Dev.showGroup (s : Dev) : Dev :=
  let m := (upTo 16).foldl (fun a i => a + 2 ^ i * b2n (s.inGroup (i + 1))) 0
  let s1 := if s.fld F.BID_GROUP_MEMBER = m then s else (s.setFld F.BID_GROUP_MEMBER m).setFlag F.BID_IRQ_GROUPCHG true
  s1.setFld F.BID_STATUS_GROUPN (onesN 16 m)

/-- ISOLATED changes (R222). -/
def Dev.setIsolated (s : Dev) (on : Bool) : Dev :=
  if s.flag F.BID_STATUS_ISOLATED = on then s
  else
    let s1 := ((s.setFlag F.BID_STATUS_ISOLATED on).setFlag F.BID_IRQ_GROUPCHG true).log 0x4009 (b2n on) 0 0
    if on then s1 else s1.setBid { s1.bid with rejoin := true }

/-- The loss time in fabric cycles. -/
def Dev.lossCyc (s : Dev) : Nat := s.od? 0x2500 6 * msCyc

/-- No other car has been heard throughout the loss time. -/
def Dev.alone (s : Dev) : Bool :=
  decide (s.lossCyc ≤ s.now) && s.bid.beats.all fun x => x.1 == s.car || decide (x.2 + s.lossCyc ≤ s.now)

/-! ## Announcing (R223, R224) -/

/-- The bid deadline in fabric cycles. -/
def Dev.bidCyc (s : Dev) : Nat := s.od? 0x2500 3 * msCyc

/-- The deadline has not passed: [t_a, t_a + deadline). -/
def Dev.windowOpen (s : Dev) (e : CallEnt) : Bool := e.running && decide (s.now < e.ta + s.bidCyc)

/-- Keep an answer of a car, the first one. -/
def Dev.keepAnswer (s : Dev) (id : Nat) (a : BidAnswer) : Dev :=
  match s.findCall id with
  | some (i, e) => if s.windowOpen e ∧ (e.answers.any fun x => x.car == a.car) = false then s.putCall i { e with answers := e.answers ++ [a] } else s
  | none => s

/-- Answer an announcement: internally when it is this car's own. -/
def Dev.answerNo (s : Dev) (sender id reason : Nat) : Dev :=
  let s1 := s.log 0x4003 id reason 0
  if sender = s.car then s1.keepAnswer id { car := s.car, none_ := true }
  else s1.bidSend 0x42 15 ([by8 s.car, 1] ++ leBytes 2 id ++ leBytes 4 0xFFFFFFFF ++ leBytes 4 0 ++ [0, 255, by8 reason])

/-- Reasons 1 and 2 of R219. -/
def Dev.noBidAtOnce (s : Dev) (typ : Nat) : Nat :=
  if s.outOfService then 1
  else if (typ = 3 ∧ s.flag F.BID_CTRL_DESTEN = false) ∨ ((typ = 1 ∨ typ = 2) ∧ s.flag F.BID_CTRL_HALLEN = false) then 2 else 0

/-- An announcement waits for its evaluation, or is answered with a no-bid (R218, R219). -/
def Dev.enqueue (s : Dev) (a : AnnWait) : Dev :=
  let r := s.noBidAtOnce a.typ
  if r ≠ 0 then s.answerNo a.sender a.id r
  else if 8 ≤ s.bid.queue.length then s.answerNo a.sender a.id 3
  else
    let s1 := s.setBid { s.bid with queue := s.bid.queue ++ [a] }
    s1.setFld F.BID_STATUS_QUEUE s1.bid.queue.length

/-- Open an auction on an entry: ANNOUNCE, event 0x4001, and this car's own evaluation. -/
def Dev.openAuction (s : Dev) (i : Nat) (kind : Nat) : Dev :=
  let e := s.callAt i
  let keep := kind = 1 ∨ kind = 2
  let h := if keep then s.holderCost e.id else (0xFFFFFFFF, 0)
  let hc := h.1
  let e1 : CallEnt := { e with running := true, ta := s.now, kind := kind, hcost := hc, harr := h.2, ours := true, answers := [], awarded := false,
                               state := if keep then e.state else 1, holder := if keep then e.holder else 0 }
  let dst := if e.typ = 3 then e.dst else 255
  let s1 := (s.putCall i e1).bidSend 0x41 20 ([by8 s.car, by8 kind] ++ leBytes 2 e.id ++ [by8 e.typ, by8 e.org, by8 dst, by8 e.pax, by8 e.side, by8 e1.holder] ++
    leBytes 4 hc ++ leBytes 2 (s.od? 0x2500 3) ++ leBytes 4 ((s.now - e.since) / msCyc))
  let s2 := s1.log 0x4001 e.id e.typ kind
  s2.enqueue { sender := s.car, flags := kind, id := e.id, typ := e.typ, org := e.org, dst := e.dst, pax := e.pax, side := e.side }

/-! ## Award and acceptance (R225, R226) -/

/-- The unserved stops of a call leave the plan. -/
def Dev.dropCall (s : Dev) (id : Nat) : Dev :=
  let l := s.bid.plan.map fun x => { x with items := x.items.filter fun i => !(i.kind != 0 && i.id == id) }
  if s.bid.plan.any fun x => x.items.any fun i => i.kind != 0 && i.id == id then s.setPlan l else s

/-- This car holds an assigned call. -/
def Dev.holds (s : Dev) (e : CallEnt) : Bool := (e.state == 2 || e.state == 3) && e.holder == s.car

/-- The winner answers: to itself, or by an ACCEPT. With result 1 the announcer re-auctions at once. (DEDUCED, log 79) -/
def Dev.sendAccept (s : Dev) (sender id result : Nat) : Dev :=
  if sender ≠ s.car then s.bidSend 0x47 5 ([by8 s.car, 0] ++ leBytes 2 id ++ [by8 result])
  else match s.findCall id with
    | some (i, e) => if result = 0 then s.putCall i { e with awarded := false } else s.openAuction i 0
    | none => s

/-- The AWARD that a car keeps when two arrive within one deadline of each other: the lower cost, then the lower winner. -/
def Dev.keepsOld (s : Dev) (e : CallEnt) (winner cost : Nat) : Bool :=
  e.state == 2 && e.holder != 0 && e.awardAt != 0 && decide (s.now < e.awardAt + s.bidCyc) && winner != e.holder &&
    (decide (e.cost < cost) || (decide (e.cost = cost) && decide (e.holder < winner)))

/-- An AWARD takes effect in this car's table and plan (R226): a passenger aboard stays with the holder (R227), a holder that is not
named drops the call's stops, and the winner answers every AWARD. -/
def Dev.takeAward (s : Dev) (sender id winner cost arr : Nat) : Dev :=
  match s.findCall id with
  | none => if winner = s.car then s.sendAccept sender id 1 else s
  | some (i, e) =>
    if s.keepsOld e winner cost ∨ (e.state = 3 ∧ winner ≠ e.holder) then s.putCall i { e with due := false }
    else
      let mine := s.holds e
      let e0 : CallEnt := { e with cost := cost, arr := arr, awardAt := s.now, due := false }
      let e1 : CallEnt := { e0 with state := if e.state = 3 then 3 else 2, holder := winner }
      if winner ≠ s.car then
        let s1 := s.putCall i (if winner = 0 then { e0 with state := 1, holder := 0 } else e1)
        if mine ∧ e.state = 2 then ((s1.dropCall id).setFlag F.BID_IRQ_LOST true).log 0x4005 id winner 0 else s1
      else if mine then (s.putCall i { e1 with awarded := false }).sendAccept sender id 0
      else
        match s.bestCall id e.typ e.org e.dst e.pax e.side with
        | some b => ((((s.putCall i e1).setPlan b.plan).setFlag F.BID_IRQ_WON true)).sendAccept sender id 0
        | none => (s.putCall i { e0 with state := 1, holder := 0 }).sendAccept sender id 1

/-- The content of an AWARD (R221). -/
def Dev.awardBytes (s : Dev) (e : CallEnt) (kept : Bool) (winner count cost arr : Nat) : List Byte :=
  [by8 s.car, by8 (b2n kept)] ++ leBytes 2 e.id ++ [by8 winner, by8 count] ++ leBytes 4 cost ++ leBytes 4 arr ++
    [by8 e.typ, by8 e.org, by8 (if e.typ = 3 then e.dst else 255), by8 e.pax, by8 e.side]

/-- The AWARD of an auction is sent. -/
def Dev.sendAward (s : Dev) (e : CallEnt) (kept : Bool) (winner count cost arr : Nat) : Dev :=
  s.bidSend 0x43 19 (s.awardBytes e kept winner count cost arr)

/-- The lowest bid; ties go to the lower car number. -/
def lowest (l : List BidAnswer) : Option BidAnswer :=
  l.foldl (fun b x => match b with
    | none => some x
    | some y => if x.cost < y.cost ∨ (x.cost = y.cost ∧ x.car < y.car) then some x else some y) none

/-- The pickup of a held call is committed (R227). -/
def Dev.pickupCommitted (s : Dev) (id : Nat) : Bool :=
  match s.bid.plan with
  | x :: _ => s.committed x.land && x.items.any fun i => i.kind == 1 && i.id == id
  | [] => false

/-- The auction closes (R225, R227). This car's own share in the AWARD waits for the end of an evaluation that runs (R214). -/
def Dev.closeAuction (s : Dev) (i : Nat) : Dev :=
  let e := s.callAt i
  let bids := e.answers.filter fun a => !a.none_
  let keeper := e.kind = 1 ∨ e.kind = 2
  let challenger := lowest (if keeper then bids.filter fun a => a.car != e.holder else bids)
  let margin := if e.kind = 1 then s.od? 0x2500 5 else 0
  let s0 := (s.putCall i { e with running := false }).setFlag F.BID_IRQ_CLOSED true
  let finish (kept : Bool) (winner cost arr : Nat) : Dev :=
    let s1 := (s0.sendAward e kept winner bids.length cost arr).log 0x4004 e.id winner cost
    let e1 : CallEnt := { s1.callAt i with awarded := winner != 0 && winner != s.car, awardAt := s.now, tries := 1 }
    let s2 := if winner = 0 then s1 else s1.putCall i { e1 with awardAt := (s1.callAt i).awardAt }
    if s.bid.eval.isSome then
      (s2.putCall i { s2.callAt i with due := true }).setBid { s2.bid with
        calls := alSet s2.bid.calls i { s2.callAt i with due := true }, held := s2.bid.held ++ [.award (s.awardBytes e kept winner bids.length cost arr)] }
    else
    let s3 := s2.takeAward s.car e.id winner cost arr
    match s3.findCall e.id with
    | some (k, x) => if k = i ∧ x.running = false then s3.putCall k { x with awardAt := s.now } else s3
    | none => s3
  if keeper then
    match challenger with
    | some c => if c.cost + margin < e.hcost ∧ s.pickupCommitted e.id = false ∧ e.state ≠ 3 then finish false c.car c.cost c.arr else finish true e.holder e.hcost e.harr
    | none => finish true e.holder e.hcost e.harr
  else
    match challenger with
    | some c => finish false c.car c.cost c.arr
    | none => finish false 0 0xFFFFFFFF 0

/-- Every car in the group whose heartbeat showed BIDDING has answered, this car included. -/
def Dev.allAnswered (s : Dev) (e : CallEnt) : Bool :=
  let has (c : Nat) : Bool := e.answers.any fun a => a.car == c
  has s.car && s.bid.bidding.all fun c => !s.inGroup c || has c

/-- Close the auction on a call when the last answer is in. -/
def Dev.tryClose (s : Dev) (id : Nat) : Dev :=
  match s.findCall id with
  | some (i, e) => if e.running ∧ s.allAnswered e then s.closeAuction i else s
  | none => s

/-- The group has changed: auctions that waited only for a car that left close (R225). -/
def Dev.tryCloseAll (s : Dev) : Dev := (s.bid.calls.filter fun x => x.2.running).foldl (fun d x => d.tryClose x.2.id) s

/-- Announce an entry's call, and close at once where every answer is already in (an isolated car without a bid). -/
def Dev.announceCall (s : Dev) (i kind : Nat) : Dev := (s.openAuction i kind).tryClose (s.callAt i).id

/-! ## Dropping out (R228) -/

/-- Calls with state 2 of a car are re-announced by their announcer, or by the lowest-numbered car in the group. -/
def Dev.dropOut (s : Dev) (car : Nat) (which : Nat) : Dev :=
  let lowestCar := ((upTo 16).map (· + 1)).find? fun c => s.inGroup c && c != car
  let hit := s.bid.calls.filter fun x => x.2.state == 2 && x.2.holder == car && (which == 0xFFFF || x.2.id == which)
  let mineOf (e : CallEnt) : Bool := if s.inGroup e.announcer ∨ e.announcer = s.car then e.announcer == s.car else lowestCar == some s.car || lowestCar == none
  let s1 := if car = s.car then hit.foldl (fun d x => d.dropCall x.2.id) s else s
  let s2 := hit.foldl (fun d x => if mineOf x.2 then d.announceCall x.1 4 else d.putCall x.1 { x.2 with state := 1, holder := 0 }) s1
  s2.log 0x4007 car (hit.filter fun x => mineOf x.2).length 0

/-! ## Evaluation (R217, R218) -/

/-- BID takes the next announcement and prices every insertion. (DESIGN CHOICE, log 80) -/
def Dev.bidEvaluation (s : Dev) : Dev :=
  match s.bid.queue, s.bid.eval with
  | a :: rest, none =>
    let mine := match s.findCall a.id with | some (_, e) => s.holds e | none => false
    let r : BidEval :=
      if s.noBidAtOnce a.typ ≠ 0 then { ann := a, reason := s.noBidAtOnce a.typ }
      else if mine then let h := s.holderCost a.id; let w := s.heldAt a.id; { ann := a, reason := 0, holder := true, cost := h.1, arr := h.2, pick := w.1, drop := w.2 }
      else match s.bestCall a.id a.typ a.org a.dst a.pax a.side with
        | some b => { ann := a, reason := 0, cost := b.cost, arr := b.arr, pick := b.i, drop := b.j }
        | none => { ann := a, reason := s.noBidReason a.typ a.org a.dst a.side }
    let s1 := s.setBid { s.bid with queue := rest, eval := some r, out := [] }
    (s1.setFld F.BID_STATUS_QUEUE rest.length).setFlag F.BID_STATUS_BUSY true
  | _, _ => s

/-- The bid of an evaluation goes out, internally for this car's own announcement. (DEDUCED, log 79) -/
def Dev.sendBid (s : Dev) (r : BidEval) : Dev :=
  if r.reason ≠ 0 then s.answerNo r.ann.sender r.ann.id r.reason
  else
    let s1 := s.log 0x4002 r.ann.id r.cost r.arr
    if r.ann.sender = s.car then s1.keepAnswer r.ann.id { car := s.car, none_ := false, holder := r.holder, cost := r.cost, arr := r.arr }
    else s1.bidSend 0x42 15 ([by8 s.car, by8 (2 * b2n r.holder)] ++ leBytes 2 r.ann.id ++ leBytes 4 r.cost ++ leBytes 4 r.arr ++ [by8 r.pick, by8 r.drop, 0])

/-! ## Received messages -/

/-- ANNOUNCE (R223, R224). -/
def Dev.onAnnounce (s : Dev) (c : List Byte) : Dev :=
  let id := c16 c 2
  let typ := c8 c 4
  let fl := c8 c 1
  let fresh : CallEnt := { id := id, typ := typ, state := 1, announcer := id / 4096 + 1, org := c8 c 5, dst := c8 c 6, pax := c8 c 7, side := c8 c 8,
                           used := true, since := s.now - c32 c 16 * msCyc }
  let s1 := match s.findCall id with
    | some (i, e) =>
      if bitN fl 2 then s.putCall i { e with state := 1, holder := 0, ours := false }
      else if bitN fl 0 then s.putCall i { e with ours := false, holder := if e.state = 2 then c8 c 9 else e.holder }
      else s.putCall i { e with ours := false }
    | none => match s.freeEntry with
      | some i => s.putCall i fresh
      | none => s.log 0x400B typ (c8 c 5) 0
  s1.enqueue { sender := c8 c 0, flags := fl, id := id, typ := typ, org := c8 c 5, dst := c8 c 6, pax := c8 c 7, side := c8 c 8 }

/-- BID (R224, R225): one that arrives outside the window is discarded. -/
def Dev.onBid (s : Dev) (c : List Byte) : Dev :=
  let id := c16 c 2
  (s.keepAnswer id { car := c8 c 0, none_ := bitN (c8 c 1) 0, holder := bitN (c8 c 1) 1, cost := c32 c 4, arr := c32 c 8 }).tryClose id

/-- AWARD (R222, R226); one that names another car records a call that the table did not hold. -/
def Dev.onAward (s : Dev) (c : List Byte) : Dev :=
  let id := c16 c 2
  let s1 := match s.findCall id, s.freeEntry with
    | none, some i =>
      if c8 c 4 = s.car then s
      else s.putCall i { id := id, typ := c8 c 14, state := 1, announcer := id / 4096 + 1, org := c8 c 15, dst := c8 c 16, pax := c8 c 17, side := c8 c 18, used := true, since := s.now }
    | _, _ => s
  s1.takeAward (c8 c 0) id (c8 c 4) (c32 c 6) (c32 c 10)

/-- HEARTBEAT (R222, R229). -/
def Dev.onHeartbeat (s : Dev) (c : List Byte) : Dev :=
  let car := c8 c 0
  let bd := s.bid.bidding.filter fun x => x != car
  let s1 := s.setBid { s.bid with beats := alSet s.bid.beats car s.now, bidding := if bitN (c8 c 1) 1 then bd ++ [car] else bd }
  let s2 := s1.showGroup
  (if car = s.car then s2 else s2.setIsolated false).tryCloseAll

/-- SERVED in the table (R230). -/
def Dev.servedInTable (s : Dev) (id kind : Nat) : Dev :=
  match s.findCall id with
  | some (i, e) =>
    if kind = 0 ∧ e.typ = 3 then s.putCall i { e with state := 3 }
    else s.freeCall i e
  | none => s

/-- ACCEPT (R226), at the car that announced the call. -/
def Dev.onAccept (s : Dev) (c : List Byte) : Dev :=
  match s.findCall (c16 c 2) with
  | some (i, e) =>
    if e.awarded ∧ e.holder = c8 c 0 then
      if c8 c 4 = 0 then s.putCall i { e with awarded := false } else s.announceCall i 0
    else s
  | none => s

/-! ## Timers (R225 to R227) -/

/-- The bid window of a call ends. -/
def Dev.auctionDeadline (s : Dev) (id : Nat) : Dev :=
  match s.findCall id with
  | some (i, e) => if e.running ∧ e.ta + s.bidCyc ≤ s.now then s.closeAuction i else s
  | none => s

/-- The re-auction interval in fabric cycles. -/
def Dev.reauctionCyc (s : Dev) : Nat := s.od? 0x2500 4 * msCyc

/-- A call that no car bid for is announced again by the car that announced it last (R225). -/
def Dev.reannounce (s : Dev) (id : Nat) : Dev :=
  match s.findCall id with
  | some (i, e) =>
    if e.state = 1 ∧ e.running = false ∧ e.ours ∧ e.due = false ∧ e.awardAt + s.reauctionCyc ≤ s.now then
      let n := e.attempts + 1
      ((s.putCall i { e with attempts := n }).log 0x4006 id n 0).announceCall i 0
    else s
  | none => s

/-- The holder re-auctions an unanswered call (R227). -/
def Dev.reauction (s : Dev) (id : Nat) : Dev :=
  match s.findCall id with
  | some (i, e) =>
    if e.state = 2 ∧ e.holder = s.car ∧ e.running = false ∧ e.due = false ∧ e.awardAt + s.reauctionCyc ≤ s.now ∧ s.pickupCommitted id = false then s.announceCall i 1 else s
  | none => s

/-- No ACCEPT within one deadline: the AWARD once more, then the call is released (R226). -/
def Dev.acceptTimeout (s : Dev) (id : Nat) : Dev :=
  match s.findCall id with
  | some (i, e) =>
    if e.awarded ∧ e.awardAt + s.bidCyc ≤ s.now then
      if e.tries = 1 then
        (s.putCall i { e with tries := 2, awardAt := s.now }).sendAward e false e.holder (e.answers.filter fun a => !a.none_).length e.cost e.arr
      else (s.putCall i { e with awarded := false }).announceCall i 4
    else s
  | none => s

/-- A car's heartbeat has not arrived within the loss time (R222, R228). -/
def Dev.heartbeatLoss (s : Dev) (car : Nat) : Dev :=
  if s.inGroup car ∧ alGet s.bid.beats car 0 + s.lossCyc ≤ s.now then
    let s1 := (s.setBid { s.bid with beats := s.bid.beats.filter fun x => x.1 != car, bidding := s.bid.bidding.filter fun x => x != car }).showGroup
    let s2 := s1.dropOut car 0xFFFF
    (if s2.alone then s2.setIsolated true else s2).tryCloseAll
  else s

/-- The slow tick: the heartbeat goes out, isolation is judged, a rejoin follows its heartbeat (R222, R229). -/
def Dev.bidSlow (s0 : Dev) : Dev :=
  let s := s0.setBid { s0.bid with load := if s0.loadValid then s0.load else s0.bid.load, out := [] }
  if s.flag F.BID_CTRL_EN = false then s
  else
    let bidding := !s.outOfService
    let s1 := s.bidSend 0x44 6 ([by8 s.car, by8 (1 + 2 * b2n bidding + 4 * b2n s.bid.rejoin), by8 (s.fld F.LRING_CAR_CARLAND), by8 s.bid.plan.length] ++
      leBytes 2 (s.fld F.BID_STATUS_NCALL))
    let bd := s1.bid.bidding.filter fun x => x != s.car
    let s2 := (s1.setBid { s1.bid with beats := alSet s1.bid.beats s.car s.now, bidding := if bidding then bd ++ [s.car] else bd }).showGroup
    let s3 := if s2.alone then s2.setIsolated true else s2
    if s.bid.rejoin then
      let hit := s3.bid.calls.filter fun x => x.2.state == 2 && x.2.holder == s.car
      let s4 := s3.setBid { s3.bid with rejoin := false }
      (hit.foldl (fun d x => d.announceCall x.1 2) s4).log 0x4008 s.car hit.length 0
    else s3

/-! ## Commands (R211, R223, R230 to R232, R235) -/

/-- The answer to a command. -/
def Dev.bidResult (s : Dev) (tag code id : Nat) : Dev :=
  (((s.setFld F.BID_RESULT_TAG tag).setFld F.BID_RESULT_CODE code).setFld F.BID_RESULT_CALLID id).setFlag F.BID_IRQ_CMDDONE true

/-- A command as CMD and ARG hold it, refused with 0x1B under quarantine. -/
def Dev.bidCmd (s : Dev) (m : Master) (arg : Word) (tag : Nat) (f : Dev → Dev) : Dev :=
  let s1 := ((s.setBid { s.bid with out := [] }).setFld F.BID_CMD_TAG tag).wr R.BID_ARG arg
  if s.quarBars m then s1.bidResult tag 0x1B 0 else f s1

/-- Car call (R232). (DEDUCED, log 82) -/
def Dev.carCall (s : Dev) (arg : Nat) (tag : Nat) : Dev :=
  let land := arg % 128
  let side := arg / 256 % 4
  let v := s.od? 0x2503 (land + 1)
  if s.landings ≤ land ∨ side = 0 ∨ (side &&& v) ≠ side then s.bidResult tag 0x10 0
  else
    let it : StopItem := { kind := 0, side := side }
    let l := s.annotated s.bid.plan
    let best := (upTo (l.length + 1)).foldl (fun b i => cheaper b (s.insertOne l i land it)) none
    match best with
    | some b => (s.setPlan b.plan).bidResult tag 0 0
    | none =>
      let r := (placeAt l l.length land it).1.map (·.1)
      if 64 < r.length then s.bidResult tag 0x12 0 else (s.setPlan r).bidResult tag 0 0

/-- A new group call is entered and announced at once (R210, R223). -/
def Dev.enterCall (s : Dev) (typ org dst pax side tag : Nat) : Dev :=
  match s.freeEntry with
  | none => (s.log 0x400B typ org 0).bidResult tag 0x13 0
  | some i =>
    let id := (s.car - 1) % 16 * 4096 + s.bid.seq
    let s1 := s.setBid { s.bid with seq := (s.bid.seq + 1) % 4096 }
    let e : CallEnt := { id := id, typ := typ, state := 1, announcer := s.car, org := org, dst := dst, pax := pax, side := side, used := true, since := s.now }
    ((s1.putCall i e).announceCall i 0).bidResult tag 0 id

/-- The call type is enabled on this car (CTRL). -/
def Dev.typeOn (s : Dev) (f : Fld) : Bool := s.flag F.BID_CTRL_EN && s.flag F.BID_CTRL_ANNEN && s.flag f

/-- Hall call (R211). -/
def Dev.hallCall (s : Dev) (arg : Nat) (tag : Nat) : Dev :=
  let land := arg % 128
  let side := arg / 256 % 4
  let typ := 1 + arg / 65536 % 2
  let v := s.od? 0x2503 (land + 1)
  if s.landings ≤ land ∨ side = 0 ∨ (side &&& v) ≠ side ∨ bitN v (1 + typ) = false then s.bidResult tag 0x10 0
  else if s.typeOn F.BID_CTRL_HALLEN = false then s.bidResult tag 0x11 0
  else match s.bid.calls.find? fun x => (x.2.state == 1 || x.2.state == 2) && x.2.typ == typ && x.2.org == land with
    | some x => s.bidResult tag 1 x.2.id
    | none => s.enterCall typ land 255 0 side tag

/-- Destination call: each entry is a call of its own (R211). -/
def Dev.destCall (s : Dev) (arg : Nat) (tag : Nat) : Dev :=
  let org := arg % 128
  let dst := arg / 256 % 128
  let side := arg / 16777216 % 4
  let ok (l : Nat) : Bool := decide (l < s.landings) && side != 0 && (side &&& s.od? 0x2503 (l + 1)) == side && bitN (s.od? 0x2503 (l + 1)) 4
  if ok org = false ∨ ok dst = false then s.bidResult tag 0x10 0
  else if s.typeOn F.BID_CTRL_DESTEN = false then s.bidResult tag 0x11 0
  else s.enterCall 3 org dst (arg / 65536 % 16) side tag

/-- SERVED (R230): the passengers leave the stop, and the stop goes when nothing remains. -/
def Dev.servedCmd (s : Dev) (arg : Nat) (tag : Nat) : Dev :=
  let i := arg % 64
  let kind := arg / 256 % 2
  match s.bid.plan[i]? with
  | none => s.bidResult tag 0 0
  | some x =>
    let gone (j : StopItem) : Bool := if kind = 0 then j.kind == 1 else j.kind == 2 || j.kind == 0
    let hit := x.items.filter gone
    let s1 := hit.foldl (fun d j => if j.kind = 0 then d else
      (d.bidSend 0x46 5 ([by8 s.car, by8 kind] ++ leBytes 2 j.id ++ [by8 x.land])).servedInTable j.id kind) s
    let pax := hit.foldl (fun a j => a + (if j.kind = 0 then 1 else j.pax)) 0
    let s2 := if hit.isEmpty then s1 else s1.setPlan (s1.bid.plan.set i { x with items := x.items.filter fun j => !gone j })
    (s2.setBid { s2.bid with here := s.hereDone + pax, hereAt := s.pgen.arrivedAt }).bidResult tag 0 0

/-- Clear car calls of one landing, or of all for 0x7F. -/
def Dev.clearCarCalls (s : Dev) (arg : Nat) (tag : Nat) : Dev :=
  let land := arg % 128
  let hit (x : PlanStop) : Bool := (land == 127 || x.land == land) && x.has 0
  let s1 := if s.bid.plan.any hit then s.setPlan (s.bid.plan.map fun x => if hit x then { x with items := x.items.filter fun j => j.kind != 0 } else x) else s
  s1.bidResult tag 0 0

/-- Release all group calls (R228): RELEASE goes out, and the calls without their passengers are announced again. -/
def Dev.releaseAll (s : Dev) (tag : Nat) : Dev :=
  let s1 := s.bidSend 0x45 4 ([by8 s.car, 0] ++ leBytes 2 0xFFFF)
  (s1.dropOut s.car 0xFFFF).bidResult tag 0 0

/-- What R214 holds back during an evaluation, run at its end. -/
def Dev.bidHeld (s0 : Dev) (c : Instr) : Dev :=
  let s := s0.setBid { s0.bid with out := [] }
  match c with
  | .bidCarCall _ arg tag => s.carCall arg.toNat tag
  | .bidServed _ arg tag => s.servedCmd arg.toNat tag
  | .bidClearCarCalls _ arg tag => s.clearCarCalls arg.toNat tag
  | .bidReleaseAll _ tag => s.releaseAll tag
  | .award c => s.bidTake 0x43 19 c fun d => d.onAward c
  | .groupRelease c => s.bidTake 0x45 4 c fun d => d.dropOut (c8 c 0) (c16 c 2)
  | .groupServed c => s.bidTake 0x46 5 c fun d => d.servedInTable (c16 c 2) (c8 c 1)
  | .heartbeatLoss car => s.heartbeatLoss car
  | _ => s

/-- A plan change: at once, or at the end of the evaluation that runs (R214). -/
def Dev.bidOrder (s : Dev) (c : Instr) : Dev :=
  if s.bid.eval.isSome then s.setBid { s.bid with held := s.bid.held ++ [c] } else s.bidHeld c

/-- An evaluation ends after `us` µs, late from 2,000 µs on (R11): its bid, then what it held back (R214, R218). (DESIGN CHOICE, log 80) -/
def Dev.evaluationEnd (s : Dev) (us : Nat) : Dev :=
  match s.bid.eval with
  | none => s
  | some r =>
    let held := s.bid.held
    let s1 := (s.setBid { s.bid with eval := none, held := [], out := [] }).setFlag F.BID_STATUS_BUSY false
    let s2 := if 2000 ≤ us then s1.log 0x400C r.ann.id us 0 else s1
    let s3 := (s2.sendBid r).tryClose r.ann.id
    held.foldl (fun d c => let e := d.bidHeld c; e.setBid { e.bid with out := d.bid.out ++ e.bid.out }) s3

/-- A call that firmware enters leaves its call queue (R323). (PRESUMED, log 52) -/
def Dev.callEntered (s : Dev) (m : Master) (arg : Word) : Dev :=
  if 1 ≤ m.val ∧ m.val ≤ 4 then { s with ode := { s.ode with calls := s.ode.calls.erase arg.toNat } } else s

/-- A command as CMD and ARG take it, judged at the write (R235); what changes the plan waits for an evaluation that runs (R214). A hall or
destination call and an unknown OP do not change it. -/
def Dev.bidCommand (s : Dev) (m : Master) (op : Nat) (arg : Word) (tag : Fin 256) : Dev :=
  match op with
  | 1 => (s.callEntered m arg).bidCmd m arg tag fun d => d.bidOrder (.bidCarCall m arg tag)
  | 2 => s.bidCmd m arg tag fun d => d.hallCall arg.toNat tag
  | 3 => (s.callEntered m arg).bidCmd m arg tag fun d => d.destCall arg.toNat tag
  | 4 => s.bidCmd m arg tag fun d => d.bidOrder (.bidServed m arg tag)
  | 5 => s.bidCmd m arg tag fun d => d.bidOrder (.bidClearCarCalls m arg tag)
  | 6 => s.bidCmd m arg tag fun d => d.bidOrder (.bidReleaseAll m tag)
  | _ => s.bidCmd m arg tag fun d => d.bidResult tag 0x1C 0

/-- A timer or an answer starts with no message sent yet. -/
def Dev.bidFresh (s : Dev) : Dev := s.setBid { s.bid with out := [] }

/-- An OP that R235 does not list; the listed ones have rows of their own. -/
def Dev.bidUnknown (s : Dev) (m : Master) (op : Nat) (tag : Fin 256) : Dev :=
  if 1 ≤ op ∧ op ≤ 6 then s else s.bidCommand m op (s.rd R.BID_ARG) tag

/-- Phase 2 refreshes STOP[i] with the plan's arrivals (R215). -/
def Dev.bidTick (s : Dev) : Dev := if s.bid.plan.isEmpty ∧ s.fld F.BID_STATUS_NSTOP = 0 then s else s.bidShow

end Sys2Proof.Machine
end

