-- ==== Sys2Proof/Machine/Causes.lean ====
section
/-! DEFINITION. The states of the safety channels and their causes (R245 to R249, R266, R267): how a cause is added and passes,
how a channel settles in the most severe demanded state, and the release from LOCKOUT. -/

namespace Sys2Proof.Machine

/-- A channel of the module. -/
def Dev.ch (s : Dev) : Chan → ChanSt
  | .a => s.chA
  | .b => s.chB

def Dev.setCh (s : Dev) (c : Chan) (x : ChanSt) : Dev :=
  match c with
  | .a => { s with chA := x }
  | .b => { s with chB := x }

def otherCh : Chan → Chan
  | .a => .b
  | .b => .a

/-- The channel number in events, and the source master of its events: Marten's are its own, Badger's hardware's (R375). -/
def chNum : Chan → Nat
  | .a => 0
  | .b => 1
def chSrc : Chan → Nat
  | .a => 5
  | .b => 0

/-- A safety parameter as the channel holds it (R236, R264). -/
def Dev.parOf (s : Dev) (c : Chan) (idx sub : Nat) : Nat :=
  match c with
  | .a => s.par idx sub
  | .b => s.bpar idx sub

/-! ## The table of causes (R248) -/

/-- The demand of a cause: a state, or 5 where the request or the partner names it. (DEDUCED, log 83) -/
def demandOf (code : Nat) : Nat :=
  if code = 2 ∨ code = 6 ∨ code = 0x14 then 1
  else if code = 3 ∨ code = 4 ∨ code = 0x30 then 5
  else if 0x40 ≤ code then 4 else 2

/-- The state after standstill: 0 RUN, 3 LOCKOUT, 5 where the table names none. -/
def afterOf (code : Nat) : Nat := if code < 0x10 then 0 else if code < 0x30 then 3 else 5

/-- A cause marked "level 2". -/
def levelTwo (code : Nat) : Bool := 0x20 ≤ code && code ≤ 0x24

/-- Severity: LOCKOUT, STOP_IMMEDIATE, STOP_CONTROLLED, HOLD, RUN (R246). -/
def rank (st : Nat) : Nat := match st with | 3 => 4 | 2 => 3 | 1 => 2 | 4 => 1 | _ => 0

def ChanSt.has (x : ChanSt) (code : Nat) : Bool := x.causes.any fun c => c.code == code

/-- A cause is asserted, with its demand where the table leaves it to the request. -/
def Dev.addAs (s : Dev) (c : Chan) (code demand : Nat) : Dev :=
  let x := s.ch c
  let l := if x.has code then
      x.causes.map fun k => if k.code == code then { k with gone := false, seen := s.tick, demand := if demandOf code = 5 ∧ k.demand ≠ 3 then demand else k.demand } else k
    else x.causes ++ [{ code := code, demand := demand, seen := s.tick }]
  s.setCh c { x with causes := l, plvl2 := if code = 0x30 then (s.ch (otherCh c)).lvl2 else x.plvl2 }

def Dev.addCause (s : Dev) (c : Chan) (code : Nat) : Dev := s.addAs c code (demandOf code)

/-- A cause is asserted while its condition holds. -/
def Dev.addIf (s : Dev) (p : Bool) (c : Chan) (code : Nat) : Dev := if p then s.addCause c code else s

/-- A cause leaves the list. -/
def Dev.removeCause (s : Dev) (c : Chan) (code : Nat) : Dev :=
  let x := s.ch c
  s.setCh c { x with causes := x.causes.filter fun k => k.code != code, plvl2 := if code = 0x30 then false else x.plvl2 }

/-- The condition of a cause is no longer there: one that passes into RUN passes once its stop has stood, one that demands
LOCKOUT stays until the release, the others pass at once (R246, R248). -/
def Dev.dropCause (s : Dev) (c : Chan) (code : Nat) : Dev :=
  let x := s.ch c
  match x.causes.find? fun k => k.code == code with
  | none => s
  | some k =>
    if afterOf code = 3 then s
    else if afterOf code = 0 ∧ (k.demand = 1 ∨ k.demand = 2) ∧ k.stood = false then
      s.setCh c { x with causes := x.causes.map fun j => if j.code == code then { j with gone := true } else j }
    else s.removeCause c code

/-! ## Settling (R246, R248, R267) -/

/-- Causes pass to their state after standstill. -/
def passStill (x : ChanSt) : List CauseSt :=
  let l := if x.still then x.causes.map fun k =>
      if (k.demand = 1 ∨ k.demand = 2) ∧ afterOf k.code = 3 then { k with demand := 3 }
      else if (k.demand = 1 ∨ k.demand = 2) ∧ afterOf k.code = 0 then { k with stood := true } else k
    else x.causes
  l.filter fun k => !(k.gone && k.stood)

/-- What a cause demands now: 0x44 waits for the next standstill. -/
def effect (x : ChanSt) (k : CauseSt) : Nat := if k.code = 0x44 ∧ k.demand = 4 ∧ x.still = false ∧ x.state ≠ 4 then 0 else k.demand

/-- The state that a channel's causes demand, with the lowest code that demands it. -/
def demanded (x : ChanSt) : Nat × Nat :=
  let d := x.causes.foldl (fun b k => if rank b < rank (effect x k) then effect x k else b) 0
  let code := x.causes.foldl (fun b k => if effect x k = d ∧ (b = 0 ∨ k.code < b) then k.code else b) 0
  if x.booting ∧ rank d < rank 4 then (4, 0) else (d, if d = 0 then 0 else code)

/-- The counter item of a departure from RUN for a cause (R387). -/
def departItem (code : Nat) : Option Nat :=
  let l := [1, 2, 3, 4, 6, 0x10, 0x11, 0x12, 0x13, 0x14, 0x15, 0x16, 0x17, 0x20, 0x21, 0x22, 0x23, 0x24, 0x40, 0x41, 0x42, 0x43, 0x44, 0x45]
  (l.findIdx? (· == code)).map (49 + ·)

/-- Channel c leaves RUN with a cause (R388): counted where the other channel was in RUN; where Badger left in this same tick,
Marten's cause counts in place of Badger's. -/
def Dev.departure (s : Dev) (c : Chan) (cause : Nat) : Dev :=
  let count (d : Dev) : Dev := match departItem cause with | some i => d.tally i 1 | none => d
  match c with
  | .b =>
    if s.chA.state = 0 then
      let s1 := count s
      { s1 with badger := { s1.badger with depart := (departItem cause).map fun i => (s.tick, i) } }
    else s
  | .a =>
    if s.chB.state = 0 then count s
    else
      match s.badger.depart with
      | some (t, i) =>
        if t = s.tick ∧ cause ≠ 0x30 then
          let s1 := { s with nv := { s.nv with counters := alSet s.nv.counters i (alGet s.nv.counters i 0 - 1) }, badger := { s.badger with depart := none } }
          count s1
        else s
      | none => s

/-- The channel takes the most severe demanded state; every change of state logs 0x8001. (DEDUCED, log 83) -/
def Dev.settle (s : Dev) (c : Chan) : Dev :=
  let x0 := s.ch c
  let x1 := { x0 with causes := passStill x0 }
  let x2 := { x1 with plvl2 := if x1.has 0x30 then (s.ch (otherCh c)).lvl2 else x1.plvl2 }
  let d := demanded x2
  let only := x2.insp && !x2.booting && !x2.causes.isEmpty && x2.causes.all (fun k => 0x42 ≤ k.code && k.code ≤ 0x44) && (d.1 == 0 || d.1 == 4)
  let st := if only then 0 else d.1
  let lv := x2.causes.any (fun k => levelTwo k.code) || (x2.has 0x30 && x2.plvl2)
  let x3 := { x2 with inspOnly := only, lvl2 := lv }
  if st = x0.state then
    let named := x3.causes.any fun k => k.code == x3.cause && effect x3 k == st
    s.setCh c { x3 with cause := if st = 0 then 0 else if named then x3.cause else d.2 }
  else
    let cause := if only then 0 else d.2
    let s1 := s.setCh c { x3 with state := st, cause := cause, rampV := if st = 1 then x3.spd.natAbs else x3.rampV, rampAt := if st = 1 then s.now else x3.rampAt }
    let s2 := (if x0.state = 0 then s1.departure c cause else s1).logBy (chSrc c) 0x8001 (chNum c) st cause
    if st = 0 ∧ (s.ch (otherCh c)).state = 0 then s2.emcyClear else s2

/-! ## Standstill and the stop ramp (R245, R249) -/

/-- STANDSTILL: |v| < 10,000 µm/s throughout 50 ms on the channel's own speed. -/
def Dev.standstill (s : Dev) (c : Chan) : Dev :=
  let x := s.ch c
  match x.slowAt with
  | some t => if x.still = false ∧ t + 50 * msCyc ≤ s.now then s.setCh c { x with still := true } else s
  | none => s

/-- The channel's speed of the tick. -/
def Dev.track (s : Dev) (c : Chan) (v : Int) : Dev :=
  let x := s.ch c
  if 10000 ≤ v.natAbs then s.setCh c { x with spd := v, slowAt := none, still := false }
  else (s.setCh c { x with spd := v, slowAt := some (x.slowAt.getD s.now) }).standstill c

/-- In STOP_CONTROLLED the speed keeps |v| ≤ max(0, |v0| - a_min t) + 100,000 µm/s (R249), else cause 0x15. (DEDUCED, log 83) -/
def Dev.rampKept (s : Dev) (c : Chan) : Dev :=
  let x := s.ch c
  let a := s.parOf c 0x2705 4
  -- compared in units of 1/400,000,000 µm/s, exactly
  let lhs := (x.spd.natAbs - 100000) * 400000000
  let rhs := x.rampV * 400000000 - a * (s.now - x.rampAt)
  s.addIf (decide (x.state = 1) && decide (rhs < lhs)) c 0x15

/-! ## The partner (R247) -/

/-- A channel takes a more severe state of its partner, as it last read it; a state that the partner only copied is not
copied back. (DEDUCED, log 23) -/
def Dev.partner (s : Dev) (c : Chan) (o : ChanSt) : Dev :=
  let x := s.ch c
  let own := x.causes.foldl (fun b k => if k.code = 0x30 then b else max b (rank (effect x k))) (if x.booting then rank 4 else 0)
  if own < rank o.state ∧ o.cause ≠ 0x30 then s.addAs c 0x30 o.state else s.dropCause c 0x30

/-! ## LOCKOUT release (R266) -/

/-- A cause that demands LOCKOUT is still present when the last evaluation asserted it; 0x24 follows the latched faults (R277). -/
def Dev.stillPresent (s : Dev) (k : CauseSt) : Bool := k.code != 0x30 && k.code != 0x24 && (k.demand == 3 || afterOf k.code == 3) && decide (s.tick ≤ k.seen)

/-- The channel may leave LOCKOUT at a valid edge. -/
def Dev.mayRelease (s : Dev) (c : Chan) (level : Nat) : Bool :=
  let x := s.ch c
  x.state == 3 && x.still && x.causes.all (fun k => !s.stillPresent k) && (level == 2 || !x.lvl2)

/-- The channel leaves LOCKOUT: 0x800F, its test faults clear (R299). -/
def Dev.release (s : Dev) (c : Chan) (level : Nat) : Dev :=
  let x := s.ch c
  let keep := x.causes.filter fun k => !(k.code == 0x30 || k.demand == 3 || afterOf k.code == 3)
  let s1 := s.setCh c { x with causes := keep, lvl2 := false, plvl2 := false, ucmp := none, tpf := 0, disc := Vector.replicate 8 none }
  (s1.logBy (chSrc c) 0x800F (chNum c) x.cause level).settle c

/-- The word of A_STATE and B_STATE (R271). -/
def ChanSt.word (x : ChanSt) : Nat := 131072 * b2n x.inspOnly + 65536 * b2n x.lvl2 + 256 * (x.cause % 256) + x.state

end Sys2Proof.Machine
end

