-- ==== Sys2Proof/Machine/Sout.lean ====
section
/-! DEFINITION. SOUT (R272 to R286): the permits, the switches, the sequencer, readback and faults, Woodpecker's tests, release
monitoring and the static brake torque test. -/

namespace Sys2Proof.Machine

def Dev.setSout (s : Dev) (x : SoutSt) : Dev := { s with sout := x }

/-- A switch is closed as demanded (without a test's inversion). -/
def Dev.sw (s : Dev) (i : Nat) : Bool := s.sout.cl.toList.getD i false

def Dev.seq (s : Dev) : Nat := s.fld F.SOUT_STATUS_SEQ

/-- The output of a switch: 0 to 3 the coil outputs, 4 and 5 the STO lines (R290). -/
def swOutput (i : Nat) : Nat := if i < 8 then i / 2 else i - 4

/-- A running test inverts switch i. -/
def Dev.inverted (s : Dev) (i : Nat) : Bool :=
  match s.sout.test with
  | some t => t.s == i
  | none => false

/-- A running test is on a switch of output x. -/
def Dev.testOn (s : Dev) (x : Nat) : Bool :=
  match s.sout.test with
  | some t => swOutput t.s == x
  | none => false

/-- The output's demand by the sequencer (R279), for the coil outputs 0 to 3. -/
def Dev.seqDemand (s : Dev) (x : Nat) : Bool :=
  let q := s.seq
  if x < 2 then bitN s.brakesInUse x && (q = 2 || q = 3 || (q = 6 && s.sout.ttBrake != x)) else decide (1 ≤ q ∧ q ≤ 6)

def Dev.bothClosed (s : Dev) (x : Nat) : Bool := s.sw (2 * x) && s.sw (2 * x + 1)
def Dev.bothOpen (s : Dev) (x : Nat) : Bool := !s.sw (2 * x) && !s.sw (2 * x + 1)

/-- The switch states as OUT[x].STATE and STO[i].STATE show them. -/
def Dev.showCoil (s : Dev) (x : Nat) : Dev :=
  let s1 := (s.setFlag (F.SOUT_OUT_STATE_HS x) (s.sw (2 * x) != s.inverted (2 * x))).setFlag (F.SOUT_OUT_STATE_LS x) (s.sw (2 * x + 1) != s.inverted (2 * x + 1))
  let s2 := s1.setFlag (F.SOUT_OUT_STATE_DEMAND x) (s.seqDemand x)
  if s.bothClosed x then s2 else s2.setFlag (F.SOUT_OUT_STATE_ECON x) false

def Dev.showSto (s : Dev) (i : Nat) : Dev :=
  (s.setFlag (F.SOUT_STO_STATE_HS i) (s.sw (8 + i) != s.inverted (8 + i))).setFlag (F.SOUT_STO_STATE_DEMAND i) s.driveEnabled

def Dev.showOuts (s : Dev) : Dev :=
  (((((s.showCoil 0).showCoil 1).showCoil 2).showCoil 3).showSto 0).showSto 1

/-! ## Opening and closing (R273, R274, R282) -/

/-- The running test ends with a result: 1 passed, 2 failed, 3 abandoned. -/
def Dev.testDone (s : Dev) (result : Nat) : Dev :=
  ((s.setSout { s.sout with test := none }).setFlag F.SOUT_TEST_BUSY false).setFld F.SOUT_TEST_LASTRES result

/-- A demand to de-energise meets a test of output x: the test is abandoned, 0x8028 (R282). (DEDUCED, log 92) -/
def Dev.abandonTest (s : Dev) (x : Nat) : Dev :=
  match s.sout.test with
  | some t => if swOutput t.s = x then (s.testDone 3).log 0x8028 t.s t.kind 0 else s
  | none => s

/-- Both switches of a coil output open in this cycle. -/
def Dev.openOutput (s : Dev) (x : Fin 4) : Dev :=
  let s1 := s.abandonTest x.val
  if s1.bothOpen x.val then s1.showCoil x.val
  else
    let k := s1.sout
    let cl := (k.cl.set! (2 * x.val) false).set! (2 * x.val + 1) false
    (s1.setSout { k with cl := cl, topen := k.topen.set x s1.now }).showCoil x.val

def Dev.openSto (s : Dev) (i : Fin 2) : Dev :=
  let s1 := s.abandonTest (4 + i.val)
  (s1.setSout { s1.sout with cl := s1.sout.cl.set! (8 + i.val) false }).showSto i.val

/-- Every switch opens and both STO lines fall. -/
def Dev.openAll (s : Dev) : Dev :=
  (((((s.openOutput 0).openOutput 1).openOutput 2).openOutput 3).openSto 0).openSto 1

/-- Outputs that the sequencer no longer demands open at once. -/
def Dev.dropDemands (s : Dev) : Dev :=
  let f (d : Dev) (x : Fin 4) : Dev := if d.bothOpen x.val || d.seqDemand x.val then d.showCoil x.val else d.openOutput x
  (((f s 0) |> (f · 1)) |> (f · 2)) |> (f · 3)

/-- The permits of a channel (R240, R245, R258, R267, R322): bits 0 to 3 the coil outputs, bit 4 its own STO line, given the
drive enable. (DEDUCED, log 91) -/
def Dev.permits (s : Dev) (c : Chan) (en : Bool) : Nat :=
  let x := s.ch c
  let md := s.fld F.PGEN_STATUS_MODE
  let go := (x.state = 0 && !(x.inspOnly && md != 1 && md != 3)) || x.state = 1
  let idle := s.seq = 0
  let noMc := idle && ((s.marten.refuse && md != 1 && md != 2) || (c == .a && s.marten.srdoBad))
  let coils := if go = false ∨ s.sout.pfail.isSome then 0 else if noMc then 3 else 15
  let sto := go && (x.state = 0 || !x.still) && en && s.sout.pfail == none
  coils + 16 * b2n sto

/-- The permit register of a channel. -/
def permReg : Chan → Nat
  | .a => R.SOUT_APERM
  | .b => R.SOUT_BPERM

/-- A channel's permits take a new value: every output that loses a permit opens in this cycle (R273, R274). -/
def Dev.putPermits (s : Dev) (c : Chan) (v : Nat) : Dev :=
  let old := (s.rd (permReg c)).toNat % 32
  let s1 := s.wrN (permReg c) (v % 32)
  let lost (i : Nat) : Bool := bitN old i && !bitN v i
  let f (d : Dev) (x : Fin 4) : Dev := if lost x.val then d.openOutput x else d
  let s2 := (((f s1 0) |> (f · 1)) |> (f · 2)) |> (f · 3)
  let s3 := match c with
    | .a => if lost 4 then s2.openSto 0 else s2
    | .b => if lost 4 then s2.openSto 1 else s2
  match c with
  | .a => s3.setSout { s3.sout with aSeen := true }
  | .b => s3.setSout { s3.sout with bSeen := true }

/-- SEQ goes to OFF with every switch open when either channel demands it (R279); a torque test is abandoned (R286). -/
def Dev.stopSeq (s : Dev) : Dev :=
  let t := if s.bothRun then s else s.abandonTorque
  if s.stopNow ∧ t.seq ≠ 0 then (t.setSout { t.sout with endDrive := false }).seqSet 0 |>.openAll else t

/-- A channel sets its permits from its state, once its boot checks are complete. (DEDUCED, log 91) -/
def Dev.setPermits (s : Dev) (c : Chan) : Dev :=
  if (s.ch c).booting then s else (s.putPermits c (s.permits c s.driveEnabled)).stopSeq

/-- The commit at 95 µs closes the outputs that are demanded with both permits; a running test is not cut short (R274, R282). -/
def Dev.commitCoil (s : Dev) (x : Fin 4) : Dev :=
  let perm := bitN (s.rd R.SOUT_APERM).toNat x.val && bitN (s.rd R.SOUT_BPERM).toNat x.val
  if s.seqDemand x.val && perm && !s.bothClosed x.val && !s.testOn x.val && !s.sout.vsLow then
    let k := s.sout
    (s.setSout { k with cl := (k.cl.set! (2 * x.val) true).set! (2 * x.val + 1) true, tclose := k.tclose.set x s.now }).showCoil x.val
  else s.showCoil x.val

def Dev.commitSto (s : Dev) (i : Fin 2) : Dev :=
  let perm := bitN (s.rd (if i = 0 then R.SOUT_APERM else R.SOUT_BPERM)).toNat 4
  if perm && !s.sw (8 + i.val) then (s.setSout { s.sout with cl := s.sout.cl.set! (8 + i.val) true }).showSto i.val else s.showSto i.val

def Dev.commitOutputs (s : Dev) : Dev :=
  (((((s.commitCoil 0).commitCoil 1).commitCoil 2).commitCoil 3).commitSto 0).commitSto 1

/-! ## Readback (R275 to R277) -/

/-- The class of a node: 0 LO, 1 MID, 2 HI, against the supply that its HI threshold refers to. -/
def nodeClass (v supply : Nat) : Nat := if v < 1000 then 0 else if 2 * supply ≤ 5 * v then 2 else 1

/-- The latched fault code of output x (R290). -/
def outFaultFld (x : Nat) : Fld := if x < 4 then F.SOUT_OUT_STATE_FAULT x else F.SOUT_STO_STATE_FAULT (x - 4)

def Dev.outFaultCode (s : Dev) (x : Nat) : Nat := s.fld (outFaultFld x)

def Dev.anyOutFault (s : Dev) : Bool := (upTo 6).any fun x => s.outFaultCode x != 0

/-- The node classes of output x as one number, in the layout of OUT[x].STATE (HCLASS above LCLASS). (DESIGN CHOICE, log 131) -/
def Dev.classesOf (s : Dev) (x : Nat) : Nat :=
  if x < 4 then 4 * s.fld (F.SOUT_OUT_STATE_HCLASS x) + s.fld (F.SOUT_OUT_STATE_LCLASS x) else 4 * s.fld (F.SOUT_STO_STATE_HCLASS (x - 4))

/-- A fault on output x: latched with 0x8020 and in Bear; the channels that find it add cause 0x24 and open (R277). Code 7 is
found by Marten, which reads the release switches; every other code by both channels. -/
def Dev.outFault (s : Dev) (x code cls : Nat) : Dev :=
  if s.outFaultCode x ≠ 0 then s
  else
    let s1 := (s.setFld (outFaultFld x) code).setFlag F.SOUT_IRQ_FAULT true
    let s2 := { s1 with nv := { s1.nv with outFaults := alSet s1.nv.outFaults x code } }
    let s3 := s2.log 0x8020 x code cls
    let s4 := s3.addCause .a 0x24
    let s5 := if code = 7 then s4 else ((s4.addCause .b 0x24).settle .b).setPermits .b
    (s5.settle .a).setPermits .a

/-- Fault code 1 to 3 of an idle output, 0 where it reads as expected. -/
def idleFault (hi lo : Nat) : Nat :=
  if hi = 2 ∨ lo = 2 then 1
  else if lo = 0 then 2
  else if hi = 0 then 3 else 0

/-- Fault code 3 or 5 of an energised output. -/
def onFault (hi lo il : Nat) : Nat :=
  if il < 20 then 3 else if hi = 2 ∧ lo = 0 then 0 else 5

/-- One coil output at the sample point: its classes and currents, and its judgement. -/
def Dev.sampleCoil (s : Dev) (inp : SampleIn) (x : Fin 4) : Dev :=
  let r := inp.outs.getD x.val {}
  let hi := nodeClass r.hi inp.vsafe
  let lo := nodeClass r.lo inp.vsafe
  let s1 := ((s.setFld (F.SOUT_OUT_STATE_HCLASS x.val) hi).setFld (F.SOUT_OUT_STATE_LCLASS x.val) lo).wrN (R.SOUT_OUT_CURR x.val) (min r.ih 65535 * 65536 + min r.il 65535)
  let k := s.sout
  let cls := 4 * hi + lo
  if s.testOn x.val then s1
  else if s.bothClosed x.val then
    if k.vsLow then s1.outFault x.val 5 cls
    else if k.tclose[x] + 100 * msCyc ≤ s.now ∧ onFault hi lo r.il ≠ 0 then s1.outFault x.val (onFault hi lo r.il) cls else s1
  else if s.bothOpen x.val ∧ k.topen[x] + 200 * msCyc ≤ s.now ∧ k.vsLow = false ∧ idleFault hi lo ≠ 0 then
    s1.outFault x.val (idleFault hi lo) cls
  else s1

/-- One STO line at the sample point: on must read HI, off must read LO; off and LO counts as tested. -/
def Dev.sampleSto (s : Dev) (inp : SampleIn) (i : Fin 2) : Dev :=
  let r : Nat × Nat := inp.sto.getD i.val (0, 0)
  let c := nodeClass r.1 inp.vin
  let s1 := s.setFld (F.SOUT_STO_STATE_HCLASS i.val) c
  if s.testOn (4 + i.val) then s1
  else if s.sw (8 + i.val) then (if c = 0 then s1.outFault (4 + i.val) 5 (4 * c) else s1)
  else if c = 2 then s1.outFault (4 + i.val) 1 (4 * c)
  else if c = 0 then s1.setSout { s1.sout with passed := s1.sout.passed.set! (8 + i.val) s1.now, overdue := s1.sout.overdue.set! (8 + i.val) false }
  else s1

/-- The current limit of output x in mA (R272). -/
def limitMa (x : Nat) : Nat := if x < 2 then 4000 else if x < 4 then 1600 else 80

/-- A current held at its limit for 10 ms: code 6 (R277). -/
def Dev.outputOvercurrent (s : Dev) (x : Fin 6) : Dev :=
  match s.sout.oc[x] with
  | some t => if t + 10 * msCyc ≤ s.now then s.outFault x.val 6 (s.classesOf x.val) else s
  | none => s

/-- The current of output x at the sample point against its limit. -/
def Dev.sampleLimit (s : Dev) (inp : SampleIn) (x : Fin 6) : Dev :=
  let i := if x.val < 4 then max (inp.outs.getD x.val {}).ih (inp.outs.getD x.val {}).il else (inp.sto.getD (x.val - 4) (0, 0)).2
  let was := s.sout.oc[x]
  let v : Option Nat := if limitMa x.val ≤ i then some (was.getD s.now) else none
  (s.setSout { s.sout with oc := s.sout.oc.set x v }).outputOvercurrent x

/-! ## Release monitoring (R284) -/

/-- The IO24 channel that monitors output x; 0xFF none. -/
def Dev.monInput (s : Dev) (x : Nat) : Nat := s.par 0x2712 (if x < 2 then 1 + x else 4 + x)

/-- The monitored input of output x shows it energised (released, closed); without an input it follows the demand. -/
def Dev.monShows (s : Dev) (x : Nat) : Bool :=
  let c := s.monInput x
  if 52 ≤ c then s.bothClosed x
  else if x < 2 then s.inLevel c == bitN (s.par 0x2712 3) x else !s.inLevel c

/-- Output x is monitored: a brake in use or a contactor, with an input. -/
def Dev.monitored (s : Dev) (x : Nat) : Bool := decide (s.monInput x < 52) && (2 ≤ x || bitN s.brakesInUse x)

/-- The reading has differed from the expected one throughout 0x2712:04: 0x8023 and fault code 7. -/
def Dev.releaseMonitorFault (s : Dev) (x : Fin 4) : Dev :=
  match s.sout.mon[x] with
  | some t =>
    if t + s.par 0x2712 4 * msCyc ≤ s.now ∧ s.outFaultCode x.val = 0 then
      (s.outFault x.val 7 (s.classesOf x.val)).log 0x8023 (s.monInput x.val) (b2n (s.seqDemand x.val)) x.val
    else s
  | none => s

/-- Marten reads the switch of output x from the snapshot. -/
def Dev.sampleMonitor (s : Dev) (x : Fin 4) : Dev :=
  let differs := s.monitored x.val && (s.monShows x.val != s.seqDemand x.val)
  let v : Option Nat := if differs then some (s.sout.mon[x].getD s.now) else none
  let s1 := (s.setSout { s.sout with mon := s.sout.mon.set x v }).releaseMonitorFault x
  if x.val < 2 then
    let w := s1.fld F.SOUT_STATUS_BRKREL
    s1.setFld F.SOUT_STATUS_BRKREL (putBit w x.val (bitN s.brakesInUse x.val && s.monShows x.val))
  else s1

/-- Every brake in use shows released, or applied. -/
def Dev.brakesShow (s : Dev) (released : Bool) : Bool :=
  (upTo 2).all fun b => !bitN s.brakesInUse b || s.monShows b == released

/-! ## The sequencer (R278, R279) -/

/-- A channel would let the contactors close: it refuses no start (R240, R322). -/
def Dev.startAllowed (s : Dev) (c : Chan) : Bool := s.permits c true / 4 % 4 == 3

/-- The drive enable is set: SEQ becomes CONTACT (R279), not while VSAFE is low (R422) or a fault is latched, and not for a start
that a channel refuses. (DEDUCED, log 91) -/
def Dev.seqContact (s : Dev) : Dev :=
  if s.seq = 0 ∧ s.startAllowed .a ∧ s.startAllowed .b ∧ s.driveEn ∧ s.sout.ttStep = 0 ∧ !s.stopNow ∧ !s.sout.vsLow ∧ !s.anyOutFault ∧ s.sout.aSeen ∧ s.sout.bSeen ∧ s.sout.pfail = none then
    ((s.seqSet 1).tally 7 1).tally 8 1
  else s

/-- After the settle time with TORQUE reported: the brakes are demanded. -/
def Dev.seqRelease (s : Dev) : Dev :=
  if s.seq = 1 ∧ s.sout.seqAt + s.par 0x2711 3 * msCyc ≤ s.now ∧ s.driveTorque then
    let s1 := s.seqSet 2
    let s2 := if bitN s.brakesInUse 0 then s1.tally 5 1 else s1
    if bitN s.brakesInUse 1 then s2.tally 6 1 else s2
  else s

/-- Every release switch shows released. -/
def Dev.seqRun (s : Dev) : Dev := if s.seq = 2 ∧ s.brakesShow true then s.seqSet 3 else s

/-- At standstill with PGEN in IDLE or HELD the brakes are applied; a channel in STOP_CONTROLLED takes any started sequence there at
standstill. -/
def Dev.seqApply (s : Dev) : Dev :=
  let stopping := (1 ≤ s.seq ∧ s.seq ≤ 3) ∧ (s.chA.state = 1 ∨ s.chB.state = 1)
  if s.chA.still ∧ s.chB.still ∧ ((s.seq = 3 ∧ (s.pgState = 0 ∨ s.pgState = 4)) ∨ stopping) then (s.seqSet 4).dropDemands else s

/-- After the apply delay with every switch showing applied: the drive enable clears and both STO lines fall (R258, R279). -/
def Dev.seqDisable (s : Dev) : Dev :=
  if s.seq = 4 ∧ s.sout.seqAt + s.par 0x2712 5 * msCyc ≤ s.now ∧ s.brakesShow false then
    let s1 := (s.setSout { s.sout with endDrive := true }).seqSet 5
    let s2 := s1.odPut 0x2210 3 0
    ((s2.putPermits .a ((s2.rd R.SOUT_APERM).toNat % 16)).putPermits .b ((s2.rd R.SOUT_BPERM).toNat % 16)).dropDemands
  else s

/-- After the MC open delay the contactors open: OFF. -/
def Dev.seqOff (s : Dev) : Dev :=
  if s.seq = 5 ∧ s.sout.seqAt + s.par 0x2711 4 * msCyc ≤ s.now then
    ((s.setSout { s.sout with endDrive := false }).seqSet 0).dropDemands
  else s

/-- One step of the sequencer at the sample point: the first that is due. -/
def Dev.seqStep (s : Dev) : Dev :=
  let s1 := s.seqOff
  if s1.seq ≠ s.seq then s1
  else
    let s2 := s.seqDisable
    if s2.seq ≠ s.seq then s2
    else
      let s3 := s.seqApply
      if s3.seq ≠ s.seq then s3
      else
        let s4 := s.seqRun
        if s4.seq ≠ s.seq then s4 else s.seqRelease

/-- The over-excitation time of brake b has ended: economy (R278). -/
def Dev.economyStart (s : Dev) (b : Fin 2) : Dev :=
  let x : Fin 4 := Fin.ofNat 4 b.val
  if s.bothClosed b.val ∧ s.sout.tclose[x] + s.par 0x2711 1 * msCyc ≤ s.now then s.setFlag (F.SOUT_OUT_STATE_ECON b.val) true else s

/-! ## Woodpecker (R280 to R283) -/

/-- The age of switch i in ms. -/
def Dev.testAge (s : Dev) (i : Nat) : Nat := min 4294967295 ((s.now - s.sout.passed.toList.getD i 0) / msCyc)

/-- A switch's age has passed the interval: 0x8022 once (R283). -/
def Dev.testOverdue (s : Dev) (i : Fin 10) : Dev :=
  if s.par 0x2713 1 * msCyc < s.now - s.sout.passed[i] ∧ s.sout.overdue[i] = false then
    ((s.setSout { s.sout with overdue := s.sout.overdue.set i true }).setFlag F.SOUT_IRQ_OVERDUE true).log 0x8022 i.val (s.testAge i.val) 0
  else s

/-- A switch is untested for ten intervals, or the torque test for two (R283, R286). -/
def Dev.tooOld (s : Dev) (i : Nat) : Bool := decide (10 * s.par 0x2713 1 * msCyc ≤ s.now - s.sout.passed.toList.getD i 0)

/-- The torque test interval in fabric cycles. -/
def Dev.torqueInterval (s : Dev) : Nat := s.par 0x2715 1 * 3600000 * msCyc

def Dev.torqueOld (s : Dev) : Bool := decide (2 * s.torqueInterval ≤ s.now - s.sout.ttLast)

/-- The age of switch i has reached ten intervals: Marten adds cause 0x44. -/
def Dev.testAgeLimit (s : Dev) (i : Fin 10) : Dev := if s.tooOld i.val then (s.addCause .a 0x44).settle .a else s

/-- The torque test has not passed within twice its interval: cause 0x44 (R286). -/
def Dev.torqueOverdue (s : Dev) : Dev := if s.torqueOld then (s.addCause .a 0x44).settle .a else s

/-- Ages at the sample point. -/
def Dev.sampleAges (s : Dev) : Dev :=
  let s1 := (List.finRange 10).foldl (fun (d : Dev) i => (d.wrN (R.SOUT_AGE i.val) (d.testAge i.val)).testOverdue i) s
  let s2 := s1.setFld F.SOUT_TTEST_HOURS (min 65535 ((s1.now - s1.sout.ttLast) / (3600000 * msCyc)))
  if (upTo 10).any s2.tooOld || s2.torqueOld then s2.addCause .a 0x44 else s2.dropCause .a 0x44

/-- The readings that a test of switch i expects (R276). -/
def Dev.testExpected (s : Dev) (i kind : Nat) (rd : OutReading) : Bool :=
  if i < 8 then
    let hi := nodeClass rd.hi s.sout.vsafe
    let lo := nodeClass rd.lo s.sout.vsafe
    let high := i % 2 = 0
    -- a bright test of the high side and a dark test of the low side lift both nodes
    let up := (kind = 1) == high
    let cls := if up then 2 else 0
    hi == cls && lo == cls && decide ((if high then rd.ih else rd.il) < 20)
  else nodeClass rd.hi s.sout.vin = 0 && decide (rd.ih < 80)

/-- The kind of test that switch i calls for now, where its preconditions hold: 0 dark, 1 bright (R280, R281). (DEDUCED, log 92) -/
def Dev.testKind (s : Dev) (i : Nat) (rd : OutReading) : Option Nat :=
  if i < 8 then
    let x := i / 2
    let k := s.sout
    let want := s.seqDemand x && bitN (s.rd R.SOUT_APERM).toNat x && bitN (s.rd R.SOUT_BPERM).toNat x
    if s.bothClosed x then (if want ∧ k.vsLow = false then some 0 else none)
    else if s.bothOpen x ∧ want = false ∧ k.vsLow = false ∧ k.topen.toList.getD x 0 + 200 * msCyc ≤ s.tick * tickCyc then
      let guard := if i % 2 = 1 then nodeClass rd.hi k.vsafe ≠ 2 else nodeClass rd.lo k.vsafe ≠ 0
      if guard then some 1 else none
    else none
  else if s.sw i then some 0 else none

/-- Woodpecker starts the test of the switch that is next, 20 µs after a tick start; an STO line that is off counts as tested. (DEDUCED, log 92) -/
def Dev.outputTestStart (s0 : Dev) (rd : OutReading) : Dev :=
  let s := s0.at (20 * usCyc)
  let k := s.sout
  let i := s.fld F.SOUT_TEST_NEXT
  let due : Bool := match k.lastTest with | some t => decide (t + s.par 0x2713 1 * msCyc / 20 ≤ s.now) | none => true
  if k.test = none ∧ k.aSeen ∧ k.bSeen ∧ k.pfail = none ∧ due then
    if 8 ≤ i ∧ s.sw i = false then s.setFld F.SOUT_TEST_NEXT ((i + 1) % 10)
    else
      match s.testKind i rd with
      | some kind => ((s.setSout { k with test := some { s := i, kind := kind, start := s.now }, lastTest := some s.now }).setFld F.SOUT_TEST_KIND kind).setFlag F.SOUT_TEST_BUSY true |>.showOuts
      | none => s
  else s

/-- The other outputs, idle and judged (R276), of which a node reads HI during a bright test of a high side (R277, code 8). -/
def Dev.crossed (s : Dev) (x : Nat) (others : List OutReading) : List Nat :=
  (upTo 4).filter fun y => y != x && s.bothOpen y && decide (s.sout.topen.toList.getD y 0 + 200 * msCyc ≤ s.now) && (let r := others.getD y {}; nodeClass r.hi s.sout.vsafe = 2 || nodeClass r.lo s.sout.vsafe = 2)

/-- A sample of the running test: within its window it passes at the expected readings, and a node of another idle output at HI is a
cross-short; at the end of the window it fails (R11, R281). Readings that are not expected before that decide nothing. -/
def Dev.outputTestEnd (s0 : Dev) (off : Nat) (rd : OutReading) (others : List OutReading) : Dev :=
  let s := s0.at off
  match s.sout.test with
  | none => s
  | some t =>
    let x := swOutput t.s
    let next (d : Dev) : Dev := d.setFld F.SOUT_TEST_NEXT ((t.s + 1) % 10)
    let cls := if x < 4 then 4 * nodeClass rd.hi s.sout.vsafe + nodeClass rd.lo s.sout.vsafe else 4 * nodeClass rd.hi s.sout.vin
    let late := decide (t.start + 300 * usCyc ≤ s.now)
    let hit := if late = false ∧ t.kind = 1 ∧ t.s < 8 ∧ t.s % 2 = 0 then s.crossed x others else []
    match hit with
    | y :: _ =>
      let s1 := (next (s.testDone 2)).showOuts
      (s1.outFault x 8 cls).outFault y 8 (s.classesOf y)
    | [] =>
      if late = false ∧ s.testExpected t.s t.kind rd then
        let s1 := next (s.testDone 1)
        ((s1.setSout { s1.sout with passed := s1.sout.passed.set! t.s s1.now, overdue := s1.sout.overdue.set! t.s false }).wrN (R.SOUT_AGE t.s) 0).showOuts
      else if late then
        let s1 := (next (s.testDone 2)).showOuts
        (s1.outFault x (if t.kind = 0 then 4 else 5) cls).log 0x8021 t.s t.kind cls
      else s

/-! ## The static brake torque test (R285, R286) -/

/-- The test falls due. -/
def Dev.torqueDue (s : Dev) : Dev :=
  if s.sout.ttStep = 0 ∧ s.torqueInterval ≤ s.now - s.sout.ttLast then s.setFld F.SOUT_STATUS_TTSTATE 1 else s

/-- A step of the test begins on brake b: P0 is each channel's own position. -/
def Dev.torqueStep (s : Dev) (b : Nat) : Dev :=
  (s.setSout { s.sout with ttStep := 1, ttBrake := b, ttA := s.chA.pos, ttB := s.chB.pos })

/-- The test starts at a quiet point with its conditions met. -/
def Dev.torqueStart (s : Dev) : Dev :=
  if s.sout.ttStep = 0 ∧ s.torqueInterval ≤ s.now - s.sout.ttLast ∧ s.quietPoint ∧ s.bothRun ∧ s.carEmpty ∧ s.chainClosed ∧ s.seq = 0 ∧
      !s.sout.vsLow ∧ !s.anyOutFault then
    let b := if bitN s.brakesInUse 0 then 0 else 1
    let s1 := s.torqueStep b
    (((s1.setSout { s1.sout with ttMax := 0 }).setFld F.SOUT_STATUS_TTSTATE 2).seqSet 6).showOuts
  else s

/-- A brake's hold has ended without movement: the next brake in use, or the end of the test through APPLY. -/
def Dev.torqueStepEnd (s : Dev) : Dev :=
  if s.sout.ttStep = 2 ∧ s.sout.ttAt + s.par 0x2715 2 * msCyc ≤ s.now then
    if s.sout.ttBrake = 0 ∧ bitN s.brakesInUse 1 then (s.torqueStep 1).dropDemands
    else ((s.torqueEnd 0).seqSet 4).dropDemands
  else s

/-- The hold begins with the first tick in which the drive reports TORQUE. -/
def Dev.torqueSample (s : Dev) : Dev :=
  if s.sout.ttStep = 1 ∧ s.driveTorque then s.setSout { s.sout with ttStep := 2, ttAt := s.now } else s

/-- A movement of the limit or more from P0 in either channel, in the positions of the tick, fails the test. -/
def Dev.torqueWatch (s : Dev) : Dev :=
  let k := s.sout
  if k.ttStep = 0 then s
  else
    let mv := max (s.chA.pos - k.ttA).natAbs (s.chB.pos - k.ttB).natAbs
    let s1 := (s.setSout { k with ttMax := max k.ttMax mv }).setFld F.SOUT_TTEST_DEV (min 65535 (max k.ttMax mv))
    if s.par 0x2715 5 ≤ mv then (s1.torqueEnd 1).outFault k.ttBrake 7 (s1.classesOf k.ttBrake) else s1

/-! ## SOUT at the sample point -/

/-- The snapshot of the safety outputs: readback, currents, monitoring, ages, the torque test and the sequencer. (DESIGN CHOICE, log 20) -/
def Dev.soutSample (s : Dev) (inp : SampleIn) : Dev :=
  let s0 := s.setSout { s.sout with vsafe := inp.vsafe, vin := inp.vin }
  let s1 := (List.finRange 4).foldl (fun (d : Dev) x => d.sampleCoil inp x) s0
  let s2 := (List.finRange 2).foldl (fun (d : Dev) i => d.sampleSto inp i) s1
  let s3 := (List.finRange 6).foldl (fun (d : Dev) x => d.sampleLimit inp x) s2
  let s4 := (List.finRange 4).foldl (fun (d : Dev) x => d.sampleMonitor x) s3
  (((s4.economyStart 0).economyStart 1).sampleAges.torqueSample.seqStep).showOuts

end Sys2Proof.Machine
end

