-- ==== Sys2Proof/Machine/Io24.lean ====
section
/-! DEFINITION. IO24 (R293 to R312): accepted input levels and their snapshot, test pulses, chain taps, the output pads with
their faults and the cross-short probe, the field supplies and the channel maps. -/

namespace Sys2Proof.Machine

def Dev.setIo (s : Dev) (x : IoSt) : Dev := { s with io := x }

/-! ## Inputs (R293 to R296, R300) -/

/-- The edges of a passage that Badger measures (R239): a rising edge starts a new passage where the sensor or the other one
has an edge that cannot belong to this one. -/
def passJoin (p : Vector (Option BadgerEdge) 4) (sensor : Nat) (rising : Bool) (e : BadgerEdge) : Vector (Option BadgerEdge) 4 :=
  let i := 2 * sensor + b2n (!rising)
  let again := rising && (p[1].isSome || p[3].isSome || (p.toList.getD i none).isSome)
  let q : Vector (Option BadgerEdge) 4 := if again then Vector.replicate 4 none else p
  q.set! i (some e)

/-- Badger's count and direction changes at an earlier instant; before all that it has kept, the earliest it knows. -/
def trailAt (trail : List (Nat × Int × Nat)) (now : Int × Nat) (t : Nat) : Int × Nat :=
  match trail.find? fun e => e.1 ≤ t with
  | some e => e.2
  | none => match trail.getLast? with | some e => e.2 | none => now

/-- Badger's count of an edge of a door-zone sensor, at the raw transition (R71, R239). -/
def Dev.badgerZoneEdge (s : Dev) (sensor : Nat) (rising : Bool) (t : Nat) : Dev :=
  let g := s.badger
  let r := trailAt g.trail (g.count, g.turns) t
  { s with badger := { g with pass := passJoin g.pass sensor rising { count := r.1, turns := r.2 } } }

/-- How long an input must hold a level before its filter accepts it, in cycles (R295, R296, R300). -/
def Dev.pinFilter (s : Dev) (pin : InPin) : Nat :=
  match pin with
  | .gen c => s.srcFilter c.val
  | .sin ch _ => s.parOf ch 0x2709 9 * 40000
  | .tap ch _ => s.parOf ch 0x2709 9 * 40000

/-- INRAW shows the comparator's level, accepted or not. -/
def Dev.showRaw (s : Dev) (pin : InPin) (lvl : Bool) : Dev :=
  match pin with
  | .gen c => s.wrN (R.IO24_INRAW (c.val / 32)) (putBit (s.rd (R.IO24_INRAW (c.val / 32))).toNat (c.val % 32) lvl)
  | _ => s

/-- A level that has held for `held` cycles: the filter accepts it or, where it has not held for the whole window, does not (R295,
R296, R300). A change is captured by the latch units at its last raw transition (R71). -/
def Dev.inputAccepted (s0 : Dev) (pin : InPin) (lvl : Bool) (held off : Nat) : Dev :=
  let s := (s0.at off).showRaw pin lvl
  if held < s.pinFilter pin then s else
  match pin with
  | .gen c =>
    let was := bitN s.io.acc c.val
    let a := putBit s.io.acc c.val lvl
    let d := s.setIo { s.io with acc := a }
    if was = lvl then d else d.latSource c.val lvl (s.now - held)
  | .sin ch i =>
    let was := bitN (s.ch ch).sin i.val
    let s1 := s.setCh ch { s.ch ch with sin := putBit (s.ch ch).sin i.val lvl }
    if was = lvl then s1 else
    match ch with
    | .a => s1.latSource (64 + i.val) lvl (s.now - held)
    | .b => if 14 ≤ i.val then s1.badgerZoneEdge (i.val - 14) lvl (s.now - held) else s1
  | .tap ch t => s.setCh ch { s.ch ch with taps := putBit (s.ch ch).taps t.val lvl }

/-- One word of the input snapshot: INLVL, and INCHG for the channels that differ. -/
def Dev.inputWord (s : Dev) (w : Nat) : Dev :=
  let new := BitVec.ofNat 32 (s.io.acc / 2 ^ (32 * w))
  let old := s.rd (R.IO24_INLVL w)
  let s1 := (s.wr (R.IO24_INLVL w) new).wr (R.IO24_INCHG w) (s.rd (R.IO24_INCHG w) ||| (new ^^^ old))
  if new = old then s1 else s1.setFlag F.IO24_IRQ_INCHG true

/-- The taps in use (0x2709:0A). -/
def Dev.tapMask (s : Dev) (c : Chan) : Nat := s.parOf c 0x2709 10

/-- A tap in use reads energised above a lower one in use that does not (R301). -/
def tapsWrong (mask lvl : Nat) : Bool :=
  (upTo 6).any fun i => bitN mask i && bitN lvl i && (upTo i).any fun j => bitN mask j && !bitN lvl j

/-- A wrong tap order has lasted 500 ms: 0x6030, once for the run. -/
def Dev.chainTapOrder (s : Dev) : Dev :=
  match s.io.tapAt with
  | some t =>
    if t + 500 * msCyc ≤ s.now ∧ s.io.tapLog = false then
      (s.setIo { s.io with tapLog := true }).log 0x6030 (s.fld F.IO24_CTAP_LVL &&& s.tapMask .a) 0 0
    else s
  | none => s

/-- The snapshot of the inputs at the sample point. -/
def Dev.inputSample (s : Dev) : Dev :=
  let s1 := (((s.inputWord 0).inputWord 1).setFld F.IO24_SIN_LVL (s.chA.sin % 65536)).setFld F.IO24_SIN_TPFLT (s.chA.tpf ||| s.chB.tpf)
  let s2 := s1.setFld F.IO24_CTAP_LVL (s.chA.taps % 64)
  let s3 := if tapsWrong (s.tapMask .a) s.chA.taps then s2.setIo { s2.io with tapAt := some (s2.io.tapAt.getD s2.now) }
    else s2.setIo { s2.io with tapAt := none, tapLog := false }
  s3.chainTapOrder

/-! ## Test pulses (R297 to R299) -/

/-- The TP outputs begin once both channels have left reset, which the model reads as the end of their boot HOLD: they are high
outside their windows (R297, R310). (DEDUCED, log 130) -/
def Dev.tpBegin (s : Dev) : Dev :=
  if s.io.tpOn ∨ s.chA.booting ∨ s.chB.booting ∨ s.sout.pfail.isSome then s
  else (s.setIo { s.io with tpOn := true }).setFld F.IO24_TP_LVL 15

/-- TP[t] goes low in the ticks of its schedule. -/
def Dev.pulseWindow (s0 : Dev) (t : Fin 4) : Dev :=
  let s := s0.at (10 * usCyc)
  let per := s.par 0x270A 10
  if s.io.tpOn ∧ s.sout.pfail = none ∧ s.tick % (8 * per) = 2 * per * t.val then s.setFld F.IO24_TP_LVL (putBit (s.fld F.IO24_TP_LVL) t.val false) else s

/-- The source of input i in a channel's set: 0 none, 1 to 4 (R298). -/
def Dev.tpSource (s : Dev) (c : Chan) (i : Nat) : Nat := s.parOf c 0x270A (i / 2 + 1) / 16 ^ (i % 2) % 16

/-- The fault code of input i for channel c in a window of TP[t]; 0 none. (DEDUCED, log 90) -/
def Dev.pulseFault (s : Dev) (c : Chan) (t i : Nat) (j : PulseReading) (v : PulseView) : Nat :=
  let src := s.tpSource c i
  if src = t + 1 ∧ (j.lowHalf = false ∨ j.lowOutside) then 3
  else if v.onStart.getLsbD i = false then 0
  else if src = t + 1 then (if v.offHalf.getLsbD i then 0 else 1)
  else if src ≠ 0 ∧ v.offHalf.getLsbD i ∧ v.onAfter.getLsbD i then 2 else 0

/-- A test fault of input i: latched, cause 0x17, 0x6020 (R299). (DEDUCED, log 90) -/
def Dev.testFault (s : Dev) (c : Chan) (i code : Nat) : Dev :=
  let x := s.ch c
  if bitN x.tpf i then s
  else
    let s1 := s.setCh c { x with tpf := putBit x.tpf i true }
    let s2 := { s1 with nv := { s1.nv with tpf := putBit s1.nv.tpf i true } }
    let s3 := (s2.setFld F.IO24_SIN_TPFLT (s2.chA.tpf ||| s2.chB.tpf)).setFlag F.IO24_IRQ_TPFLT true
    (s3.logBy (chSrc c) 0x6020 i code (s.tpSource c i)).addCause c 0x17

/-- One channel judges a window. -/
def Dev.pulseChannel (s : Dev) (c : Chan) (t : Nat) (j : PulseReading) (v : PulseView) : Dev :=
  let s1 := (upTo 16).foldl (fun (d : Dev) i => if s.pulseFault c t i j v = 0 then d else d.testFault c i (s.pulseFault c t i j v)) s
  if (s1.ch c).tpf = (s.ch c).tpf then s1 else (s1.settle c).setPermits c

/-- The window of TP[t] ends: the output is high again and both channels judge. -/
def Dev.pulseJudge (s : Dev) (t : Fin 4) (j : PulseReading) : Dev :=
  if bitN (s.fld F.IO24_TP_LVL) t.val ∨ s.io.tpOn = false then s
  else
    let s1 := s.setFld F.IO24_TP_LVL (putBit (s.fld F.IO24_TP_LVL) t.val true)
    let s2 := s1.setFld F.IO24_TP_FLT (putBit (s1.fld F.IO24_TP_FLT) t.val (j.lowHalf = false || j.lowOutside))
    (s2.pulseChannel .a t.val j j.viewA).pulseChannel .b t.val j j.viewB

/-! ## Output pads (R302 to R307) -/

/-- The field supply of a pad (R302). -/
def padSupply (p : Nat) : Nat := if p < 16 ∨ p = 32 ∨ p = 33 then 0 else 1

def Dev.supplyOk (s : Dev) (f : Nat) : Bool := s.fld (F.IO24_FIELD_STATE f) = 0

/-- The state that the commands and the map demand of a pad (R303). -/
def Dev.padWanted (s : Dev) (p : Nat) : Bool :=
  let cmd := s.rdF R.IO24_OUTCMD &&& ~~~ s.rdF R.IO24_AFORCE
  (upTo 32).any fun n => s.fldF (F.IO24_OUTMAP_PAD n) = p && cmd.getLsbD n

def Dev.padFault (s : Dev) (p : Nat) : Nat := s.fld (F.IO24_OUTSTAT_FAULT p)

/-- A pad that is latched off (codes 1 to 3) stays off. -/
def Dev.padLatched (s : Dev) (p : Nat) : Bool := s.padFault p = 1 || s.padFault p = 2 || s.padFault p = 3

def Dev.padSt (s : Dev) (p : Fin 36) : PadSt := s.io.pads[p]

def Dev.putPad (s : Dev) (p : Fin 36) (x : PadSt) : Dev := s.setIo { s.io with pads := s.io.pads.set p x }

/-- A pad's switch changes (R387 counts it). (DESIGN CHOICE, log 88) -/
def Dev.padSwitch (s : Dev) (p : Fin 36) (on : Bool) : Dev :=
  if s.flag (F.IO24_OUTSTAT_ON p.val) = on then s
  else
    let x := s.padSt p
    let s1 := s.putPad p (if on then { x with onAt := s.now } else { x with offAt := s.now, hiRun := 0 })
    (s1.setFlag (F.IO24_OUTSTAT_ON p.val) on).tally (13 + p.val) 1

/-- A pad latches a code. -/
def Dev.padLatch (s : Dev) (p : Fin 36) (code : Nat) : Dev :=
  ((s.padSwitch p false).setFld (F.IO24_OUTSTAT_FAULT p.val) code).setFlag F.IO24_IRQ_OUTFLT true

/-- The commit of the pads at 95 µs. -/
def Dev.commitPad (s : Dev) (p : Fin 36) : Dev :=
  s.padSwitch p (s.padWanted p.val && !s.padLatched p.val && !s.flag (F.IO24_OUTSTAT_TSD p.val) && s.sout.pfail == none)

def Dev.commitPads (s : Dev) : Dev := (List.finRange 36).foldl Dev.commitPad s

/-- The class of a pad's voltage (R304). -/
def padClass (mv supply : Nat) : Nat := if mv < 3000 then 0 else if 6 * supply ≤ 10 * mv then 2 else 1

/-- An on pad with OLDEN draws less than 5 mA throughout 100 ms: code 4, 0x6014 (R305). (DESIGN CHOICE, log 88) -/
def Dev.openLoad (s : Dev) (p : Fin 36) (ma : Nat) : Dev :=
  match (s.padSt p).olAt with
  | some t =>
    if t + 100 * msCyc ≤ s.now ∧ ma < 5 ∧ s.padFault p.val = 0 then (s.setFld (F.IO24_OUTSTAT_FAULT p.val) 4).log 0x6014 p.val ma 0 else s
  | none => s

/-- The open-load check of a pad at the sample point; code 4 clears when the current returns. -/
def Dev.padLoad (s : Dev) (p : Fin 36) (ma : Nat) : Dev :=
  let low := s.flagF (F.IO24_OUTSTAT_OLDEN p.val) && s.flag (F.IO24_OUTSTAT_ON p.val) && decide (ma < 5)
  let x := s.padSt p
  let s1 := s.putPad p { x with olAt := if low then some (x.olAt.getD s.now) else none }
  if s1.padFault p.val = 4 ∧ 5 ≤ ma then s1.setFld (F.IO24_OUTSTAT_FAULT p.val) 0 else s1.openLoad p ma

/-- An off pad reads HI in a second consecutive judged snapshot: suspect, latched off with code 1, to be identified (R306). -/
def Dev.padSuspect (s : Dev) (p : Fin 36) : Dev :=
  let s1 := (s.padLatch p 1).setFlag (F.IO24_OUTSTAT_SUSPECT p.val) true
  s1.setIo { s1.io with ident := s1.io.ident ++ [{ pad := p.val }] }

/-- One pad at the sample point: class, current, judgement. -/
def Dev.samplePad (inp : SampleIn) (s : Dev) (p : Fin 36) : Dev :=
  let r : Nat × Nat := inp.pads.getD p.val (0, 0)
  let f := padSupply p.val
  let c := padClass r.1 (inp.vfield.getD f 0)
  let s1 := ((s.setFld (F.IO24_OUTSTAT_CLASS p.val) c).setFld (F.IO24_OUTSTAT_CURR p.val) (min r.2 65535)).padLoad p r.2
  let x := s1.padSt p
  let judged := s1.supplyOk f && !s1.flag (F.IO24_OUTSTAT_ON p.val) && decide (max x.offAt (s1.io.okAt.toList.getD f 0) + 10 * msCyc ≤ s1.now)
  if judged ∧ c = 2 ∧ s1.padLatched p.val = false then
    if 1 ≤ x.hiRun then s1.padSuspect p else s1.putPad p { x with hiRun := x.hiRun + 1 }
  else s1.putPad p { x with hiRun := 0 }

/-- An identification ends. -/
def Dev.identEnd (s : Dev) (p : Fin 36) : Dev :=
  (s.setIo { s.io with ident := s.io.ident.filter fun x => x.pad != p.val }).setFlag (F.IO24_OUTSTAT_SUSPECT p.val) false

/-- The answer to the probe of the tick before: the suspect did not read HI, so both pads latch with code 2. (DESIGN CHOICE, log 89) -/
def Dev.probeAnswer (s : Dev) (mv supply : Nat) : Dev :=
  match s.io.ident with
  | [] => s
  | x :: rest =>
    match x.probe with
    | none => s
    | some q =>
      let a : Fin 36 := Fin.ofNat 36 x.pad
      let b : Fin 36 := Fin.ofNat 36 q
      if padClass mv supply = 2 then s.setIo { s.io with ident := { x with probe := none } :: rest }
      else
        let s1 := ((s.padLatch a 2).padLatch b 2).identEnd a
        (s1.log 0x6011 a.val b.val 0).log 0x6011 b.val a.val 0

/-- The identification goes on: it ends where the suspect reads HI no more, or with every pad probed; else the next pad that is
on is probed in this tick. It waits while the suspect's supply is not OK. (DESIGN CHOICE, log 89) -/
def Dev.probeNext (s : Dev) : Dev :=
  match s.io.ident with
  | [] => s
  | x :: rest =>
    let a : Fin 36 := Fin.ofNat 36 x.pad
    if s.supplyOk (padSupply x.pad) = false then s
    else if s.fld (F.IO24_OUTSTAT_CLASS x.pad) ≠ 2 then s.identEnd a
    else
      let todo := (if x.begun then x.todo else upTo 36).filter fun p => s.flag (F.IO24_OUTSTAT_ON p)
      match todo with
      | q :: more => s.setIo { s.io with ident := { x with begun := true, todo := more, probe := some q, made := x.made + 1 } :: rest }
      | [] => (s.identEnd a).log 0x6010 x.pad (padSupply x.pad) x.made

/-- A write of CLRF waits for the next sample point, the later of two in effect (R24, R307). -/
def Dev.clearFault (s : Dev) (val : Word) : Dev := s.setIo { s.io with clr := some val }

/-- The pad that a clear names loses its latched code 1 or 2 where it reads no HI, its code 3 in any case (R307). -/
def Dev.clrPad (s : Dev) (p : Fin 36) : Dev :=
  let c := s.padFault p.val
  if c = 3 ∨ ((c = 1 ∨ c = 2) ∧ s.fld (F.IO24_OUTSTAT_CLASS p.val) ≠ 2) then
    (((s.identEnd p).setFld (F.IO24_OUTSTAT_FAULT p.val) 0).putPad p { (s.identEnd p).padSt p with hiRun := 0 }).log 0x6015 p.val c 0
  else s

/-- The clear that waits takes effect, on the pad's class of this sample point. -/
def Dev.clrTake (s : Dev) : Dev :=
  match s.io.clr with
  | none => s
  | some val =>
    let s1 := s.setIo { s.io with clr := none }
    if val.toNat % 64 < 36 then s1.clrPad (Fin.ofNat 36 (val.toNat % 64)) else s1

/-- The pads at the sample point: the clear that waits, the answer of the last probe, the judgement of every pad, and the next probe; a suspect of
this tick is probed for from the next tick on. (DESIGN CHOICE, log 20) -/
def Dev.samplePads (s : Dev) (inp : SampleIn) : Dev :=
  let supply := match s.io.ident with | x :: _ => inp.vfield.getD (padSupply x.pad) 0 | [] => 0
  let s1 := s.probeAnswer inp.probe supply
  let known := s1.io.ident
  let s2 := ((List.finRange 36).foldl (Dev.samplePad inp) s1).clrTake
  let s3 := if known.isEmpty then s2 else s2.probeNext
  (s3.setFld (F.IO24_FIELD_VOLT 0) (inp.vfield.getD 0 0 / 10)).setFld (F.IO24_FIELD_VOLT 1) (inp.vfield.getD 1 0 / 10)

/-- Shutdowns of the last 60 s before an instant. -/
def recentTherm (x : PadSt) (now : Nat) : List Nat := x.therm.filter fun t => decide (now ≤ t + 60000 * msCyc ∧ t < now)

/-- A pad reaches 165 °C (R305): off, 0x6012; with three shutdowns in the 60 s before, latched with code 3, 0x6013. (DESIGN CHOICE, log 88) -/
def Dev.thermalShutdown (s0 : Dev) (p : Fin 36) (ma off : Nat) : Dev :=
  let s := s0.at off
  if s.flag (F.IO24_OUTSTAT_ON p.val) = false then s
  else
    let x := s.padSt p
    let l := recentTherm x s.now
    let s1 := ((s.padSwitch p false).setFlag (F.IO24_OUTSTAT_TSD p.val) true).setFlag F.IO24_IRQ_THERM true
    if s.supplyOk (padSupply p.val) then
      let s2 := (s1.putPad p { s1.padSt p with therm := s.now :: l }).setFld (F.IO24_OUTSTAT_THERMCNT p.val) (min 3 (l.length + 1))
      let s3 := s2.log 0x6012 p.val (l.length + 1) ma
      if 3 ≤ l.length then (s3.padLatch p 3).log 0x6013 p.val 0 0 else s3
    else s1.log 0x6012 p.val l.length ma

/-- The junction has cooled below 145 °C: the pad restarts unless it is latched (R305). -/
def Dev.thermalRestart (s : Dev) (p : Fin 36) : Dev :=
  if s.flag (F.IO24_OUTSTAT_TSD p.val) then
    let s1 := s.setFlag (F.IO24_OUTSTAT_TSD p.val) false
    s1.padSwitch p (s1.padWanted p.val && !s1.padLatched p.val && s1.sout.pfail == none)
  else s

/-- THERMCNT at the sample point. -/
def Dev.thermAge (s : Dev) (p : Fin 36) : Dev :=
  if (s.padSt p).therm.isEmpty then s
  else
    let l := recentTherm (s.padSt p) (s.now + 1)
    (s.putPad p { s.padSt p with therm := l }).setFld (F.IO24_OUTSTAT_THERMCNT p.val) (min 3 l.length)

/-! ## Field supplies (R308) -/

def supplyNum : SupplyState → Nat
  | .ok => 0
  | .uv => 1
  | .loss => 2

def Dev.supplyChange (s : Dev) (f : Fin 2) (st : SupplyState) (mv : Nat) : Dev :=
  let n := supplyNum st
  if s.fld (F.IO24_FIELD_STATE f.val) = n then s
  else
    let s1 := ((s.setFld (F.IO24_FIELD_STATE f.val) n).setFld (F.IO24_FIELD_VOLT f.val) (mv / 10)).setFlag F.IO24_IRQ_FIELD true
    let s2 := if n = 0 then s1.setIo { s1.io with okAt := s1.io.okAt.set f s1.now } else s1
    s2.log 0x6040 f.val n (mv / 10)

/-! ## Remapping (R309) -/

def padField (out : Bool) (n : Nat) : Fld := if out then F.IO24_OUTMAP_PAD n else F.IO24_INCFG_PAD n

/-- A logical channel may move to its own pad, or to a spare of its kind that is free and holds no latched fault. -/
def Dev.padFree (s : Dev) (out : Bool) (n pad : Nat) : Bool :=
  let lo := if out then 32 else 48
  let count := if out then 32 else 48
  pad = n || (decide (lo ≤ pad ∧ pad < lo + 4) && (upTo count).all (fun k => k = n || s.fld (padField out k) != pad) &&
    !(out && s.padLatched pad))

/-- The I/O maps that differ from the factory's. -/
def Dev.ioMapsNow (s : Dev) : List (Nat × Nat) :=
  (((upTo 48).map fun i => (odKey 0x2602 (i + 1), s.fld (F.IO24_INCFG_PAD i))) ++ ((upTo 32).map fun i => (odKey 0x2603 (i + 1), s.fld (F.IO24_OUTMAP_PAD i)))).filter
    fun (e : Nat × Nat) => e.2 != e.1 % 256 - 1

/-- A map change that passes the checks, its event, and the maps in flash. (DESIGN CHOICE, log 88) -/
def Dev.remap (s : Dev) (out : Bool) (n pad : Nat) : Dev :=
  if s.padFree out n pad then
    if s.fld (padField out n) = pad then s
    else
      let s1 := (s.setFld (padField out n) pad).log 0x6050 (b2n out) n pad
      { s1 with nv := { s1.nv with ioMaps := s1.ioMapsNow } }.flashUsed
  else s

/-- A write to INCFG[n] or OUTMAP[n]: type and filter stay with the channel; PAD needs presence level 1 (R8) and R309. -/
def Dev.mapWrite (s : Dev) (m : Master) (out : Bool) (n : Nat) (val : Word) : Dev :=
  let pad := fldOf val (padField out n)
  let s1 := if out then s else (s.setFld (F.IO24_INCFG_TYPE n) (fldOf val (F.IO24_INCFG_TYPE n))).setFld (F.IO24_INCFG_FILT n) (fldOf val (F.IO24_INCFG_FILT n))
  if n < (if out then 32 else 48) then
    if s1.fld (padField out n) = pad then s1
    else if s1.level = 0 then s1.logBy m.val 0xA011 1 (padField out n).addr 4
    else s1.remap out n pad
  else s1

end Sys2Proof.Machine
end

