-- ==== Sys2Proof/Machine/Channels.lean ====
section
/-! DEFINITION. The two safety channels tick by tick (R236 to R267): their positions, the safety functions, the door permits,
the published views, and the cross-comparison in XCMP. -/

namespace Sys2Proof.Machine

def Dev.setBadger (s : Dev) (g : BadgerSt) : Dev := { s with badger := g }
def Dev.setMarten (s : Dev) (x : MartenSt) : Dev := { s with marten := x }

/-! ## Input pairs and the chain (R250, R259) -/

/-- A pair is active: both inputs are, and neither carries a test fault (R259, R299). -/
def ChanSt.pairOn (x : ChanSt) (p : Nat) : Bool :=
  bitN x.sin (2 * p) && bitN x.sin (2 * p + 1) && !bitN x.tpf (2 * p) && !bitN x.tpf (2 * p + 1)

/-- The role of a pair as the channel holds it. -/
def Dev.pairRole (s : Dev) (c : Chan) (p : Nat) : Nat := s.parOf c 0x2709 (p + 1)

/-- Every pair of a role is active. -/
def Dev.roleAll (s : Dev) (c : Chan) (r : Nat) : Bool := (upTo 8).all fun p => s.pairRole c p != r || (s.ch c).pairOn p

/-- A pair of a role is active. -/
def Dev.roleAny (s : Dev) (c : Chan) (r : Nat) : Bool := (upTo 8).any fun p => s.pairRole c p = r && (s.ch c).pairOn p

/-- The lock vector in use; before the first decoded cycle the one of a ring without nodes (R191). -/
def Dev.lockBits (s : Dev) (c : Chan) : List Bool :=
  if (s.ch c).locks.isEmpty then s.lockVec (fun a => s.parOf c 0x2402 a) else (s.ch c).locks

/-- The lock bits that are open, by address. -/
def Dev.openLocks (s : Dev) (c : Chan) : List Nat :=
  ((s.lockBits c).zipIdx.filter fun (x : Bool × Nat) => !x.1).map fun (x : Bool × Nat) => x.2 + 1

/-- The car doors are closed and locked: the inputs of roles 2 to 5. -/
def Dev.doorsBit (s : Dev) (c : Chan) : Bool := s.roleAll c 2 && s.roleAll c 3 && s.roleAll c 4 && s.roleAll c 5

/-- The car chain: role 1 and the taps in use. -/
def Dev.carBit (s : Dev) (c : Chan) : Bool := s.roleAll c 1 && (s.tapMask c &&& (s.ch c).taps) == s.tapMask c

/-- The three chain bits, without the bypass. -/
def Dev.chainBits (s : Dev) (c : Chan) : Nat :=
  b2n (s.openLocks c).isEmpty + 2 * b2n (s.doorsBit c) + 4 * b2n (s.carBit c)

/-- The two inputs of a pair other than pair 7 disagree throughout 500 ms: cause 0x17. -/
def Dev.pairDiscrepancy (s : Dev) (c : Chan) (p : Fin 8) : Dev :=
  match (s.ch c).disc[p] with
  | some t => if p.val ≠ 7 ∧ t + 500 * msCyc ≤ s.now then s.addCause c 0x17 else s
  | none => s

/-- The row PAIR_DISCREPANCY: the cause takes effect at once. -/
def Dev.pairRow (s : Dev) (c : Chan) (p : Fin 8) : Dev := ((s.pairDiscrepancy c p).settle c).setPermits c

/-- The pairs of a channel in a tick. -/
def Dev.pairWatch (s : Dev) (c : Chan) : Dev :=
  (List.finRange 8).foldl (fun (d : Dev) (p : Fin 8) =>
    let x := d.ch c
    let v : Option Nat := if bitN x.sin (2 * p.val) = bitN x.sin (2 * p.val + 1) then none else some (x.disc[p].getD d.now)
    (d.setCh c { x with disc := x.disc.set p v }).pairDiscrepancy c p) s

/-! ## The functions that both channels run (R250 to R254) -/

/-- What a channel's functions work from in a tick: whether its position may be used, whether it is in a door zone, the present
landing with the channel's value for it, the cap with doors open, and the terminal references, where it holds a map. -/
structure ChanView where
  ok   : Bool
  zone : Bool
  land : Nat
  at_  : Int
  cap  : Nat
  refs : Option (Int × Int × Int × Int)

/-- The car moves, on the channel's own speed (R245). -/
def ChanSt.moves (x : ChanSt) : Bool := decide (10000 ≤ x.spd.natAbs)

/-- SF-DZONE permits the present motion with the lock or door bits open. -/
def bypassOf (x : ChanSt) (v : ChanView) : Bool := v.ok && v.zone && (decide (x.spd.natAbs < v.cap) || (v.cap == 0 && !x.moves))

/-- SF-CHAIN: 0x01 for an open chain in motion; it passes once the chain is closed. -/
def Dev.sfChain (s : Dev) (c : Chan) (v : ChanView) : Dev :=
  let x := s.ch c
  let by_ := bypassOf x v
  let locks := (s.openLocks c).all fun a => by_ && s.parOf c 0x2702 a == v.land
  let closed := locks && (s.doorsBit c || by_) && s.carBit c
  let s1 := s.setCh c { x with chain := s.chainBits c, bypass := by_, chainOk := closed }
  if closed then s1.dropCause c 0x01 else s1.addIf x.moves c 0x01

/-- The lock or door bits are open. -/
def ChanSt.bitsOpen (x : ChanSt) : Bool := x.chain % 4 != 3

/-- SF-DZONE: 0x10 at the cap, or on leaving the zone with those bits open. -/
def Dev.sfDzone (s : Dev) (c : Chan) (v : ChanView) : Dev :=
  let x := s.ch c
  let tooFast := v.zone && decide (v.cap ≤ x.spd.natAbs) && (v.cap != 0 || x.moves)
  let left := x.inZone && !v.zone
  (s.addIf (v.ok && x.bitsOpen && (tooFast || left)) c 0x10).setCh c
    { (s.addIf (v.ok && x.bitsOpen && (tooFast || left)) c 0x10).ch c with inZone := v.zone, zone := if v.zone then some v.land else none }

/-- SF-UCMP (R252): armed at the first tick in a zone with the bits open and no permitted move; disarmed when they close. -/
def Dev.sfUcmp (s : Dev) (c : Chan) (v : ChanView) : Dev :=
  let x := s.ch c
  if x.bitsOpen = false then s.setCh c { x with ucmp := none }
  else
    let li := v.at_
    let armed := x.ucmp.isSome || (v.ok && v.zone && !(x.moves && bypassOf x v))
    if armed = false then s
    else
      let r : Nat × Int := x.ucmp.getD (v.land, x.pos)
      let u : Int := s.parOf c 0x2703 1
      let lim := max u (|r.2 - li| + 5000)
      (s.setCh c { x with ucmp := some r }).addIf (v.ok && decide (lim ≤ |x.pos - li|)) c 0x20

/-- SF-OVSP (R253). -/
def Dev.sfOvsp (s : Dev) (c : Chan) : Dev :=
  let v := (s.ch c).spd.natAbs
  let lim (sub : Nat) : Nat := s.parOf c 0x2705 sub * s.parOf c 0x2705 1 / 100
  (s.addIf (decide (lim 2 ≤ v)) c 0x14).addIf (decide (lim 3 ≤ v)) c 0x21

/-- SF-TERM (R254) against the terminal references 1 to 4 (lower travel limit, lower and upper switch, upper limit). -/
def Dev.sfTerm (s : Dev) (c : Chan) (v : ChanView) : Dev :=
  let x := s.ch c
  match v.refs with
  | some (r1, r2, r3, r4) =>
    let curve (d : Int) : Nat := isqrt (2 * s.parOf c 0x2706 1 * d.toNat) + s.parOf c 0x2706 2
    if v.ok = false then s
    else if 0 < x.spd then (s.addIf (decide (curve (r3 - x.pos) ≤ x.spd.natAbs)) c 0x11).addIf (decide (r4 ≤ x.pos)) c 0x12
    else if x.spd < 0 then (s.addIf (decide (curve (x.pos - r2) ≤ x.spd.natAbs)) c 0x11).addIf (decide (x.pos ≤ r1)) c 0x12
    else s
  | none => s

/-- While Badger is unreferenced both channels cap the speed at the inspection cap (R238). (DEDUCED, log 83) -/
def Dev.sfUnref (s : Dev) (c : Chan) : Dev :=
  s.addIf (!s.badger.ref && decide (s.parOf c 0x2707 1 ≤ (s.ch c).spd.natAbs)) c 0x13

/-- The functions of a channel in a tick. -/
def Dev.functions (s : Dev) (c : Chan) (v : ChanView) : Dev :=
  let s1 := ((s.pairWatch c).sfChain c v).sfDzone c v
  ((((s1.sfUcmp c v).sfOvsp c).sfTerm c v).sfUnref c).rampKept c

/-! ## Badger's position (R237 to R239) -/

/-- Badger's count as µm, from the start of counting. -/
def Dev.badgerScaled (s : Dev) : Int := quo (s.badger.count * sx 32 (s.bpar 0x2701 5)) (s.bpar 0x2701 6)

/-- The accepted map in Badger's store (R264, R265): L, the landings, the four references, the sill offset. -/
def Dev.bLandings (s : Dev) : Nat := (s.nv.bmap.getD 0 0).toNat
def Dev.bLand (s : Dev) (i : Nat) : Int := s.nv.bmap.getD (1 + i) 0
def Dev.bRef (s : Dev) (j : Nat) : Int := s.nv.bmap.getD (s.bLandings + j) 0
def Dev.bSill (s : Dev) : Int := s.nv.bmap.getD (s.bLandings + 5) 0

/-- Both door-zone sensors are active, for Badger. -/
def Dev.badgerZone (s : Dev) : Bool := bitN s.chB.sin 14 && bitN s.chB.sin 15

def Dev.setRef (s : Dev) (off : Int) (land : Nat) (mode : Nat) (pb : Int) : Dev :=
  ((s.setBadger { s.badger with off := off, ref := true, resLand := land }).setFlag F.XCMP_B_FLAGS_REF true).log 0x800C land (w32 pb) mode

/-- Badger becomes referenced at standstill in a door zone (R238). -/
def Dev.badgerReferenced (s : Dev) : Dev :=
  let a := s.rdI R.XCMP_A_POS
  let i := nearest s.bLand s.bLandings a
  if s.badger.ref = false ∧ s.badgerZone ∧ (s.chB.spd.natAbs < 10000) ∧ s.marten.valid ∧ 0 < s.bLandings ∧
      |a - s.bLand i| ≤ (s.bpar 0x2704 1 : Int) then
    s.setRef (a - s.badgerScaled) i 0 a
  else s

/-- Parts of a µm in which a magnet centre is exact: the mean of four scaled counts. -/
def Dev.badgerUnit (s : Dev) : Int := 4 * s.bpar 0x2701 6

/-- The magnet centre of a whole passage in the scaled count, in parts of a µm, where the passage is valid (R239). -/
def Dev.badgerCentre (s : Dev) : Option Int :=
  match s.badger.pass[0], s.badger.pass[1], s.badger.pass[2], s.badger.pass[3] with
  | some r0, some f0, some r1, some f1 =>
    let c0 := (r0.count + f0.count) * sx 32 (s.bpar 0x2701 5)
    let c1 := (r1.count + f1.count) * sx 32 (s.bpar 0x2701 5)
    if f0.turns = r0.turns ∧ r1.turns = r0.turns ∧ f1.turns = r0.turns ∧ |c0 - c1| ≤ 1000 * s.badgerUnit then some (c0 + c1) else none
  | _, _, _, _ => none

def Dev.passWhole (s : Dev) : Bool := s.badger.pass.toList.all Option.isSome

/-- The accepted landing nearest to a position in parts of a µm, a tie going to the lower (R81, R239). -/
def Dev.badgerNearest (s : Dev) (c : Int) : Nat := nearest (fun i => s.badgerUnit * s.bLand i) s.bLandings c

/-- A measured passage corrects OB, references Badger, or is refused with cause 0x23 (R238, R239); q is judged exactly. -/
def Dev.badgerResync (s : Dev) : Dev :=
  if s.passWhole = false then s
  else
    let s1 := s.setBadger { s.badger with pass := Vector.replicate 4 none }
    match s.badgerCentre with
    | none => s1
    | some m =>
      if s.bLandings = 0 then s1
      else
        let u := s.badgerUnit
        let c := u * s.badger.off + m
        let i := s.badgerNearest (if s.badger.ref then c else u * s.rdI R.XCMP_A_POS)
        let d := u * (s.bLand i - s.bSill) - c
        let q := quo d u
        if s.badger.ref = false then s1.setRef (s.badger.off + q) i 1 (s.badger.off + q + s.badgerScaled)
        else if |d| ≤ u * s.bpar 0x2701 4 then
          let s2 := s1.setBadger { s1.badger with off := s.badger.off + q, resLand := i }
          if 1000 * u ≤ |d| then s2.log 0x800A i (w32 q) 0 else s2
        else (s1.addCause .b 0x23).settle .b |>.setPermits .b

/-- Badger's position and speed of the tick: the count latched at the tick start, vB over eight latches (R237). (DEDUCED, log 83) -/
def Dev.badgerPosition (s : Dev) : Dev :=
  let sc := s.badgerScaled
  let l := (sc :: s.badger.latches).take 9
  let v := (sc - l.getLastD sc) * 1000
  let old := s.now - 2000000
  let trail := s.badger.trail.filter (fun (e : Nat × Int × Nat) => old < e.1) ++ (s.badger.trail.filter fun (e : Nat × Int × Nat) => e.1 ≤ old).take 1
  let s1 := s.setBadger { s.badger with latches := l, trail := trail }
  s1.track .b v

/-! ## Lock vectors (R193) -/

/-- The ring runs, so cycles close. -/
def Dev.ringCloses (s : Dev) : Bool := s.ring.started && s.rState != 0 && s.rState != 1

/-- Badger closes the ring cycle: its lock vector with its own masks, and its hash. The vector is used from the next cycle
start on, as Marten's is. -/
def badgerRingClose (p : Dev × MemSys) : Dev × MemSys :=
  let q := ringClose p
  let s := q.1
  if s.ringCloses ∧ s.ring.bClosed ≤ s.ring.cycle then
    let n := s.ring.cycle
    let lv := s.lockVec (fun a => s.bpar 0x2402 a)
    let s1 := s.setCh .b { s.chB with hashes := ((n, lvHash n lv) :: s.chB.hashes).take 2 }
    (({ s1 with ring := { s1.ring with bClosed := n + 1 } }).setBadger { s1.badger with lockq := (s1.badger.lockq ++ [(n, lv)]) }, q.2)
  else q

/-- At T(8n) Badger's vectors of the cycles before come into use. -/
def Dev.badgerLocks (s : Dev) : Dev :=
  match s.badger.lockq.getLast? with
  | some (_, lv) => (s.setCh .b { s.chB with locks := lv }).setBadger { s.badger with lockq := [] }
  | none => if s.ringCloses then s else s.setCh .b { s.chB with locks := s.lockVec fun a => s.bpar 0x2402 a }

/-- Marten decodes the buffers of the last cycle in tick 8n. -/
def Dev.martenLocks (s : Dev) : Dev :=
  if s.tick % 8 = 0 then
    let lv := s.lockVec (fun a => s.par 0x2402 a)
    let x := s.chA
    let n := s.ring.cycle - 1
    if s.ringCloses ∧ 0 < s.ring.cycle ∧ s.marten.decoded ≤ n then
      (s.setCh .a { x with locks := lv, hashes := ((n, lvHash n lv) :: x.hashes).take 2 }).setMarten { s.marten with decoded := n + 1 }
    else if s.ringCloses then s
    else s.setCh .a { x with locks := lv }
  else s

/-! ## Badger's tick -/

/-- The outputs as a channel publishes them: its own switches of the coil outputs, and its STO line. -/
def Dev.outBits (s : Dev) (c : Chan) : Nat :=
  let k := chNum c
  b2n (s.sw k) + 2 * b2n (s.sw (2 + k)) + 4 * b2n (s.sw (4 + k)) + 8 * b2n (s.sw (6 + k)) + 16 * b2n (s.sw (8 + k))

/-- Badger's outputs, state and chain as XCMP shows them. -/
def Dev.publishB (s : Dev) : Dev :=
  let w := s.chB.word
  let s1 := if (s.rd R.XCMP_B_STATE).toNat = w then s else (s.wrN R.XCMP_B_STATE w).setFlag F.XCMP_IRQ_BSTATE true
  let h : Nat × Nat := s.chB.hashes.headD (0, 0)
  (((s1.wrN R.XCMP_B_OUT (s.outBits .b)).wrN R.XCMP_B_CHAIN s.chB.chain).wrN R.XCMP_B_CYCLE h.1).wrN R.XCMP_B_LVHASH h.2

/-- Badger's whole view at a tick start. -/
def Dev.publishBTick (s : Dev) : Dev :=
  let g := s.badger
  let pb := g.off + s.badgerScaled
  let s1 := (s.wrI R.XCMP_B_POS pb).wrI R.XCMP_B_SPD s.chB.spd
  let fl := b2n g.ref + 2 * b2n s.badgerZone + 4 * b2n (s.roleAll .b 4) + 8 * b2n (s.roleAll .b 5) + 16 * b2n s.chB.bypass + 256 * (g.resLand % 256)
  (s1.wrN R.XCMP_B_FLAGS fl).setBadger { g with views := ((s.tick, pb, s.chB.spd) :: g.views).take 2 } |>.publishB

/-- No verdict at two consecutive tick starts: cause 0x22 (R244), not while cause 0x45 holds (R425). -/
def Dev.verdictMissing (s : Dev) : Dev := s.addIf (decide (2 ≤ s.badger.noVerd) && !s.chB.has 0x45) .b 0x22

/-- The row VERDICT_MISSING: the cause takes effect at once. -/
def Dev.verdictRow (s : Dev) : Dev := ((s.verdictMissing.settle .b).setPermits .b).publishB

/-- The verdict watch at a tick start. -/
def Dev.verdictWatch (s : Dev) : Dev :=
  let g := s.badger
  let n := if g.seen = false ∨ g.got then 0 else g.noVerd + 1
  (s.setBadger { g with noVerd := n, got := false, vrun := if g.got then g.vrun else 0 }).verdictMissing

/-- Marten has completed its boot checks and eight verdicts have followed: Badger's cause 0x45 passes (R425). -/
def Dev.partnerResetEnd (s : Dev) : Dev :=
  if s.chB.has 0x45 ∧ s.chA.booting = false ∧ 8 ≤ s.badger.vrun then ((s.removeCause .b 0x45).settle .b).setPermits .b else s

/-- The landing at which Badger's functions see the car. -/
def Dev.badgerView (s : Dev) : ChanView :=
  let pb := s.badger.off + s.badgerScaled
  let i := nearest s.bLand s.bLandings (if s.badger.ref then pb else s.rdI R.XCMP_A_POS)
  let l := match s.chB.ucmp with | some r => r.1 | none => i
  { ok := s.badger.ref, zone := s.badgerZone, land := i, at_ := s.bLand l, cap := s.bpar 0x2704 2,
    refs := if s.nv.bmap.isEmpty then none else some (s.bRef 1, s.bRef 2, s.bRef 3, s.bRef 4) }

/-- One more period out of range; from two in a row on, cause 0x16 (R37). (DEDUCED, log 21) -/
def Dev.tickPeriodOut (s : Dev) : Dev :=
  let s1 := s.setBadger { s.badger with perRun := s.badger.perRun + 1 }
  if 2 ≤ s1.badger.perRun then s1.addCause .b 0x16 else s1

/-- A tick period ends, in Badger's own counts: in range in [12,375, 12,625) (R37). -/
def Dev.tickPeriodEnd (s : Dev) (counts : Nat) : Dev :=
  let s1 := s.setFld F.XCMP_B_TPERIOD_COUNTS (min 65535 counts)
  let s2 := if 12375 ≤ counts ∧ counts < 12625 then s1.setBadger { s1.badger with perRun := 0 }
    else if s1.badger.perLate then s1 else s1.tickPeriodOut
  s2.setBadger { s2.badger with perLate := false }

/-- Badger at a tick start: re-sync, position, references, functions, partner, state, permits and view. The measured period of
an in-range tick is open within its range (R37). (DEDUCED, log 21; DEDUCED, log 22) -/
def Dev.badgerTick (s : Dev) (period : Nat) : Dev :=
  let s0 := s.tickPeriodEnd period
  let s1 := if s.tick % 8 = 0 then s0.badgerLocks else s0
  let s2 := s1.badgerResync.badgerPosition.badgerReferenced.verdictWatch.partnerResetEnd
  let s3 := s2.setCh .b { s2.chB with pos := s2.badger.off + s2.badgerScaled, insp := s2.roleAny .b 6 }
  let s4 := s3.functions .b s3.badgerView
  (((s4.partner .b s4.chA).settle .b).setPermits .b).publishBTick

/-- Badger counts long enough without a tick start to call the running period out of range: with the period before it that makes
two, and Badger enters STOP_IMMEDIATE (R37). -/
def Dev.tickPeriodFault (s : Dev) (counts : Nat) : Dev :=
  if counts < 12625 ∨ s.badger.perLate then s
  else ((((s.tickPeriodOut).setBadger { s.tickPeriodOut.badger with perLate := true }).settle .b).setPermits .b).publishB

/-! ## Marten's position (R240) -/

/-- The eighth consecutive invalid reading, be there ever a valid one before it or not: degraded, 0x8010, and new starts refused. -/
def Dev.martenDegraded (s : Dev) : Dev :=
  if 8 ≤ s.marten.bad ∧ s.marten.deg = false then
    (s.setMarten { s.marten with deg := true, refuse := true }).logBy 5 0x8010 1 (s.absSel).val 0
  else s

/-- The absolute reading of the snapshot, where it is valid and plausible. -/
def Dev.martenReading (s : Dev) : Option Int :=
  let i := s.absSel.val
  let a := s.rdI (R.POSX_ABS_POS i)
  let x := s.chA
  if s.flag (F.POSX_ABS_STATUS_VALID i) = false then none
  else if x.have_ ∧ 16000000 < |8000 * (a - x.pos) - x.spd| then none
  else some a

/-- PA of the tick and vA over eight ticks. Degraded, PA is FUSE.POS: where no reading was ever valid, PA is present from the first
tick in which fusion is valid. (DEDUCED, log 23) -/
def Dev.martenPosition (s : Dev) : Dev :=
  let x := s.chA
  let defer := s.flag (F.POSX_ABS_STATUS_DEFER s.absSel.val)
  let s1 := match s.martenReading with
    | some a =>
      let t := if s.marten.deg then s.logBy 5 0x8010 0 (s.absSel).val 0 else s
      (t.setCh .a { x with pos := a, have_ := true }).setMarten { s.marten with bad := 0, deg := false, valid := true }
    | none =>
      let t := (s.setMarten { s.marten with bad := s.marten.bad + 1 }).martenDegraded
      let p := if t.marten.deg then t.rdI R.POSX_FUSE_POS else x.pos + quo x.spd 8000
      let there := x.have_ || (t.marten.deg && t.flag F.POSX_FUSE_STATUS_VALID)
      let u := t.setMarten { t.marten with valid := there }
      if there then u.setCh .a { x with pos := p, have_ := true } else u
  let s2 := s1.setMarten { s1.marten with tag := if defer then s.tick - 1 else s.tick, refuse := s1.marten.refuse && (s1.flag F.POSX_FUSE_STATUS_ABSLOST || s1.marten.deg) }
  let y := s2.chA
  let h := if y.have_ then (y.pos :: y.hist).take 9 else []
  (s2.setCh .a { y with hist := h }).track .a ((y.pos - h.getLastD y.pos) * 1000)

/-! ## Marten's own functions (R251, R255, R257, and the requests of R104, R108, R128, R131) -/

/-- A request to Marten that stands adds its cause; once it has gone the cause passes. -/
def Dev.request (s : Dev) (code demand : Nat) : Dev := if demand = 0 then s.dropCause .a code else s.addAs .a code demand

/-- The requests of PGEN and CENG. -/
def Dev.requests (s : Dev) : Dev :=
  let l := s.ceng.slot.toList
  let fe := if l.any (·.reqFe) then 1 else 0
  let ov := if l.any (·.reqI) then 2 else if l.any (·.reqC) then 1 else 0
  let pg := if s.pgen.reqDrive then 2 else if s.pgen.reqInvalid then 1 else 0
  ((s.request 2 fe).request 3 ov).request 4 pg

/-- Marten sets the mode of an active role 6 or role 7 pair as master 5, while PGEN takes it (R255). -/
def Dev.inspMode (s : Dev) : Dev :=
  let want := if s.roleAny .a 6 then 1 else if s.roleAny .a 7 then 2 else 0
  if want ≠ 0 ∧ s.fld F.PGEN_STATUS_MODE ≠ want ∧ (s.pgState = 0 ∨ s.pgState = 4) ∧ s.pgen.pend = none then
    let r := s.drawWord
    r.2.setPg { r.2.pgen with pend := some { m := 5, word := BitVec.ofNat 32 (6 + 16777216 * (r.1.toNat % 256)), target := BitVec.ofNat 32 want } }
  else s

/-- SF-INSP: 0x13 at the cap of an active pair, 0x06 near a travel limit while moving towards it. -/
def Dev.sfInsp (s : Dev) : Dev :=
  let x := s.chA
  let i := s.roleAny .a 6
  let r := s.roleAny .a 7
  let v := x.spd.natAbs
  let m : Int := s.par 0x2707 3
  let near := (i || r) && s.marten.valid && !s.nv.amap.isEmpty &&
    ((decide (0 < x.spd) && decide (s.cmpl.accHigh - m ≤ x.pos)) || (decide (x.spd < 0) && decide (x.pos ≤ s.cmpl.accLow + m)))
  let s1 := (s.addIf ((i && decide (s.par 0x2707 1 ≤ v)) || (r && decide (s.par 0x2707 2 ≤ v))) .a 0x13)
  let s2 := if near then s1.addCause .a 0x06 else s1.dropCause .a 0x06
  (s2.setCh .a { s2.chA with insp := i }).inspMode

/-- OPENOK and LOCKED of both door units (R251). -/
def Dev.martenZone (s : Dev) : Dev :=
  let x := s.chA
  let z := if s.marten.valid then s.zoneOf x.pos else none
  let pre := match z with | some i => s.fld F.PGEN_TGTLAND_VALUE = i && decide (x.spd.natAbs < s.par 0x2704 2) | none => false
  let ok := z.isSome && (x.still || pre) && !(x.state == 3 && x.has 0x20)
  let lockB := s.rd R.XCMP_B_FLAGS
  let f (d : Dev) (u : Fin 2) : Dev :=
    let lk := s.roleAll .a (4 + u.val) && lockB.getLsbD (2 + u.val)
    let v := b2n ok + 2 * b2n lk
    if d.fld ⟨R.DOOR_ZONE u.val, 1, 0⟩ = v then d else d.zoneWrite 5 u (BitVec.ofNat 32 v)
  f (f s 0) 1

/-- The SF-DOORKE ceiling on ILIM of a door unit (R257). (DESIGN CHOICE, log 7) -/
def Dev.ilimCeil (s : Dev) (d : Fin 2) : Nat :=
  let n : Nat := s.par 0x2708 3 * 2000000
  if s.motKE d = 0 then w32 (Config.byZero n) else n / (3 * s.motKE d)

/-- 4E of a closing door in the unit of m·v² against five times the ceiling: E ≥ 1.25 × ceiling. -/
def Dev.doorHot (s : Dev) (d : Fin 2) : Bool :=
  let v := (s.rdI (R.DOOR_SPEED d.val)).natAbs
  let m := (s.rd (R.DOOR_MASS d.val)).toNat
  let c := if s.nudging d then s.par 0x2708 2 else s.par 0x2708 1
  s.fld (F.DOOR_MSTAT_STATE d.val) = 4 && decide (5 * c * 20000000000 ≤ 4 * m * v * v)

/-- The kinetic energy of a door in mJ. -/
def Dev.doorEnergy (s : Dev) (d : Fin 2) : Int :=
  let v := (s.rdI (R.DOOR_SPEED d.val)).natAbs
  quo ((s.rd (R.DOOR_MASS d.val)).toNat * v * v) 20000000000

def Dev.ilimHigh (s : Dev) (d : Fin 2) : Bool := decide (s.ilimCeil d < (s.rd (R.DOOR_ILIM d.val)).toNat)

/-- A breach of a door's ceilings: Marten removes PERMIT, 0x8008. -/
def Dev.doorPermitRemoved (s : Dev) (d : Fin 2) : Dev :=
  if (4 ≤ s.marten.permRun[d] ∨ s.ilimHigh d) ∧ s.flag (F.DOOR_PERMIT_PERMIT d.val) then
    (s.permitWrite 5 d 0).logBy 5 0x8008 d.val (w32 (s.doorEnergy d)) (s.rd (R.DOOR_ILIM d.val)).toNat
  else s

/-- PERMIT is given to a door that has it not. -/
def Dev.givePermit (s : Dev) (d : Fin 2) : Dev := if s.flag (F.DOOR_PERMIT_PERMIT d.val) then s else s.permitWrite 5 d 1

/-- The door has stood still for 1 s with no breach: PERMIT returns. One that was not removed is 1 in every state (R257). -/
def Dev.doorPermitReturn (s : Dev) (d : Fin 2) : Dev :=
  if s.marten.permCut[d] = false then s.givePermit d
  else
    match s.marten.permStill[d] with
    | some t => if t + 1000 * msCyc ≤ s.now then s.givePermit d else s
    | none => s

/-- SF-DOORKE of one door in a tick. -/
def Dev.sfDoorke (s : Dev) (d : Fin 2) : Dev :=
  let hot := s.doorHot d
  let k := s.marten
  let stood := s.rdI (R.DOOR_SPEED d.val) = 0 && !hot && !s.ilimHigh d
  let s1 := s.setMarten { k with permRun := k.permRun.set d (if hot then k.permRun[d] + 1 else 0), permStill := k.permStill.set d (if stood then some (k.permStill[d].getD s.now) else none) }
  (s1.doorPermitRemoved d).doorPermitReturn d

/-- What Marten's functions see. -/
def Dev.martenView (s : Dev) : ChanView :=
  let x := s.chA
  let z := s.zoneOf x.pos
  let i := nearest s.W s.landings x.pos
  let l := match x.ucmp with | some r => r.1 | none => i
  { ok := s.marten.valid, zone := s.marten.valid && z.isSome, land := i, at_ := s.W l,
    cap := if s.pgState = 5 then s.par 0x2704 3 else s.par 0x2704 2,
    refs := if s.nv.amap.isEmpty then none else some (s.cmpl.accLow, s.odI 0x2104 2, s.odI 0x2104 3, s.cmpl.accHigh) }

/-! ## The view of channel A (R241) and its commit -/

/-- Marten writes its view and commits it, where no A_COMMIT of this tick has been written before. -/
def Dev.publishA (s : Dev) : Dev :=
  if s.marten.byReg = some s.tick then s
  else
    let x := s.chA
    let h : Nat × Nat := x.hashes.headD (0, 0)
    let s1 := (((s.wrI R.XCMP_A_POS x.pos).wrI R.XCMP_A_SPD x.spd).wrN R.XCMP_A_CHAIN x.chain).wrN R.XCMP_A_CYCLE h.1
    let s2 := ((s1.wrN R.XCMP_A_LVHASH h.2).wrN R.XCMP_A_OUT (s.outBits .a)).wrN R.XCMP_A_STATE x.word
    s2.setMarten { s2.marten with cTag := s.marten.tag % 256, cValid := s.marten.valid }

/-- A write of A_COMMIT commits the view for its tagged tick (R241): before the tick's sample point in the queue. (DEDUCED, log 17) -/
def Dev.aCommit (s : Dev) (m : Master) (val : Word) : Dev :=
  if m = 5 then s.setMarten { s.marten with byReg := some (s.tick + 1), cTag := fldOf val F.XCMP_A_COMMIT_TAG, cValid := fldOf val F.XCMP_A_COMMIT_VALID = 1 } else s

/-- The measured state of channel A in this tick, from the partner's state that it read last. -/
def Dev.martenTick (s : Dev) (o : ChanSt) : Dev :=
  if s.chA.booting then s
  else
    let s1 := s.martenPosition.martenLocks
    let s2 := ((s1.functions .a s1.martenView).requests.sfInsp).martenZone
    let s3 := (s2.sfDoorke 0).sfDoorke 1
    (((s3.partner .a o).settle .a).setPermits .a).publishA

/-! ## Cross-comparison (R242 to R244) -/

/-- What a channel holds of closed cycles: the published pair before the others; none before its first cycle. -/
def heldHashes (pub : Nat × Nat) (l : List (Nat × Nat)) : List (Nat × Nat) := if l.isEmpty ∧ pub = (0, 0) then [] else pub :: l

/-- The lock-hash item: the published cycles lie more than 1 apart, or the newest cycle that both hold has two hashes. -/
def hashBad (pa pb : Nat × Nat) (la lb : List (Nat × Nat)) : Bool :=
  let b := heldHashes pb lb
  if 1 < pa.1 - pb.1 ∨ 1 < pb.1 - pa.1 then true
  else match (heldHashes pa la).find? fun (x : Nat × Nat) => b.any fun (y : Nat × Nat) => y.1 == x.1 with
    | some x => !b.contains x
    | none => false

/-- The mismatched items of the tick, with PA - PB and vA - vB. -/
def Dev.xcmpItems (s : Dev) : Nat × Int × Int :=
  let k := s.marten
  let view := s.badger.views.find? fun (x : Nat × Int × Int) => x.1 % 256 == k.cTag
  let pa := s.rdI R.XCMP_A_POS
  let va := s.rdI R.XCMP_A_SPD
  let pb := match view with | some x => x.2.1 | none => s.rdI R.XCMP_B_POS
  let vb := match view with | some x => x.2.2 | none => s.rdI R.XCMP_B_SPD
  let tolP : Int := s.fldF F.XCMP_TOL_POS_VALUE
  let tolV : Int := 100 * s.fldF F.XCMP_TOL_SPD_ABS + s.fldF F.XCMP_TOL_SPD_REL * max |va| |vb|
  let posBad := s.badger.ref && k.cValid && (view.isNone || decide (tolP < |pa - pb|))
  let spdBad := view.isNone || decide (tolV < 100 * |va - vb|)
  let chainBad := (s.rd R.XCMP_A_CHAIN).toNat % 8 != (s.rd R.XCMP_B_CHAIN).toNat % 8
  let ha : Nat × Nat := ((s.rd R.XCMP_A_CYCLE).toNat, (s.rd R.XCMP_A_LVHASH).toNat)
  let hb : Nat × Nat := ((s.rd R.XCMP_B_CYCLE).toNat, (s.rd R.XCMP_B_LVHASH).toNat)
  let lockBad := hashBad ha hb s.chA.hashes s.chB.hashes
  let outBad := s.fld F.XCMP_A_STATE_STATE = s.fld F.XCMP_B_STATE_STATE && (s.rd R.XCMP_A_OUT).toNat % 32 != (s.rd R.XCMP_B_OUT).toNat % 32
  (b2n posBad + 2 * b2n spdBad + 4 * b2n chainBad + 8 * b2n lockBad + 16 * b2n outBad, pa - pb, va - vb)

/-- The fourth consecutive mismatched tick (R243): TRIP and both channels in STOP_IMMEDIATE with cause 0x22. -/
def Dev.crossTrip (s : Dev) : Dev :=
  if 4 ≤ s.fld F.XCMP_STATUS_CONSEC ∧ s.flag F.XCMP_STATUS_TRIP = false then
    let r := s.xcmpItems
    let it := s.fld F.XCMP_STATUS_ITEMS
    let s1 := ((s.setFlag F.XCMP_STATUS_TRIP true).setFld F.XCMP_TRIPCAUSE_ITEMS it).setFlag F.XCMP_IRQ_TRIP true
    let s2 := (s1.log 0x8002 it (w32 r.2.1) (w32 r.2.2))
    let s3 := ((s2.addCause .a 0x22).addCause .b 0x22)
    ((((s3.settle .a).settle .b).setPermits .a).setPermits .b).publishB
  else s

/-- XCMP's judgement of the tick: mismatched items, or no view committed (bit 5). -/
def Dev.xcmpTick (s : Dev) (noView : Bool) : Dev :=
  let s0 := s.publishB
  let r := s0.xcmpItems
  let it := if noView then 32 else r.1
  let s1 := s0.setFld F.XCMP_STATUS_ITEMS it
  let s2 := if it = 0 then s1.setFld F.XCMP_STATUS_CONSEC 0 else (s1.satInc F.XCMP_STATUS_CONSEC).setFlag F.XCMP_IRQ_MISMATCH true
  let s3 := s2.setBadger { s2.badger with got := true, seen := true, vrun := s2.badger.vrun + 1 }
  s3.crossTrip

/-- Standstill reached between sample points: the stop causes pass (R245, R246). -/
def Dev.standstillRow (s : Dev) (c : Chan) : Dev :=
  let s1 := s.standstill c
  if (s1.ch c).still = (s.ch c).still then s else (s1.settle c).setPermits c

end Sys2Proof.Machine
end

