-- ==== Sys2Proof/Machine/Params.lean ====
section
/-! DEFINITION. The safety parameter set and the accepted map (R261 to R265, R443): the set's bytes and CRC, its confirmation
and discard, the transfers to Badger, the checks at boot, and what an on-site reset edge stores. -/

namespace Sys2Proof.Machine

/-! ## The set (R261, R443) -/

/-- The objects of the set in ascending order. (DEDUCED, log 85) -/
def setIndexes : List Nat :=
  [0x1301, 0x1302, 0x1381, 0x1382, 0x13FE, 0x13FF, 0x2402] ++ ((upTo 14).map fun i => 0x2701 + i) ++ ((upTo 16).map fun i => 0x2710 + i)

/-- The sub-indexes of a row that a client may write, with the length of the type. -/
def rowEntries (r : OdRow) : List (Nat × Nat × Nat) :=
  match r.acc with
  | .rw => (upTo (r.hi + 1 - r.lo)).map fun i => (r.idx, r.lo + i, r.ty.len)
  | _ => []

/-- The entries of the set in order: index, sub-index, length in bytes. -/
def setEntries : List (Nat × Nat × Nat) :=
  (setIndexes.map fun i => (((odRows (i / 256)).filter fun r => r.idx == i).map rowEntries).flatten).flatten

/-- The entry belongs to the set. -/
def inSet (idx sub : Nat) : Bool :=
  setIndexes.contains idx && (match odRow? idx sub with | some r => r.acc == .rw && idx != 0x270F | none => false)

/-- The bytes of a set in the layout of R443. (DEDUCED, log 85) -/
def setBytes (get : Nat → Nat → Nat) : List Byte := (setEntries.map fun e => leBytes e.2.2 (get e.1 e.2.1)).flatten

/-- The value of an entry in the pending copy: the active one where nothing is pending. -/
def Dev.pendGet (s : Dev) (idx sub : Nat) : Nat := alGet s.odPend (odKey idx sub) (s.od? idx sub)

/-- The pending CRC 0x2700:02 and the active CRC 0x2700:03. (DEDUCED, log 85) -/
def Dev.pendCrc (s : Dev) : Nat := crc32 (setBytes s.pendGet)
def Dev.activeCrc (s : Dev) : Nat := crc32 (setBytes s.od?)

/-- The set state 0x2700:04. -/
def Dev.setState (s : Dev) (n : Nat) : Dev := s.odPut 0x2700 4 n

/-- A write to an entry of the set goes into the pending copy (R261); the first one after none was pending logs step 0. -/
def Dev.pendPut (s : Dev) (idx sub v : Nat) : Dev :=
  let was := s.od? 0x2700 4
  let s1 := { s with odPend := alSet s.odPend (odKey idx sub) v, badger := { s.badger with confirmed := none } }
  let s2 := s1.setState 1
  if was = 1 ∨ was = 2 then s2 else s2.logBy 5 0x800E 0 0 s2.pendCrc

/-! ## Confirmation (R262) -/

/-- The test sources of pair p, one nibble for each input (R298). -/
def Dev.pendSources (s : Dev) (p : Nat) : Nat × Nat := (s.pendGet 0x270A (p + 1) % 16, s.pendGet 0x270A (p + 1) / 16 % 16)

/-- What Marten refuses at confirmation, as reasons 1 to 6: stage 2 not above stage 1; the re-sync limit above the position
tolerance; role 8 on another pair or another role on pair 7 (R259, R262); a lock mask on an address without a lock landing; no
release input for a brake in use (R284); test sources against R298. -/
def Dev.setFault (s : Dev) : Option Nat :=
  let g := s.pendGet
  if g 0x2705 3 ≤ g 0x2705 2 then some 1
  else if g 0x2701 1 < g 0x2701 4 then some 2
  else if ((upTo 7).any fun p => g 0x2709 (p + 1) = 8) || g 0x2709 8 != 8 then some 3
  else if (upTo 192).any fun i => g 0x2402 (i + 1) != 0 && g 0x2702 (i + 1) = 0xFF then some 4
  else if (upTo 2).any fun b => bitN (g 0x2710 1) b && g 0x2712 (b + 1) = 0xFF then some 5
  else if ((upTo 8).any fun p => let x := s.pendSources p; x.1 = x.2 && x.1 != 0) || s.pendSources 7 != (0, 0) then some 6
  else none

/-- The set is refused: state 1, 0x800E step 2 with the reason. -/
def Dev.setRefused (s : Dev) (reason crc : Nat) : Dev :=
  ({ s with badger := { s.badger with confirmed := none } }.setState 1).logBy 5 0x800E 2 reason crc

/-- Marten checks the pending set, transfers it to Badger, and compares the CRC that both form with the written
value; reason 7 is a mismatch. -/
def Dev.paramConfirm (s : Dev) (crc : Word) : Dev :=
  match s.setFault with
  | some r => s.setRefused r crc.toNat
  | none =>
    let b := setBytes s.pendGet
    let c := crc32 b
    let s1 := (s.setBadger { s.badger with pset := b }).wrN R.XCMP_B_PCRC c
    if c ≠ crc.toNat then s1.setRefused 7 crc.toNat
    else ((s1.setBadger { s1.badger with confirmed := some c }).setState 2).logBy 5 0x800E 1 0 c

/-- The pending copy is discarded: it equals the active set again (R261, R262). -/
def Dev.paramDiscard (s : Dev) : Dev :=
  { s with odPend := [], badger := { s.badger with confirmed := none } }.setState (if s.nv.commissioned then 0 else 3)

/-! ## The transfer registers (R262, R265, R443) -/

/-- The length of the set in bytes, and of the candidate map. -/
def setLen : Nat := setEntries.foldl (fun n e => n + e.2.2) 0
def Dev.mapLen (s : Dev) : Nat := 4 * (s.landings + 6)

/-- Four more bytes of a transfer; a write after a complete transfer starts a new one. -/
def transfer (l : List Byte) (total : Nat) (val : Word) : List Byte :=
  let start := if total ≤ l.length then [] else l
  (start ++ leBytes 4 val.toNat).take total

/-- BPARAM: the next four bytes of the pending set for Badger, whose CRC over what it has received shows in B_PCRC. -/
def Dev.bparamWrite (s : Dev) (m : Master) (val : Word) : Dev :=
  if m ≠ 5 then s
  else
    let l := transfer s.badger.pset setLen val
    ((s.wr R.XCMP_BPARAM val).setBadger { s.badger with pset := l }).wrN R.XCMP_B_PCRC (crc32 l)

/-- BMAP: the next four bytes of the candidate map. -/
def Dev.bmapWrite (s : Dev) (m : Master) (val : Word) : Dev :=
  if m ≠ 5 then s
  else
    let l := transfer s.badger.pmap s.mapLen val
    ((s.wr R.XCMP_BMAP val).setBadger { s.badger with pmap := l }).wrN R.XCMP_B_MPCRC (crc32 l)

/-- A write to 0x2105:04 equal to the candidate CRC: Marten transfers the candidate map (R78, R265). -/
def Dev.mapAccept (s : Dev) (crc : Word) : Dev :=
  if s.mapAcceptOk crc then
    let b := s.candBytes
    let s1 := (s.setBadger { s.badger with pmap := b }).wrN R.XCMP_B_MPCRC (crc32 b)
    { s1 with cmpl := { s1.cmpl with acceptArmed := true } }
  else s

/-! ## Activation and acceptance at the edge (R262, R264, R265) -/

/-- The values of the pending set by key. -/
def Dev.pendValues (s : Dev) : List (Nat × Nat) := setEntries.map fun e => (odKey e.1 e.2.1, s.pendGet e.1 e.2.1)

/-- The values that a transferred set holds, by key. -/
def parseSet : List (Nat × Nat × Nat) → List Byte → List (Nat × Nat)
  | [], _ => []
  | e :: t, l => (odKey e.1 e.2.1, ofLe (l.take e.2.2)) :: parseSet t (l.drop e.2.2)

/-- Both channels store the confirmed set as active; the reset that follows makes it effective (R262, R263). -/
def Dev.setActivate (s : Dev) : Dev :=
  let c := crc32 s.badger.pset
  let s1 := { s with nv := { s.nv with aset := s.pendValues, asetCrc := some s.pendCrc, bset := parseSet setEntries s.badger.pset, bsetCrc := some c,
                                       commissioned := true, setVer := s.nv.setVer + 1, bkDue := true } }
  (s1.odPut 0x2700 5 (w32 (s.nv.setVer + 1))).logBy 5 0x800E 3 0 c

/-- The map that bytes of R265 hold. -/
def parseMap : Nat → List Byte → List Int
  | 0, _ => []
  | n + 1, l => sx 32 (ofLe (l.take 4)) :: parseMap n (l.drop 4)

/-- The map is accepted in both channels when B_MPCRC equals the candidate CRC, else 0x1122 (R265). -/
def Dev.mapEdge (s : Dev) : Dev :=
  if s.cmpl.acceptArmed = false then s
  else if (s.rd R.XCMP_B_MPCRC).toNat = s.candCrc then
    let a := parseMap (s.landings + 6) s.candBytes
    let b := parseMap (s.landings + 6) s.badger.pmap
    let s1 := s.mapTake
    { s1 with nv := { s1.nv with amap := a, bmap := b, amapCrc := some s.candCrc, bmapCrc := some (crc32 s.badger.pmap), mapVer := s1.od? 0x2105 2 } }
  else { s with cmpl := { s.cmpl with acceptArmed := false } }.log 0x1122 1 s.candCrc (s.rd R.XCMP_B_MPCRC).toNat

/-! ## The checks at boot (R77, R263, R264) -/

/-- The bytes of a stored set and of a stored map. -/
def storedSet (l : List (Nat × Nat)) : List Byte := setBytes fun i j => alGet l (odKey i j) (odDefault i j)
def storedMap (l : List Int) : List Byte := (l.map le32).flatten

/-- Badger publishes the CRC-32 of its stored set and map. -/
def Dev.badgerCrcs (s : Dev) : Dev :=
  (s.wrN R.XCMP_B_ACRC (crc32 (storedSet s.nv.bset))).wrN R.XCMP_B_MACRC (crc32 (storedMap s.nv.bmap))

/-- Cause 0x40 while no set is commissioned, 0x41 for a set that differs from its stored CRC or from the partner's. -/
def Dev.setCheck (s : Dev) : Dev :=
  let ca := crc32 (storedSet s.nv.aset)
  let cb := crc32 (storedSet s.nv.bset)
  let differs (st : Option Nat) (c : Nat) : Bool := match st with | some x => x != c | none => false
  let bad := differs s.nv.asetCrc ca || differs s.nv.bsetCrc cb || ca != cb
  let s1 := if s.nv.commissioned then (s.removeCause .a 0x40).removeCause .b 0x40 else (s.addCause .a 0x40).addCause .b 0x40
  if bad then (s1.addCause .a 0x41).addCause .b 0x41 else (s1.removeCause .a 0x41).removeCause .b 0x41

/-- Cause 0x42 in both channels where the map is missing or its check fails in either, with 0x1122 for the channel (R77). -/
def Dev.mapCheck (s : Dev) : Dev :=
  let ca := crc32 (storedMap s.nv.amap)
  let cb := crc32 (storedMap s.nv.bmap)
  let badA := s.nv.amapCrc != some ca
  let badB := s.nv.bmapCrc != some cb || ca != cb
  let s1 := if badA then s.log 0x1122 0 (s.nv.amapCrc.getD 0) ca else s
  let s2 := if badB then s1.log 0x1122 1 (s.nv.bmapCrc.getD 0) cb else s1
  if badA || badB then (s2.addCause .a 0x42).addCause .b 0x42 else (s2.removeCause .a 0x42).removeCause .b 0x42

end Sys2Proof.Machine
end

