-- ==== Sys2Proof/Machine/Pres.lean ====
section
/-! DEFINITION. PRES (R404 to R407): the KEY, SEAL and lid-button inputs, the presence level, the presence log, and the debug
unlock. -/

namespace Sys2Proof.Machine

def Dev.setPres (s : Dev) (x : PresSt) : Dev := { s with pres := x }

/-- A press lies within the last `sec` seconds. -/
def Dev.pressWithin (s : Dev) (p : Option Nat) (sec : Nat) : Bool :=
  match p with
  | some t => decide (t < s.now) && decide (s.now ≤ t + sec * 1000 * msCyc)
  | none => false

/-- The level that R405's rules give. -/
def Dev.presLevel (s : Dev) : Nat :=
  if s.flag F.PRES_STATUS_SEAL ∧ s.flag F.PRES_STATUS_SAFEOK ∧ s.pressWithin s.pres.press2 60 then 2
  else if s.flag F.PRES_STATUS_KEY ∨ s.pressWithin s.pres.press 600 then 1
  else 0

/-- The level is judged; a change logs 0xA010 with the KEY state in bit 0 and the SEAL state in bit 1. (DEDUCED, log 97) -/
def Dev.presJudge (s : Dev) : Dev :=
  let n := s.presLevel
  if n = s.level then s
  else (s.setFld F.PRES_STATUS_LEVEL n).log 0xA010 n (s.fld F.PRES_STATUS_KEY + 2 * s.fld F.PRES_STATUS_SEAL) 0

/-- KEY is active while both inputs are, and there is no KEY fault. -/
def Dev.keyShow (s : Dev) : Dev := (s.setFlag F.PRES_STATUS_KEY (s.pres.keys = 3 && !s.flag F.PRES_STATUS_KEYFLT)).presJudge

/-- The filtered KEY inputs change. -/
def Dev.keyInput (s : Dev) (l0 l1 : Bool) : Dev :=
  let p := s.pres
  let differ := l0 != l1
  (s.setPres { p with keys := b2n l0 + 2 * b2n l1, diff := if differ then some (p.diff.getD s.now) else none,
                      same := if differ then none else some (p.same.getD s.now) }).keyShow

/-- The inputs have disagreed throughout 500 ms: KEYFLT and 0xA012. -/
def Dev.keyDisagree (s : Dev) : Dev :=
  match s.pres.diff with
  | some t =>
    if t + 500 * msCyc ≤ s.now ∧ s.flag F.PRES_STATUS_KEYFLT = false then
      ((s.setFlag F.PRES_STATUS_KEYFLT true).log 0xA012 s.pres.keys 0 0).keyShow
    else s
  | none => s

/-- After a KEY fault both inputs have read alike throughout 1 s. -/
def Dev.keyAgree (s : Dev) : Dev :=
  match s.pres.same with
  | some t => if t + 1000 * msCyc ≤ s.now ∧ s.flag F.PRES_STATUS_KEYFLT then (s.setFlag F.PRES_STATUS_KEYFLT false).keyShow else s
  | none => s

/-- The seal loop reads closed, or open after its filter time. -/
def Dev.sealInput (s : Dev) (closed : Bool) : Dev := (s.setFlag F.PRES_STATUS_SEAL (!closed)).presJudge

/-- An accepted press; it counts for level 2 only with SEAL open and SAFEOK 1. -/
def Dev.lidPress (s : Dev) : Dev :=
  if s.flag F.PRES_STATUS_STUCK then s
  else
    let two := s.flag F.PRES_STATUS_SEAL && s.flag F.PRES_STATUS_SAFEOK
    (s.setPres { s.pres with press := some s.now, press2 := if two then some s.now else s.pres.press2 }).presJudge

/-- The button has been held for 10 s. -/
def Dev.lidStuck (s : Dev) : Dev :=
  if s.flag F.PRES_STATUS_STUCK then s else (s.setFlag F.PRES_STATUS_STUCK true).log 0xA013 0 0 0

/-- A stuck button has been released throughout 1 s. -/
def Dev.lidRearm (s : Dev) : Dev := s.setFlag F.PRES_STATUS_STUCK false

/-- SAFEOK takes a value; STATUS shows a copy. -/
def Dev.putSafeok (s : Dev) (on : Bool) : Dev := ((s.setFlag F.PRES_SAFEOK_VALUE on).setFlag F.PRES_STATUS_SAFEOK on).presJudge

/-- A write to PRES.SAFEOK, from master 5 only. -/
def Dev.safeokWrite (s : Dev) (m : Master) (val : Word) : Dev := if m = 5 then s.putSafeok (bitN val.toNat 0) else s

/-- Marten keeps SAFEOK at 1 while a role 6 pair is active and the car is at standstill. -/
def Dev.safeokTick (s : Dev) : Dev :=
  let on := s.chA.insp && s.chA.still && !s.chA.booting
  if s.flag F.PRES_SAFEOK_VALUE = on ∧ s.flag F.PRES_STATUS_SAFEOK = on then s else s.putSafeok on

/-- Seconds since the last press, saturating (0x2903:02). -/
def Dev.sincePress (s : Dev) : Nat :=
  match s.pres.press with
  | some t => min 65535 ((s.now - t) / (1000 * msCyc))
  | none => 65535

/-- An accepted change goes into Bear's presence log of 2,048 records (R406). -/
def Dev.presLog (s : Dev) (kind place old new : Nat) : Dev :=
  let r : PresRec := { ts := s.ns, level := s.level, kind := kind, place := place, old := old % 2 ^ 32, new := new % 2 ^ 32 }
  { s with nv := { s.nv with presLog := (s.nv.presLog ++ [r]).drop (s.nv.presLog.length + 1 - 2048) } }

/-- An RWP or RWI field of the register took the written value: the write goes into the presence log as kind 4 (R406, R411). -/
def Dev.presWrite (s : Dev) (a : Nat) (val : Word) (s1 : Dev) : Dev :=
  match regDesc? a with
  | some d =>
    let m := d.maskOf fun c => match c with | .rwp => true | .rwi => true | _ => false
    if m ≠ 0 ∧ s.presenceRefused a d val = false ∧ 1 ≤ s.level ∧ (s1.rd a ^^^ val) &&& BitVec.ofNat 32 m = 0 then s1.presLog 4 a (s.rd a).toNat (s1.rd a).toNat else s1
  | none => s1

/-- PRES.DEBUG is set at level 2: master 10 is enabled until the next module reset, 0xA014 with an emergency message (R407). -/
def Dev.debugUnlock (s : Dev) (m : Master) (val : Word) : Dev :=
  let s1 := if s.flag F.PRES_DEBUG_VALUE then s else s.plainWrite m R.PRES_DEBUG val
  if s1.flag F.PRES_DEBUG_VALUE ∧ s.flag F.PRES_DEBUG_VALUE = false then
    ((s1.setFlag F.PRES_STATUS_DEBUG true).logE 0xA014 0 0 0).presLog 4 R.PRES_DEBUG 0 1
  else s1

end Sys2Proof.Machine
end

