-- ==== Sys2Proof/Machine/Image.lean ====
section
/-! DEFINITION. Images (R394 to R398): SHA-256, the slots, the header, the validity of an image, the compatibility table, and
the transfer over the service port (R396). -/

namespace Sys2Proof.Machine

/-! ## SHA-256 (FIPS 180-4) -/

/-- The k-th root of n, as a whole number of at most `b` bits: from the top bit down, a bit stays where the power does not exceed n. -/
def wholeRoot (k n : Nat) : Nat → Nat → Nat
  | 0, r => r
  | b + 1, r => wholeRoot k n b (if (r + 2 ^ b) ^ k ≤ n then r + 2 ^ b else r)

/-- The primes up to 311: the first 64. -/
def smallPrimes : List Nat := (upTo 312).filter fun n => decide (2 ≤ n) && (upTo 18).all fun d => decide (d < 2) || d == n || n % d != 0

/-- The first 32 bits of the fraction of a prime's k-th root. -/
def rootFraction (k p : Nat) : Nat := wholeRoot k (p * 2 ^ (32 * k)) 37 0 % 2 ^ 32

/-- The round constants: FIPS 180-4 takes them from the cube roots of the first 64 primes. -/
def shaK : List Nat := smallPrimes.map (rootFraction 3)

/-- The start value of the eight words: from the square roots of the first eight primes. -/
def shaH0 : List Word := (smallPrimes.take 8).map fun p => BitVec.ofNat 32 (rootFraction 2 p)

def rotr (x : Word) (n : Nat) : Word := x.rotateRight n

/-- The 64 words of a block's schedule, latest first. -/
def shaSchedule : Nat → List Word → List Word
  | 0, l => l
  | n + 1, l =>
    let w2 := l.getD 1 0
    let w7 := l.getD 6 0
    let w15 := l.getD 14 0
    let w16 := l.getD 15 0
    let s0 := rotr w15 7 ^^^ rotr w15 18 ^^^ (w15 >>> 3)
    let s1 := rotr w2 17 ^^^ rotr w2 19 ^^^ (w2 >>> 10)
    shaSchedule n ((w16 + s0 + w7 + s1) :: l)

/-- One round. -/
def shaRound (h : List Word) (kw : Word) : List Word :=
  match h with
  | [a, b, c, d, e, f, g, x] =>
    let t1 := x + (rotr e 6 ^^^ rotr e 11 ^^^ rotr e 25) + ((e &&& f) ^^^ (~~~ e &&& g)) + kw
    let t2 := (rotr a 2 ^^^ rotr a 13 ^^^ rotr a 22) + ((a &&& b) ^^^ (a &&& c) ^^^ (b &&& c))
    [t1 + t2, a, b, c, d + t1, e, f, g]
  | l => l

/-- Four bytes, the first one most significant. -/
def beWord : List Byte → Word
  | [a, b, c, d] => a ++ b ++ c ++ d
  | _ => 0

/-- A list in pieces of n. -/
def pieces {α : Type} (n : Nat) : Nat → List α → List (List α)
  | 0, _ => []
  | k + 1, l => if l.isEmpty then [] else l.take n :: pieces n k (l.drop n)

/-- One block of 64 bytes. -/
def shaBlock (h : List Word) (blk : List Byte) : List Word :=
  let w := (shaSchedule 48 ((pieces 4 16 blk).map beWord).reverse).reverse
  let r := (shaK.zip w).foldl (fun x (p : Nat × Word) => shaRound x (BitVec.ofNat 32 p.1 + p.2)) h
  List.zipWith (· + ·) h r

/-- Big-endian bytes of a number. -/
def beBytes (n x : Nat) : List Byte := (leBytes n x).reverse

/-- The message with its padding. -/
def shaPad (l : List Byte) : List Byte :=
  l ++ [0x80] ++ List.replicate ((119 - l.length % 64) % 64) 0 ++ beBytes 8 (8 * l.length)

/-- SHA-256 of a byte string, as its 32 bytes. -/
def sha256 (l : List Byte) : List Byte :=
  let p := shaPad l
  (((pieces 64 (p.length / 64) p).foldl shaBlock shaH0).map fun w => beBytes 4 w.toNat).flatten

/-! ## Slots (R354, R396) -/

/-- The numbers of the slots: 0 and 1 safety, 2 and 3 application, 4 the staging of a car backup. -/
def Dev.slot (s : Dev) (i : Nat) : Slot := s.nv.slots.toList.getD i {}

/-- The byte at an offset of a slot: the latest write that covers it. (DESIGN CHOICE, log 11) -/
def slotByte (i : Nat) : List (Nat × List Byte) → Nat → Byte
  | [], o => Config.erasedByte i o
  | (a, l) :: t, o => if a ≤ o ∧ o < a + l.length then l.getD (o - a) 0 else slotByte i t o

def Dev.slotBytes (s : Dev) (i off n : Nat) : List Byte := (upTo n).map fun k => slotByte i (s.slot i).writes (off + k)

/-- The first 256 bytes of the image in a slot, and `n` bytes of its body from an offset. -/
def Dev.imgHeader (s : Dev) (i : Nat) : List Byte := if (s.slot i).erased then s.slotBytes i 0 256 else Config.factoryHeader i
def Dev.imgBody (s : Dev) (i off n : Nat) : List Byte :=
  if (s.slot i).erased then s.slotBytes i (256 + off) n else ((Config.factoryBody i).drop off).take n

/-- A field of a header. -/
def hdr (h : List Byte) (off n : Nat) : Nat := ofLe ((h.drop off).take n)

def Dev.imgVersion (s : Dev) (i : Nat) : Nat := hdr (s.imgHeader i) 8 4
def Dev.imgLevel (s : Dev) (i : Nat) : Nat := hdr (s.imgHeader i) 6 2
def Dev.imgSec (s : Dev) (i : Nat) : Nat := hdr (s.imgHeader i) 12 4
def Dev.imgLen (s : Dev) (i : Nat) : Nat := hdr (s.imgHeader i) 16 4

/-- The kind that belongs to a slot: 1 safety, 2 application, 3 car backup. -/
def slotKind (i : Nat) : Nat := if i < 2 then 1 else if i < 4 then 2 else 3

/-- The check of R395 that fails first, by the numbers of 0xA002: 0 header, 1 hash, 2 signature (its key slot included),
3 SECVER; none for a valid image. (DESIGN CHOICE, log 10) -/
def headerFault (keys h body : List Byte) (kind minSec : Nat) : Option Nat :=
  let key := hdr h 20 1
  if hdr h 0 4 ≠ 0x474D4946 ∨ hdr h 4 1 ≠ kind ∨ hdr h 5 1 ≠ 1 ∨ 268435200 < hdr h 16 4 then some 0
  else if (h.drop 24).take 32 ≠ sha256 body then some 1
  else if (if kind = 1 then key ≠ 0 else key = 0 ∨ 4 < key) then some 2
  else if Config.signatureValid keys (h.take 128) = false then some 2
  else if hdr h 12 4 < minSec then some 3
  else none

/-- What lists the public keys for a kind (R395): the header of the running safety image, by its BODYHASH, for an application image or
a backup; a safety image needs none but Fimbimar's, which the boot ROM knows. -/
def Dev.keysFor (s : Dev) (kind : Nat) : List Byte := if kind = 1 then [] else s.imgHeader s.nv.safeSlot

def Dev.imgFault (s : Dev) (i : Nat) : Option Nat :=
  if (s.slot i).erased then
    let h := s.imgHeader i
    headerFault (s.keysFor (slotKind i)) h (s.imgBody i 0 (hdr h 16 4)) (slotKind i) (s.nv.minSec.toList.getD (slotKind i - 1) 0)
  else if Config.factoryValid i then none else some 0

def Dev.imgValid (s : Dev) (i : Nat) : Bool := (s.imgFault i).isNone

/-! ## The compatibility table (R398) -/

/-- The 16-byte entries of the running safety image's table. -/
def Dev.compatTable (s : Dev) : List (List Byte) :=
  let i := s.nv.safeSlot
  let h := s.imgHeader i
  pieces 16 (hdr h 60 4) (s.imgBody i (hdr h 56 4) (16 * hdr h 60 4))

/-- An application LEVEL is listed for this module. -/
def Dev.levelListed (s : Dev) (level : Nat) : Bool :=
  s.compatTable.any fun e =>
    hdr e 0 1 = Config.siliconRevision.toNat && hdr e 1 1 = Config.badgerRevision.toNat && hdr e 2 1 = Config.romRevision.toNat &&
      decide (hdr e 4 2 ≤ level) && decide (level ≤ hdr e 6 2)

/-! ## Transfer (R396) -/

/-- The slot that an OPEN of a kind erases: the inactive one. (DEDUCED, log 104) -/
def Dev.openSlot (s : Dev) (kind : Nat) : Nat :=
  if kind = 1 then 1 - s.nv.safeSlot else if kind = 2 then 3 - s.nv.appSlot else 4

def Dev.setSlot_ (s : Dev) (i : Nat) (x : Slot) : Dev := { s with nv := { s.nv with slots := s.nv.slots.set! i x } }

/-- A handover runs (R401, R402). -/
def Dev.handing (s : Dev) : Bool := s.fld F.BOOT_STATUS_HOSTATE = 4 || s.fld F.BOOT_STATUS_HOSTATE = 5

/-- Recovery needs no presence level (R399). -/
def Dev.recovery (s : Dev) : Bool := s.flag F.BOOT_STATUS_RECOVERY

/-- OPEN: the status of the answer (0 or an abort code). -/
def Dev.openStatus (s : Dev) (kind : Nat) : Nat :=
  if kind = 0 ∨ 3 < kind then 0x06090030
  else if s.recovery = false ∧ s.level < (if kind = 1 then 2 else 1) then 0x08000020
  else if s.handing then 0x08000022 else 0

/-- The active slot is never written: the slot that an OPEN erases differs from it. -/
def Dev.imageErase (s : Dev) (kind : Nat) : Dev := s.flashUsed.setSlot_ (s.openSlot kind) { erased := true, writes := [] }

/-- DATA: bytes go to the slot at their offset. -/
def Dev.imagePut (s : Dev) (kind off : Nat) (l : List Byte) : Dev :=
  let i := s.openSlot kind
  s.flashUsed.setSlot_ i { erased := true, writes := (off, l) :: (s.slot i).writes }

/-- CLOSE: the slot is verified, 0xA001 or 0xA002; the answer's status. -/
def Dev.imageVerify (s : Dev) (kind : Nat) : Nat × Dev :=
  let i := s.openSlot kind
  match s.imgFault i with
  | none => (0, s.log 0xA001 kind (s.imgVersion i) (s.imgSec i))
  | some c => (0x08000024, s.log 0xA002 kind c (i % 2))

end Sys2Proof.Machine
end

