-- ==== Sys2Proof/Machine/Evr.lean ====
section
/-! DEFINITION. EVR and TELE (R374 to R389): the event ring and its records, the archive, the flight recorder, frozen
windows, the record window, counters and wear. -/

namespace Sys2Proof.Machine

/-! ## The event ring (R374 to R381) -/

def eventRing : Nat := 0x8EE000000
def flightRing : Nat := 0x8F0000000
def dumpRegion : Nat := 0x9F0000000

/-- The 28 bytes before VALID, and VALID (R375). -/
def evBytes (n : Nat) (e : EvRec) (gap : Bool) : List Byte :=
  let seq := n / 1048576 % 65536
  leBytes 8 e.ts ++ leBytes 2 e.code ++ leBytes 1 e.src ++ leBytes 1 (b2n e.sat + 2 * b2n gap) ++ leBytes 2 e.supp ++ leBytes 2 seq ++
    leBytes 4 e.p1 ++ leBytes 4 e.p2 ++ leBytes 4 e.p3 ++ leBytes 4 (seq * 65536 + 0x0A5A)

/-- The slot of record N. -/
def slotAddr (n : Nat) : Nat := eventRing + 32 * (n % 1048576)

/-- EVR writes as master 0. -/
def evrWrite (p : Dev × MemSys) (a : Nat) (l : List Byte) : Dev × MemSys := (writeArray 0 .dram (l.length + 1) a l p).2

/-- HEAD shows the next record number, which Bear holds. -/
def Dev.putHead (s : Dev) (n : Nat) : Dev := ({ s with nv := { s.nv with nextN := n } }.wrN R.EVR_HEAD_LO n).wrN R.EVR_HEAD_HI (n / 4294967296)

/-- The record with the next N. -/
def writeRecord (p : Dev × MemSys) (e : EvRec) : Dev × MemSys :=
  let s := p.1
  let n := s.nv.nextN
  let q := evrWrite ({ s with evr := { s.evr with gap := false, dropped := 0 } }.putHead (n + 1), p.2) (slotAddr n) (evBytes n e s.evr.gap)
  -- with the first record after a drop the drop itself is reported (R391)
  if s.evr.gap then (q.1.logCore 0 0x0041 s.evr.dropped s.evr.dropCls 0, q.2) else q

/-- The event that EVR serves next: a safety event before a general one. (DESIGN CHOICE, log 96) -/
def Dev.nextEvent (s : Dev) : Option (EvRec × Dev) :=
  match s.evr.safety, s.evr.general with
  | e :: t, _ => some (e, { s with evr := { s.evr with safety := t } })
  | [], e :: t => some (e, { s with evr := { s.evr with general := t } })
  | [], [] => none

/-- EVR takes one event and writes it as the next record; the first record after a power-up is 0x0040 (R391). -/
def eventRecordWrite (p : Dev × MemSys) : Dev × MemSys :=
  let s := p.1
  if s.flag F.EVR_STATUS_EVREADY = false then p
  else if s.evr.started = false then
    let s1 := { s with evr := { s.evr with started := true, archNext := s.nv.nextN } }
    writeRecord (s1, p.2) { ts := s.ns, code := 0x0040, p1 := alGet s.nv.counters 0 0, p2 := s.nv.nextN % 4294967296 }
  else match s.nextEvent with
    | some (e, s1) => writeRecord (s1, p.2) e
    | none => p

/-- EVR has filled the fatal dump region and the event ring, or the flight-recorder ring, with zeros (R374). -/
def ringFill (p : Dev × MemSys) (flight : Bool) : Dev × MemSys :=
  if flight then
    if p.1.flag F.EVR_STATUS_EVREADY = true ∧ p.1.flag F.EVR_STATUS_FRREADY = false then
      (p.1.setFlag F.EVR_STATUS_FRREADY true, p.2.fill flightRing 0x9EFFFFFFF 0)
    else p
  else if p.1.flag F.EVR_STATUS_EVREADY then p
  else (p.1.setFlag F.EVR_STATUS_EVREADY true, (p.2.fill dumpRegion 0x9FFFFFFFF 0).fill eventRing 0x8EFFFFFFF 0)

/-- The bytes of a range of DRAM; a word that holds no data gives none. -/
def dramBytes (p : Dev × MemSys) (a n : Nat) : Option (List Byte) × (Dev × MemSys) := readArray 0 .dram (n + 1) a n p

/-- Record N as the ring shows it, where the checks of R381 hold. -/
def ringRecord (p : Dev × MemSys) (n : Nat) : Option (List Byte) × (Dev × MemSys) :=
  let r := dramBytes p (slotAddr n) 32
  match r.1 with
  | some b =>
    let v := ofLe ((b.drop 28).take 4)
    let seq := ofLe ((b.drop 14).take 2)
    (if v % 65536 = 0x0A5A ∧ seq = v / 65536 ∧ seq = n / 1048576 % 65536 then some b else none, r.2)
  | none => (none, r.2)

/-- Records from N on, as many as are there and whole. -/
def ringRecords : Nat → Nat → (Dev × MemSys) → List (Nat × List Byte) × (Dev × MemSys)
  | 0, _, p => ([], p)
  | k + 1, n, p =>
    let r := ringRecord p n
    let t := ringRecords k (n + 1) r.2
    (match r.1 with | some b => (n, b) :: t.1 | none => t.1, t.2)

/-- The archive takes records; it holds the newest 67,108,864 (R379). -/
def archivePut (p : Dev × MemSys) (cnt : Nat) : Dev × MemSys :=
  let r := ringRecords cnt p.1.evr.archNext p
  let s := r.2.1
  let l := s.nv.archive ++ r.1
  let s1 : Dev := { s with nv := { s.nv with archive := l.drop (l.length - 67108864) }, evr := { s.evr with archNext := s.evr.archNext + cnt } }
  (s1.flashUsed, r.2.2)

/-- A complete block of 4,096 records is appended, unless the archive is off. -/
def archiveBlock (p : Dev × MemSys) : Dev × MemSys :=
  if p.1.evr.archNext + 4096 ≤ p.1.nv.nextN ∧ p.1.evr.started ∧ p.1.flag F.EVR_STATUS_ARCHOFF = false then archivePut p 4096 else p

/-- A write to CURSOR (R380). -/
def Dev.cursorWrite (s : Dev) (high : Bool) (val : Word) : Dev := s.wr (if high then R.EVR_CURSOR_HI else R.EVR_CURSOR_LO) val

/-- The word at an offset of the record window: word i mod 8 of record CURSOR + i / 8 as the slot stands. -/
def windowWord (p : Dev × MemSys) (i : Nat) : Word × (Dev × MemSys) :=
  let c := (p.1.rd R.EVR_CURSOR_LO).toNat + (p.1.rd R.EVR_CURSOR_HI).toNat * 4294967296
  let r := dramBytes p (slotAddr (c + i / 8) + 4 * (i % 8)) 4
  match r.1 with
  | some b => (BitVec.ofNat 32 (ofLe b), r.2)
  | none => (0, r.2)

/-! ## The flight recorder (R382) -/

/-- A signed value in n bytes. -/
def sBytes (n : Nat) (x : Int) : List Byte := leBytes n (x % (2 ^ (8 * n) : Int)).toNat

/-- The state byte of a channel. -/
def stateByte (w : Word) : Nat := w.toNat % 8 * 32 + w.toNat / 256 % 32

/-- Bytes 0 to 59 of the record of the present tick. -/
def Dev.flightBody (s : Dev) : List Byte :=
  let r4 (a : Nat) : List Byte := leBytes 4 (s.rd a).toNat
  let st (n : Nat) (f : Nat → Fld) : Bool := s.flag (f n)
  let sat (n : Nat) : Bool := st n F.CENG_SLOT_STATUS_SATHI || st n F.CENG_SLOT_STATUS_SATLO
  let b55 := b2n (st 0 F.CENG_SLOT_STATUS_HELD) + 2 * b2n (st 1 F.CENG_SLOT_STATUS_HELD) + 4 * b2n (st 2 F.CENG_SLOT_STATUS_HELD) +
    8 * b2n (sat 0) + 16 * b2n (sat 1) + 32 * b2n (sat 2) + 64 * b2n (st 0 F.CENG_SLOT_STATUS_FROZEN) + 128 * b2n (st 0 F.CENG_SLOT_STATUS_EXTRAP)
  let b59 := b2n (s.flag F.POSX_FUSE_STATUS_VALID) + 2 * b2n (s.flag F.POSX_FUSE_STATUS_STALE) + 4 * b2n (s.flag F.POSX_FUSE_STATUS_ABSLOST) +
    8 * b2n (s.flag F.POSX_FUSE_STATUS_INCLOST) + 16 * b2n (s.fld F.XCMP_STATUS_ITEMS != 0) + 32 * b2n ((List.finRange 9).any fun p => s.missed p)
  leBytes 4 s.tick ++ r4 R.POSX_FUSE_POS ++ r4 R.POSX_FUSE_SPEED ++ r4 R.PGEN_REF_POS ++ r4 R.PGEN_REF_VEL ++ leBytes 4 (s.od? 0x2210 1) ++
    r4 R.XCMP_A_POS ++ r4 R.XCMP_B_POS ++ leBytes 2 (s.rd (R.DOOR_ANGLE 0)).toNat ++ leBytes 2 (s.rd (R.DOOR_ANGLE 1)).toNat ++
    sBytes 2 (quo (s.rdI (R.DOOR_POS 0)) 100) ++ sBytes 2 (quo (s.rdI (R.DOOR_POS 1)) 100) ++
    leBytes 1 (stateByte (s.rd R.XCMP_A_STATE)) ++ leBytes 1 (stateByte (s.rd R.XCMP_B_STATE)) ++
    leBytes 1 ((s.rd R.XCMP_A_CHAIN).toNat % 8 + 8 * ((s.rd R.XCMP_B_CHAIN).toNat % 8)) ++
    leBytes 1 (s.fld F.SOUT_STATUS_SEQ + 16 * s.fld F.SOUT_STATUS_BRKREL) ++
    sBytes 2 (quo (s.rdI (R.DOOR_IU 0)) 10) ++ sBytes 2 (quo (s.rdI (R.DOOR_IV 0)) 10) ++
    leBytes 7 ((s.rd (R.IO24_INLVL 0)).toNat + (s.rd (R.IO24_INLVL 1)).toNat % 1048576 * 4294967296) ++ leBytes 1 b55 ++
    leBytes 2 (s.rd R.IO24_SIN).toNat ++ leBytes 1 ((s.rd R.IO24_CTAP).toNat % 64) ++ leBytes 1 b59

/-- In phase 8 the record of tick k goes into its slot; after a miss it carries GAP and nothing else. -/
def flightRecord (p : Dev × MemSys) : Dev × MemSys :=
  let s := p.1
  if s.flag F.EVR_STATUS_FRREADY = false then p
  else
    let k := s.tick % 4294967296
    let body := if s.missed 8 then leBytes 4 k ++ List.replicate 55 0 ++ leBytes 1 128 else s.flightBody
    let s1 := { s with evr := { s.evr with firstFr := some (s.evr.firstFr.getD s.tick) } }
    evrWrite (s1, p.2) (flightRing + 64 * (s.tick % 67108864)) (body ++ leBytes 4 (4294967295 - k))

/-! ## Frozen windows (R383, R384) -/

/-- A request to freeze: a write to EVR.FREEZE or 0x2802:01. -/
def Dev.freezeReq (s : Dev) (m : Master) (tag : Word) : Dev := if m = 10 then s else s.freezeAt 2 s.tick tag

/-- The oldest waiting window is lost to flash that is urgent, with the records copied before (0x0044, reason 1). -/
def Dev.windowUrgent (s : Dev) (copied : Nat) : Dev :=
  match s.evr.windows with
  | w :: t =>
    let x : StoredWindow := { win := w, bytes := [], lost := true }
    let s1 : Dev := { s with evr := { s.evr with windows := t }, nv := { s.nv with winStore := s.nv.winStore ++ [x] } }
    ((s1.setFlag F.EVR_STATUS_COPYING false).setFld F.EVR_STATUS_PENDING t.length).log 0x0044 w.num copied 1
  | [] => s

/-- Flash reports "urgent" (R353). -/
def Dev.flashUrgent (s : Dev) : Bool := s.fld F.FLSH_HEALTH_PREEOL = 3

/-- The copy of the oldest waiting window starts at its end. While flash is urgent the window is lost. -/
def Dev.copyStart (s : Dev) : Dev :=
  match s.evr.windows with
  | w :: t =>
    if w.copying = false ∧ w.last ≤ s.tick then
      if s.flashUrgent then s.windowUrgent 0
      else
        let w1 : Window := { w with copying := true }
        let s1 : Dev := { s with evr := { s.evr with windows := w1 :: t } }
        s1.flashUsed.setFlag F.EVR_STATUS_COPYING true
    else s
  | [] => s

/-- The 64-byte header of a stored window: number, first and last tick, trigger kind and tick, power-on count, tag; the spec
gives no layout (assumption 41). (DESIGN CHOICE, log 41) -/
def windowHeader (w : Window) (count : Nat) : List Byte :=
  leBytes 4 w.num ++ leBytes 8 w.first ++ leBytes 8 (w.last - 1) ++ leBytes 4 w.kind ++ leBytes 8 w.trig ++ leBytes 4 count ++ leBytes 4 w.tag.toNat ++ List.replicate 24 0

/-- The frozen-window area of 8 GiB and Bear's index of 512: the oldest are deleted. -/
def trimWindows : List StoredWindow → List StoredWindow
  | [] => []
  | x :: t => if 512 < (x :: t).length ∨ 8589934592 < ((x :: t).map fun w => w.bytes.length).sum then trimWindows t else x :: t

/-- The copy completes: the window is marked stored, 0x0043; one that flash went urgent under is lost, with an open number of
records copied. (DESIGN CHOICE, log 41) -/
def windowStored (p : Dev × MemSys) : Dev × MemSys :=
  match p.1.evr.windows with
  | w :: t =>
    let recs := w.last - w.first
    if w.copying = false then p
    else if p.1.flashUrgent then
      let d := p.1.drawWord
      (d.2.windowUrgent (d.1.toNat % (recs + 1)), p.2)
    else
      let r := (upTo recs).foldl (fun (x : List (List Byte) × (Dev × MemSys)) i =>
        let y := dramBytes x.2 (flightRing + 64 * ((w.first + i) % 67108864)) 64
        ((y.1.getD (List.replicate 64 0)) :: x.1, y.2)) ([], p)
      let s := r.2.1
      let x : StoredWindow := { win := w, bytes := windowHeader w (alGet s.nv.counters 0 0) ++ r.1.reverse.flatten }
      let s1 := { s with evr := { s.evr with windows := t }, nv := { s.nv with winStore := trimWindows (s.nv.winStore ++ [x]) } }
      let s2 := ((s1.setFlag F.EVR_STATUS_COPYING false).setFld F.EVR_STATUS_PENDING t.length).setFlag F.EVR_IRQ_STORED true
      (s2.flashUsed.log 0x0043 w.num recs 0, r.2.2)
  | [] => p

/-! ## Counters and wear (R387, R389) -/

def Dev.counter (s : Dev) (item : Nat) : Nat := alGet s.nv.counters item 0

/-- The rated count of an item from 5 to 48 (0x2803). -/
def Dev.rated (s : Dev) (item : Nat) : Nat := s.od? 0x2803 (item - 4)

/-- One wear item at a slow tick: 0xB001 where its count reaches 90 % of its rating, 0xB002 at 100 %. -/
def Dev.wearItem (s : Dev) (was item : Nat) : Dev :=
  let c := s.counter item
  let r := s.rated item
  if r = 0 then s
  else
    let s1 := if 10 * was < 9 * r ∧ 9 * r ≤ 10 * c then s.log 0xB001 item c (s.od? 0x2805 (item - 4)) else s
    if was < r ∧ r ≤ c then s1.logE 0xB002 item c 0 else s1

/-- The items 5 to 48. -/
def wearItems : List Nat := (upTo 44).map (· + 5)

def Dev.wearTick (s : Dev) : Dev :=
  let s1 := wearItems.foldl (fun (d : Dev) i => d.wearItem (s.evr.wear.getD (i - 5) 0) i) s
  { s1 with evr := { s1.evr with wear := wearItems.map s1.counter } }

/-- The remaining life of an item from its count 30 days ago; a figure outside 16 bits is open (assumption 5). -/
def Dev.lifeDays (s : Dev) (item old : Nat) : Nat :=
  let c := s.counter item
  if s.rated item = 0 ∨ c ≤ old then 0xFFFF
  else
    let x := quo (30 * ((s.rated item : Int) - c)) (c - old)
    if 0 ≤ x ∧ x < 65536 then x.toNat else (Config.beyond 16 x % 65536).toNat

/-- Once per day TELE recomputes the predicted lives. (DESIGN CHOICE, log 98) -/
def Dev.lifeRecompute (s : Dev) : Dev :=
  let old := s.nv.daily.getD 29 []
  let s1 := wearItems.foldl (fun (d : Dev) i => d.odPut 0x2805 (i - 4) (s.lifeDays i (old.getD (i - 5) 0))) s
  { s1 with nv := { s1.nv with daily := (wearItems.map s.counter :: s.nv.daily).take 30 } }

end Sys2Proof.Machine
end

