-- ==== Sys2Proof/Machine/Mbox.lean ====
section
/-! DEFINITION. MBOX (R362 to R372): mailbox channels, cross-wait, locks, parking Fox, and what resets do to them. -/

namespace Sys2Proof.Machine

/-! ## Channels -/

def Dev.chSend (s : Dev) (n : Nat) : Nat := s.fld (F.MBOX_CH_CFG_SEND n)
def Dev.chRecv (s : Dev) (n : Nat) : Nat := s.fld (F.MBOX_CH_CFG_RECV n)
def Dev.chFull (s : Dev) (n : Nat) : Bool := s.flag (F.MBOX_CH_STATUS_FULL n)
def Dev.chWaits (s : Dev) (n : Nat) : Bool := s.flag (F.MBOX_CH_STATUS_FENCEWAIT n)

/-- The channel holds a message, posted or waiting. -/
def Dev.chHeld (s : Dev) (n : Nat) : Bool := s.chFull n || s.chWaits n

/-- A channel that wakes Fox (R371). -/
def Dev.wakes (s : Dev) (n : Nat) : Bool := s.flag (F.MBOX_CH_CFG_WAKE n) && decide (1 ≤ s.chRecv n) && decide (s.chRecv n ≤ 4)

/-- Parking is given up for a waking post: the cores resume, REFUSE 4 (R370). -/
def Dev.parkAbort (s : Dev) : Dev :=
  (((s.setFld F.MBOX_PARK_STATE 0).setFld F.MBOX_PARK_HALTED 0).setFld F.MBOX_PARK_REFUSE 4).log 0x9020 2 4 0

/-- The message is posted: FULL, the receiver's DBELL; on a waking channel it aborts a parking or wakes Fox. -/
def Dev.chPost (s : Dev) (n : Fin 16) : Dev :=
  let s1 := (s.setFlag (F.MBOX_CH_STATUS_FULL n.val) true).setFlag (F.MBOX_CH_STATUS_FENCEWAIT n.val) false
  let s2 := { s1 with mbox := { s1.mbox with postAt := s1.mbox.postAt.set n s.now } }.setBit (R.MBOX_IRQ (s.chRecv n.val)) n.val
  if s.wakes n.val then
    match s.fld F.MBOX_PARK_STATE with
    | 1 => s2.parkAbort
    | 2 => s2.setFld F.MBOX_PARK_STATE 3
    | _ => s2
  else s2

/-- A DESC write by the sender (R363). -/
def Dev.chDesc (s : Dev) (m : Master) (n : Fin 16) (val : Word) : Dev :=
  let send := bitN val.toNat 31
  let tag := fldOf val (F.MBOX_CH_DESC_TAG n.val)
  if s.chSend n.val ≠ m.val ∨ s.flag (F.MBOX_CH_CFG_EN n.val) = false then s
  else if s.chHeld n.val then
    if send then (s.setFlag (F.MBOX_CH_STATUS_OVF n.val) true).logBy m.val 0x0021 n.val m.val tag else s
  else
    let len := fldOf val (F.MBOX_CH_DESC_LEN n.val)
    let s1 := ((s.setFld (F.MBOX_CH_DESC_FENCE n.val) (fldOf val (F.MBOX_CH_DESC_FENCE n.val))).setFld (F.MBOX_CH_DESC_RETRACT n.val)
      (fldOf val (F.MBOX_CH_DESC_RETRACT n.val))).setFld (F.MBOX_CH_DESC_TAG n.val) tag
    let s2 := if len ≤ 8 then s1.setFld (F.MBOX_CH_DESC_LEN n.val) len else s1
    if send then
      let s3 := s2.setFld (F.MBOX_CH_STATUS_TAG n.val) tag
      if bitN val.toNat 30 then s3.setFlag (F.MBOX_CH_STATUS_FENCEWAIT n.val) true else s3.chPost n
    else s2

/-- The sender's earlier writes have taken effect: the fenced message is posted. (DEDUCED, log 39) -/
def Dev.fencePost (s : Dev) (n : Fin 16) : Dev := if s.chWaits n.val then s.chPost n else s

/-- Two channels run in opposite directions between the same two masters. (DEDUCED, log 38) -/
def Dev.opposite (s : Dev) (a b : Nat) : Bool := a != b && s.chSend a == s.chRecv b && s.chRecv a == s.chSend b

/-- XWAIT of a channel and of its opposite clears. -/
def Dev.xwaitEnd (s : Dev) (n : Nat) : Dev :=
  if s.flag (F.MBOX_CH_STATUS_XWAIT n) then
    (upTo 16).foldl (fun (d : Dev) k => if k = n ∨ s.opposite n k then d.setFlag (F.MBOX_CH_STATUS_XWAIT k) false else d) s
  else s

/-- The receiver takes the message (R364). -/
def Dev.chTake (s : Dev) (m : Master) (n : Fin 16) : Dev :=
  if s.chRecv n.val = m.val ∧ s.chFull n.val then
    let s1 := ((s.xwaitEnd n.val).setFlag (F.MBOX_CH_STATUS_FULL n.val) false).setFlag (F.MBOX_CH_STATUS_STALE_RX n.val) false
    s1.setBit (R.MBOX_IRQ (s.chSend n.val)) (16 + n.val)
  else s

/-- Two opposite full channels have stayed untaken for 256 µs (R365). (DEDUCED, log 38) -/
def Dev.crossWait (s : Dev) (a b : Fin 16) : Dev :=
  let en (n : Nat) : Bool := s.flag (F.MBOX_CH_CFG_EN n) && s.chFull n && !s.flag (F.MBOX_CH_STATUS_XWAIT n)
  if en a.val ∧ en b.val ∧ s.opposite a.val b.val ∧ max s.mbox.postAt[a] s.mbox.postAt[b] + 256 * usCyc ≤ s.now then
    let s1 := (s.setFlag (F.MBOX_CH_STATUS_XWAIT a.val) true).setFlag (F.MBOX_CH_STATUS_XWAIT b.val) true
    let bits (d : Dev) (m : Nat) : Dev := (d.setBit (R.MBOX_IRQX m) a.val).setBit (R.MBOX_IRQX m) b.val
    (bits (bits s1 (s.chSend a.val)) (s.chRecv a.val)).log 0x0020 (min a.val b.val) (max a.val b.val) 0
  else s

/-- A CFG write (R362): who may write it, which endpoints the channel may have, and not while it holds a message. -/
def Dev.chCfg (s : Dev) (m : Master) (n : Fin 16) (val : Word) : Dev :=
  let snd := fldOf val (F.MBOX_CH_CFG_SEND n.val)
  let rcv := fldOf val (F.MBOX_CH_CFG_RECV n.val)
  let fox (x : Nat) : Bool := decide (1 ≤ x) && decide (x ≤ 4)
  let ok := if n.val < 8 then m = 5 && ((snd = 5 && fox rcv) || (fox snd && rcv = 5))
            else fox m.val && fox snd && fox rcv && snd != rcv
  if ok && !s.chHeld n.val then s.plainWrite m (R.MBOX_CH_CFG n.val) val else s

/-- A DATA write, by the sender of an empty channel. -/
def Dev.chData (s : Dev) (m : Master) (n : Nat) (a : Nat) (val : Word) : Dev :=
  if s.chSend n = m.val ∧ s.chHeld n = false then s.wr a val else s

/-- A master may read a channel's DATA, DESC and STATUS: its two endpoints. -/
def Dev.chReads (s : Dev) (m : Master) (n : Nat) : Bool := s.chSend n == m.val || s.chRecv n == m.val

/-! ## Locks (R368) -/

/-- A read of a lock: the answer, and the lock afterwards. (DEDUCED, log 35) -/
def Dev.lockRead (s : Dev) (m : Master) (l : Fin 32) : Dev :=
  let o := s.fld (F.MBOX_LOCK_OWNER l.val)
  if m = 10 then s.answer m (leBytes 4 o)
  else if o = 0 then (s.setFld (F.MBOX_LOCK_OWNER l.val) m.val).answer m (leBytes 4 0)
  else s.answer m (leBytes 4 (if o = m.val then 0 else o))

/-- The owner writes 0. -/
def Dev.lockRelease (s : Dev) (m : Master) (l : Fin 32) (val : Word) : Dev :=
  if val = 0 ∧ s.fld (F.MBOX_LOCK_OWNER l.val) = m.val then s.setFld (F.MBOX_LOCK_OWNER l.val) 0 else s

/-! ## Parking Fox (R370, R371) -/

/-- Why a request to park is refused: 1 a core runs, 2 a Fox core holds a lock, 3 a waking channel to Fox is full. -/
def Dev.parkRefusal (s : Dev) (halted : Nat) : Nat :=
  if halted / 2 % 8 ≠ 7 then 1
  else if (upTo 32).any fun l => let o := s.fld (F.MBOX_LOCK_OWNER l); decide (1 ≤ o) && decide (o ≤ 4) then 2
  else if (upTo 16).any fun n => s.wakes n && s.chFull n then 3 else 0

/-- Master 1 writes PARK.REQ; the halted cores show in HALTED. (DESIGN CHOICE, log 36) -/
def Dev.parkRequest (s : Dev) (m : Master) (halted : Fin 16) : Dev :=
  if m ≠ 1 ∨ s.fld F.MBOX_PARK_STATE ≠ 0 then s
  else
    let s1 := s.setFld F.MBOX_PARK_HALTED halted.val
    let r := s.parkRefusal halted.val
    if r = 0 then ((s1.setFld F.MBOX_PARK_STATE 1).setFld F.MBOX_PARK_REFUSE 0).setFld F.MBOX_PARK_HALTED 15
    else (s1.setFld F.MBOX_PARK_REFUSE r).log 0x9020 1 r 0

/-- Parking completes: the APP domain is gated and DRAM is in self-refresh. -/
def Dev.parked (s : Dev) : Dev :=
  if s.fld F.MBOX_PARK_STATE = 1 then
    let s1 := { s with mbox := { s.mbox with parkedAt := s.now }, memc := { s.memc with selfRefresh := true } }
    (s1.setFld F.MBOX_PARK_STATE 2).log 0x9020 0 0 0
  else s

/-- The channel whose post woke Fox: the first one posted since parking. (DEDUCED, log 37) -/
def Dev.wakingChannel (s : Dev) : Nat :=
  match ((List.finRange 16).filter fun (n : Fin 16) => s.wakes n.val && s.chFull n.val && decide (s.mbox.parkedAt ≤ s.mbox.postAt[n])) with
  | [] => 0
  | h :: t => (t.foldl (fun (b : Fin 16) n => if s.mbox.postAt[n] < s.mbox.postAt[b] then n else b) h).val

/-- The APP domain is powered and core 0 starts its resume path. -/
def Dev.foxWake (s : Dev) : Dev :=
  if s.fld F.MBOX_PARK_STATE = 3 then
    let n := s.wakingChannel
    let s1 := { s with memc := { s.memc with selfRefresh := false } }
    ((s1.setFld F.MBOX_PARK_STATE 0).setFld F.MBOX_PARK_HALTED 14).log 0x9021 n (s.chSend n) ((s.now - s.mbox.parkedAt) / (1000 * msCyc))
  else s

/-- Master 1 releases halted cores 1 to 3 after a wake. -/
def Dev.parkStart (s : Dev) (m : Master) (val : Word) : Dev :=
  if m = 1 ∧ s.fld F.MBOX_PARK_STATE = 0 then
    let h := s.fld F.MBOX_PARK_HALTED
    s.setFld F.MBOX_PARK_HALTED (h &&& (15 - 2 * fldOf val F.MBOX_PARK_START))
  else s

/-! ## Resets at either end (R367, R369) -/

/-- One channel when the masters of a list are reset. -/
def Dev.chReset (s : Dev) (ms : List Nat) (n : Nat) : Dev :=
  if s.chHeld n = false then s
  else if ms.contains (s.chSend n) && s.flag (F.MBOX_CH_DESC_RETRACT n) then
    let s1 := ((s.xwaitEnd n).setFlag (F.MBOX_CH_STATUS_FULL n) false).setFlag (F.MBOX_CH_STATUS_FENCEWAIT n) false
    ((s1.setFlag (F.MBOX_CH_STATUS_STALE_RX n) false).clrBit (R.MBOX_IRQ (s.chRecv n)) n).log 0x0022 n (s.chSend n) (s.fld (F.MBOX_CH_STATUS_TAG n))
  else if ms.contains (s.chRecv n) then s.setFlag (F.MBOX_CH_STATUS_STALE_RX n) true
  else s

/-- One lock when the masters of a list are reset. -/
def Dev.lockReset (s : Dev) (ms : List Nat) (l : Nat) : Dev :=
  let o := s.fld (F.MBOX_LOCK_OWNER l)
  if o ≠ 0 ∧ ms.contains o then (s.setFld (F.MBOX_LOCK_OWNER l) 0).log 0x0023 l o 0 else s

/-- What MBOX does when masters are reset. (DEDUCED, log 106) -/
def Dev.mboxReset (s : Dev) (ms : List Nat) : Dev :=
  (upTo 32).foldl (fun (d : Dev) l => d.lockReset ms l) ((upTo 16).foldl (fun (d : Dev) n => d.chReset ms n) s)

end Sys2Proof.Machine
end

