-- ==== Sys2Proof/Machine/Power.lean ====
section
/-! DEFINITION. Power and resets (R30, R341, R367, R372, R393, R413, R420 to R426): what each reset keeps, the requests through
SYS.RSTREQ, power fail, the supply monitors and the hold-up check. -/

namespace Sys2Proof.Machine

/-! ## What a reset keeps -/

/-- The blocks of the AON domain: SYS, TICK, MBOX, BBOX, PRES, ANA (R14). -/
def aonBlock (b : Nat) : Bool := b = 0 || b = 1 || b = 16 || b = 20 || b = 22 || b = 23

/-- Fuse records, PPR results and flash health: the devices themselves hold them through every reset (R351, R361). -/
def fuseReg (a : Nat) : Bool :=
  (decide (R.MEMC_FUSE_REC 0 ≤ a) && decide (a < R.MEMC_FUSE_REC 0 + 256)) || a = R.MEMC_PPR_STATUS || a = R.FLSH_HEALTH

/-- A register that a warm reset keeps: the AON blocks, the fuse records, and what R393 and R397 name of EVR (STATUS, HEAD, LOST,
SUPPTOT). -/
def warmKeeps (a : Nat) : Bool :=
  aonBlock (blockNo a) || fuseReg a || a = R.EVR_HEAD_LO || a = R.EVR_HEAD_HI || a = R.EVR_LOST || a = R.EVR_SUPPTOT || a = R.EVR_STATUS

/-- LOCKOUT causes and input test faults as Bear and Badger's store hold them (R289, R385); a channel that has not completed its
boot leaves them as they are. -/
def Dev.saveLatches (s : Dev) : Dev :=
  let codes (x : ChanSt) : List Nat := (x.causes.filter fun k => k.demand == 3 && k.code != 0x30).map (·.code)
  let all := codes s.chA ++ (codes s.chB).filter fun c => !(codes s.chA).contains c
  if s.chA.booting then s else { s with nv := { s.nv with lockouts := all, tpf := s.chA.tpf ||| s.chB.tpf } }

/-- Waiting windows whose ring is gone are lost (R384): the index keeps them without bytes. (DESIGN CHOICE, log 95) -/
def lostWindows (l : List Window) : List StoredWindow := l.map fun w => { win := w, bytes := [], lost := true }

/-- 0x0044 for each lost window, with the records that had been copied: none, or for the window being copied an open number. (DESIGN CHOICE, log 95) -/
def Dev.logLost (s : Dev) : List Window → Dev
  | [] => s
  | w :: t =>
    let r := s.drawWord
    (if w.copying then r.2.log 0x0044 w.num (r.1.toNat % (w.last - w.first + 1)) 0 else s.log 0x0044 w.num 0 0).logLost t

/-- The boot that a reset starts. -/
def bootAfter (todo : Nat) (holdOk por : Bool) : BootSt := { todo := todo, holdOk := holdOk, por := por }

/-- The whole module reset: every register at its reset word, TICK at 0, the memories without contents but Bear (R30, R341). (DESIGN CHOICE, log 95) -/
def wholeReset (p : Dev × MemSys) (cause : Nat) (por : Bool) : Dev × MemSys :=
  let s := p.1.saveLatches
  let ws := s.evr.windows
  let regs := (s.regs.filter fun (e : Nat × Word) => fuseReg e.1)
  let nv := { s.nv with winStore := trimWindows (s.nv.winStore ++ lostWindows ws) }
  let holdOk := if por then false else s.boot.holdOk
  let s1 : Dev := { regs := regs, nv := nv, fresh := s.fresh, boot := bootAfter 1 holdOk (por || s.boot.por),
                    evr := { started := s.evr.started && !por, archNext := s.nv.nextN } }
  let s2 := (s1.wrN R.SYS_RSTCAUSE cause).logLost ws
  let m : MemSys := { cells := p.2.cells.filter fun (c : Host.Cell) => decide (0x20000000 ≤ c.1) && decide (c.1 < 0x20400000) }
  ({ s2 with force := s2.regs }, m)

/-- The power-on reset ends (R421): TICK starts at 0 and the boot is due. PWRFAIL shows that the reset followed a power fail. (DESIGN CHOICE, log 94) -/
def powerOn (p : Dev × MemSys) : Dev × MemSys := wholeReset p (1 + 2 * b2n p.1.sout.pfail.isSome) true

/-- A module reset keeps the bits of RSTCAUSE and adds its own: 2 NMRST, 6 MODREQ. -/
def moduleReset (p : Dev × MemSys) (bit : Nat) : Dev × MemSys :=
  wholeReset p (putBit (p.1.rd R.SYS_RSTCAUSE).toNat bit true) false

/-- Marten's permits are withdrawn at once (R425). -/
def Dev.martenDown (s : Dev) : Dev := s.putPermits .a 0

/-- Badger is told over the hard line: HOLD with cause 0x45. -/
def Dev.badgerTold (s : Dev) : Dev := (((s.addCause .b 0x45).settle .b).setPermits .b).publishB

/-- A warm reset (R425): the five masters and every CORE block; TICK, the AON domain with Badger, and the arrays stay. PARK is
reset, so DRAM leaves self-refresh (R16). Test ages run from the reset. (DESIGN CHOICE, log 93) -/
def Dev.warmReset (s0 : Dev) (bit : Nat) : Dev :=
  let s := s0.martenDown.saveLatches
  let regs := s.regs.filter fun (e : Nat × Word) => warmKeeps e.1
  let k : SoutSt := { vsafe := s.sout.vsafe, vin := s.sout.vin, vsLow := s.sout.vsLow, ignore := s.sout.ignore, pfail := s.sout.pfail,
                      passed := Vector.replicate 10 s.now, ttLast := s.now }
  let mc : MemcSt := { selfRefresh := false, antStart := s.now, weevStart := s.now }
  let s1 : Dev := { now := s.now, regs := regs, fresh := s.fresh, latch := s.latch, missRun := s.missRun, missTick := s.missTick,
                    begun := s.begun, alarmDue := s.alarmDue, alarmSet := s.alarmSet,
                    evr := s.evr, chB := s.chB, badger := s.badger, sout := k, mbox := s.mbox, pres := s.pres, ana := s.ana, memc := mc,
                    nv := s.nv, boot := bootAfter 2 s.boot.holdOk s.boot.por }
  let s2 := (s1.setBit R.SYS_RSTCAUSE bit).mboxReset [1, 2, 3, 4, 5]
  { s2 with force := s2.regs }.badgerTold

/-- A SAFE domain reset: Marten alone (R425). (DEDUCED, log 106) -/
def Dev.safeReset (s0 : Dev) : Dev :=
  let s := s0.martenDown.saveLatches
  let s1 : Dev := { s with chA := {}, marten := {}, memc := { s.memc with martenFatal := false }, boot := { s.boot with todo := 3 },
                           bus := s.bus.set 5 {} }
  ((s1.setBit R.SYS_RSTCAUSE 4).mboxReset [5]).badgerTold

/-- An APP domain reset: the four Fox cores (R28, R425). (DEDUCED, log 106) -/
def Dev.appReset (s : Dev) : Dev :=
  let s1 : Dev := { s with bus := (((s.bus.set 1 {}).set 2 {}).set 3 {}).set 4 {} }
  (s1.setBit R.SYS_RSTCAUSE 5).mboxReset [1, 2, 3, 4]

/-! ## Requests (R425) -/

/-- The masters from which a KIND is accepted. -/
def kindFrom (kind : Nat) (m : Master) : Bool :=
  let any := decide (1 ≤ m.val) && decide (m.val ≤ 5)
  match kind with
  | 1 => any
  | 4 => any
  | 2 => m = 5
  | 3 => m = 5
  | 5 => m = 5
  | _ => false

/-- The reset of an accepted KIND. -/
def resetKind (p : Dev × MemSys) (kind : Nat) : Dev × MemSys :=
  match kind with
  | 1 => (p.1.warmReset 3, p.2)
  | 2 => moduleReset p 6
  | 3 => (p.1.safeReset, p.2)
  | 4 => (p.1.appReset, p.2)
  | 5 => (p.1.warmReset 7, p.2)
  | _ => p

/-- A write to SYS.RSTREQ: 0x9031 and the reset, or 0x9030. -/
def resetRequest (p : Dev × MemSys) (m : Master) (val : Word) : Dev × MemSys :=
  let key := fldOf val F.SYS_RSTREQ_KEY
  let kind := fldOf val F.SYS_RSTREQ_KIND
  if key = 0xA5C3 ∧ kindFrom kind m then resetKind (p.1.logBy m.val 0x9031 kind m.val 0, p.2) kind
  else (p.1.logBy m.val 0x9030 m.val kind key, p.2)

/-! ## Power fail (R423, R424) -/

/-- Gate outputs and DRVEN go low, with what R145 lets their fall bring. -/
def Dev.gatesOff (s : Dev) : Dev :=
  let f (d : Dev) (u : Fin 2) : Dev := ((d.setDoor u fun t => { t with ovShort := false }).drvenUpdate u).gatesLow u
  f (f s 0) 1

/-- DO, TP and STAT go off. -/
def Dev.padsOff (s : Dev) : Dev :=
  let s1 := (List.finRange 36).foldl (fun (d : Dev) p => d.padSwitch p false) s
  (s1.setIo { s1.io with tpOn := false, stat := Vector.replicate 3 false }).setFld F.IO24_TP_LVL 0

/-- The ring and CAN pads take their unpowered states. -/
def Dev.portsOff (s : Dev) : Dev :=
  let f (d : Dev) (i : Nat) : Dev := d.setFld (F.CANX_CFG_MODE i) 0
  f (f s.ringOff 0) 1

/-- The incomplete block goes to the archive (R379). -/
def archiveRest (p : Dev × MemSys) : Dev × MemSys :=
  if p.1.evr.started ∧ p.1.evr.archNext < p.1.nv.nextN then archivePut p (p.1.nv.nextN - p.1.evr.archNext) else p

/-- Power fail is declared: every switch opens whatever the channels demand; 0x9001; the saving of R423. The readings of VIN and
HOLD at that instant are open. (DESIGN CHOICE, log 93) -/
def powerFail (p : Dev × MemSys) : Dev × MemSys :=
  let s := p.1
  if s.sout.pfail.isSome then p
  else
    let s1 := (s.setSout { s.sout with pfail := some s.now }).openAll.gatesOff.padsOff.portsOff
    let s2 := ((s1.putPermits .a 0).putPermits .b 0)
    let v := s2.drawWord
    let h := v.2.drawWord
    archiveRest (h.2.log 0x9001 (v.1.toNat % 65536) (h.1.toNat % 65536) 0, p.2)

/-- At t0 + 50 ms or with HOLD below 12 V: power-on reset holds until POWER_ON_RESET_RELEASE. -/
def powerFailReset (p : Dev × MemSys) : Dev × MemSys :=
  if p.1.sout.pfail.isSome then
    let q := archiveRest p
    ({ q.1 with inReset := true }, q.2)
  else p

/-- VIN has read below 19.2 V throughout 10 ms. -/
def Dev.vinLow (s : Dev) (mv : Nat) : Dev := s.log 0x9002 (mv / 10) 0 0

/-- VSAFE has read below 18 V throughout 1 ms, or at or above 20 V throughout 10 ms (R422). -/
def Dev.vsafeCrossing (s : Dev) (mv : Nat) : Dev :=
  if mv < 18000 ∧ s.sout.vsLow = false then (s.setSout { s.sout with vsLow := true }).log 0x9003 1 (mv / 10) 0
  else if 20000 ≤ mv ∧ s.sout.vsLow then (s.setSout { s.sout with vsLow := false }).log 0x9003 0 (mv / 10) 0
  else s

/-! ## The hold-up capacitor (R420) -/

/-- The estimate of C in µF from the charging time in ms: 40 mA × t / 6 V. -/
def holdC (ms : Nat) : Int := quo (40 * ms) 6

/-- The energy in mJ at V_H in mV, from the same estimate. -/
def holdE (ms mv : Nat) : Int := quo (40 * (ms : Int) * ((mv : Int) * mv - 144000000)) (6 * 2000000000)

/-- Less than 0.20 J, exactly. -/
def holdWeak (ms mv : Nat) : Bool := decide (40 * (ms : Int) * ((mv : Int) * mv - 144000000) < 200 * 6 * 2000000000)

/-- The boot check of the hold-up capacitor. -/
def Dev.holdCheck (s : Dev) (ms mv : Nat) : Dev :=
  let c := holdC ms
  let e := holdE ms mv
  let s1 := s.wrN R.ANA_HOLDCAP ((c % 65536).toNat * 65536 + (e % 65536).toNat)
  if holdWeak ms mv then s1.logE 0x9004 (w32 c) (w32 e) (mv / 10) else s1

end Sys2Proof.Machine
end

