-- ==== Sys2Proof/Machine/Can.lean ====
section
/-! DEFINITION. The CAN ports (R313 to R317, R321, R322, R330, R337): settings and their commit, boot-up, NMT, heartbeat,
fault confinement, emergency messages and SRDO. -/

namespace Sys2Proof.Machine

/-! ## Port settings (R313 to R315, R321, R337) -/

/-- The five settings of a port: mode, node-ID, nominal rate, data rate, termination. -/
structure PortSet where
  mode  : Nat
  node  : Nat
  nrate : Nat
  drate : Nat
  term  : Nat
  deriving DecidableEq, Repr

def portIdx (p : Nat) : Nat := 0x2F10 + p

/-- A committed setting; the node-ID of CANX[0] defaults to the car number. -/
def Dev.committedPort (s : Dev) (p sub : Nat) : Nat :=
  alGet s.nv.ports (odKey (portIdx p) sub) (if p = 0 ∧ sub = 2 then s.od? 0x2500 1 else odDefault (portIdx p) sub)

/-- A pending setting: the committed one where nothing has been written since. -/
def Dev.pendingPort (s : Dev) (p sub : Nat) : Nat := alGet s.od (odKey (portIdx p) sub) (s.committedPort p sub)

def portOf (f : Nat → Nat) : PortSet := { mode := f 1, node := f 2, nrate := f 3, drate := f 4, term := f 5 }

/-- The settings in force (CANX[p].CFG). -/
def Dev.portNow (s : Dev) (p : Nat) : PortSet :=
  { mode := s.fld (F.CANX_CFG_MODE p), node := s.fld (F.CANX_CFG_NODEID p), nrate := s.fld (F.CANX_CFG_NRATE p),
    drate := s.fld (F.CANX_CFG_DRATE p), term := s.fld (F.CANX_CFG_TERM p) }

def Dev.putPort (s : Dev) (p : Nat) (x : PortSet) : Dev :=
  ((((s.setFld (F.CANX_CFG_MODE p) x.mode).setFld (F.CANX_CFG_NODEID p) x.node).setFld (F.CANX_CFG_NRATE p) x.nrate).setFld
    (F.CANX_CFG_DRATE p) x.drate).setFld (F.CANX_CFG_TERM p) x.term

/-- The nominal and the data rate of a code in kbit/s. -/
def nomRate (c : Nat) : Nat := match c with | 0 => 1000 | 1 => 500 | 2 => 250 | 3 => 125 | _ => 50
def dataRate (n c : Nat) : Nat := match c with | 1 => 1000 | 2 => 2000 | 3 => 5000 | _ => nomRate n

/-- T_F of the drive reference frame is within 0.7 × period × 125 µs (R315), compared exactly; off has no frame. -/
def frameFits (x : PortSet) (period : Nat) : Bool :=
  let fn := nomRate x.nrate
  let fd := dataRate x.nrate x.drate
  if x.mode = 1 then decide (10 * (43000 * fd + 174000 * fn) ≤ 875 * period * fn * fd)
  else if x.mode = 2 then decide (1332000 ≤ 875 * period * fn)
  else true

/-- The checks of a commit (R315, R321). -/
def Dev.commitOk (s : Dev) : Bool :=
  (s.od? 0x2210 6 != 0 || frameFits (portOf (s.pendingPort 1)) (s.od? 0x2210 5)) &&
    (s.od? 0x2500 2 != 0 || s.pendingPort 0 1 == 1)

/-! ## Boot-up and NMT (R317) -/

def Dev.portOn (s : Dev) (p : Fin 2) : Bool := s.fld (F.CANX_CFG_MODE p.val) != 0

/-- A port that is on, past its initialisation and not bus-off takes part in the traffic. -/
def Dev.portTalks (s : Dev) (p : Fin 2) : Bool :=
  s.portOn p && s.fld (F.CANX_STATUS_NMT p.val) != 0 && !s.flag (F.CANX_STATUS_BUSOFF p.val) && s.sout.pfail == none

def Dev.setCan (s : Dev) (p : Fin 2) (x : CanPort) : Dev := { s with can := s.can.set p x }

/-- A frame leaves a port. -/
def Dev.sendFrame (s : Dev) (p : Fin 2) (id : Nat) (data : List Byte) : Dev :=
  s.setCan p { s.can[p] with out := some { id := id, data := data }, sent := s.can[p].sent + 1 }

/-- The NMT state of a port; a change sets NMTCHG. -/
def Dev.nmtSet (s : Dev) (p : Fin 2) (st : Nat) : Dev :=
  if s.fld (F.CANX_STATUS_NMT p.val) = st then s
  else (s.setFld (F.CANX_STATUS_NMT p.val) st).setFlag (F.CANX_IRQ_NMTCHG p.val) true

/-- A port that is not off sends its boot-up message and enters Operational on its own. (DESIGN CHOICE, log 58) -/
def Dev.portStart (s : Dev) (p : Fin 2) : Dev :=
  let s1 := s.nmtSet p 0
  if s1.portOn p then
    (s1.sendFrame p (0x700 + s1.fld (F.CANX_CFG_NODEID p.val)) [0]).nmtSet p 2
  else s1

/-- A port takes its committed settings; one whose settings are unchanged keeps running. -/
def Dev.portRestart (s : Dev) (p : Fin 2) : Dev :=
  let x := portOf (s.committedPort p.val)
  if s.portNow p.val = x then s else (s.putPort p.val x).portStart p

/-- The pending settings of both ports are committed and take effect together. -/
def Dev.portCommit (s : Dev) : Dev :=
  let one (p : Nat) : List (Nat × Nat) := [1, 2, 3, 4, 5].map fun k => (odKey (portIdx p) k, s.pendingPort p k)
  let s1 : Dev := { s with nv := { s.nv with ports := one 0 ++ one 1 } }
  (s1.portRestart 0).portRestart 1

/-- An NMT command reaches a port: addressed to its node-ID or to all nodes. -/
def Dev.nmtHeard (s : Dev) (p : Fin 2) (node : Nat) : Bool :=
  s.portTalks p && (node == 0 || node == s.fld (F.CANX_CFG_NODEID p.val))

def Dev.nmtStart (s : Dev) (p : Fin 2) (node : Nat) : Dev := if s.nmtHeard p node then s.nmtSet p 2 else s
def Dev.nmtStop (s : Dev) (p : Fin 2) (node : Nat) : Dev := if s.nmtHeard p node then s.nmtSet p 3 else s
def Dev.nmtPreOp (s : Dev) (p : Fin 2) (node : Nat) : Dev := if s.nmtHeard p node then s.nmtSet p 1 else s

/-- Reset-communication and reset-node restart only that port. -/
def Dev.nmtReset (s : Dev) (p : Fin 2) (node : Nat) : Dev := if s.nmtHeard p node then s.portStart p else s

/-- Reset-node is treated as reset-communication; a reset over a network logs 0xA011 with reason 3 (R317, R405). (DESIGN CHOICE, log 57) -/
def Dev.nmtNode (s : Dev) (p : Fin 2) (node : Nat) : Dev :=
  if s.nmtHeard p node then (s.log 0xA011 3 0 0).nmtReset p node else s

/-- The heartbeat at the interval 0x1017, with the CANopen code of the state. -/
def Dev.heartbeat (s : Dev) (p : Fin 2) : Dev :=
  if s.portTalks p ∧ s.od? 0x1017 0 ≠ 0 then
    let st : Byte := match s.fld (F.CANX_STATUS_NMT p.val) with | 1 => 127 | 2 => 5 | _ => 4
    s.sendFrame p (0x700 + s.fld (F.CANX_CFG_NODEID p.val)) [st]
  else s

/-! ## Fault confinement (R316) -/

def Dev.errCounts (s : Dev) (p : Fin 2) (tec rec : Nat) : Dev :=
  (s.setFld (F.CANX_STATUS_TEC p.val) (min tec 255)).setFld (F.CANX_STATUS_REC p.val) (min rec 255)

def Dev.errFlag (s : Dev) (p : Fin 2) (f : Fld) (on : Bool) : Dev :=
  if s.flag f = on then s else (s.setFlag f on).setFlag (F.CANX_IRQ_ERRCHG p.val) true

/-- A port goes bus-off. -/
def Dev.busOff (s : Dev) (p : Fin 2) (tec : Nat) : Dev :=
  if s.portOn p ∧ s.flag (F.CANX_STATUS_BUSOFF p.val) = false then
    ((s.errCounts p tec (s.fld (F.CANX_STATUS_REC p.val))).errFlag p (F.CANX_STATUS_BUSOFF p.val) true).log 0x5001 p.val tec 0
  else s

/-- 128 occurrences of 11 recessive bits: the port recovers with cleared counters and sends its boot-up message again. (DESIGN CHOICE, log 58) -/
def Dev.busOffEnd (s : Dev) (p : Fin 2) : Dev :=
  if s.flag (F.CANX_STATUS_BUSOFF p.val) then
    (((s.errCounts p 0 0).errFlag p (F.CANX_STATUS_BUSOFF p.val) false).errFlag p (F.CANX_STATUS_EPASS p.val) false).portStart p
  else s

/-- A port reaches error passive. -/
def Dev.errorPassive (s : Dev) (p : Fin 2) (tec rec : Nat) : Dev :=
  if s.portOn p then
    let s1 := s.errCounts p tec rec
    if s1.flag (F.CANX_STATUS_EPASS p.val) then s1
    else (s1.errFlag p (F.CANX_STATUS_EPASS p.val) true).log 0x5002 p.val tec rec
  else s

/-- A port returns to error active. -/
def Dev.errorActive (s : Dev) (p : Fin 2) (tec rec : Nat) : Dev :=
  if s.portOn p then (s.errCounts p tec rec).errFlag p (F.CANX_STATUS_EPASS p.val) false else s

/-! ## Emergency messages (R330) -/

/-- The bytes of an emergency message: classic as R330 lays them out; FD with the same fields and TICK.NOW (assumption 45). (DESIGN CHOICE, log 45) -/
def Dev.emcyBytes (s : Dev) (p : Fin 2) (e : Emcy) : List Byte :=
  let head := leBytes 2 e.err ++ leBytes 1 s.errorRegister ++ leBytes 2 e.code
  if s.fld (F.CANX_CFG_MODE p.val) = 1 then head ++ leBytes 4 e.p1 ++ leBytes 8 e.ts else head ++ leBytes 3 e.p1

/-- The inhibit time 0x1015 since the last emergency message has passed. -/
def Dev.emcyFree (s : Dev) (p : Fin 2) : Bool :=
  match s.can[p].emAt with
  | some t => decide (t + s.od? 0x1015 0 * 100 * usCyc ≤ s.now)
  | none => true

/-- The next waiting emergency message of a port is sent. -/
def Dev.emcySend (s : Dev) (p : Fin 2) : Dev :=
  let st := s.fld (F.CANX_STATUS_NMT p.val)
  match s.can[p].emcy with
  | e :: t =>
    if s.portTalks p ∧ (st = 1 ∨ st = 2) ∧ s.emcyFree p then
      let s1 := s.sendFrame p (s.od? 0x1014 0 + s.fld (F.CANX_CFG_NODEID p.val)) (s.emcyBytes p e)
      (s1.setCan p { s1.can[p] with emcy := t, emAt := some s.now }).setFlag (F.CANX_IRQ_EMCY p.val) true
    else s
  | [] => s

/-! ## SRDO (R322) -/

/-- The ports' SRDO traffic runs: CANX[1] Operational, Marten past its boot. (DESIGN CHOICE, log 59) -/
def Dev.srdoRuns (s : Dev) : Bool := s.portTalks 1 && s.fld (F.CANX_STATUS_NMT 1) == 2 && !s.chA.booting

/-- SRDO 1, a pair of frames on adjacent identifiers, the second with the inverse. -/
def Dev.srdoSend (s : Dev) : Dev :=
  if s.srdoRuns ∧ s.od? 0x1301 1 = 1 then
    let lockout := s.chA.state = 3 || s.chB.state = 3
    let b : List Byte := leBytes 1 s.chA.state ++ leBytes 1 (s.fld F.XCMP_B_STATE_STATE) ++ leBytes 1 s.chA.chain ++
      leBytes 1 (b2n lockout + 2 * b2n s.marten.deg) ++ le32 s.chA.pos
    (s.sendFrame 1 (s.od? 0x1301 5) b).sendFrame 1 (s.od? 0x1301 6) (b.map fun x => ~~~ x)
  else s

/-- SRDO 2 is configured. -/
def Dev.srdo2On (s : Dev) : Bool := s.od? 0x1302 1 != 0

/-- SRDO 2 is invalid: 0 incomplete within the SRVT, 1 mismatch, 2 missing. Marten withholds its MC permits at standstill. -/
def Dev.srdoInvalid (s : Dev) (kind : Nat) : Dev :=
  if s.srdo2On ∧ s.chA.booting = false then
    let s1 : Dev := { s with ode := { s.ode with contra := 0 } }
    ((s1.setMarten { s1.marten with srdoBad := true }).logBy 5 0x5020 kind 0 0).setPermits .a
  else s

/-- Marten alone finds fault code 1 on STO[0]. -/
def Dev.stoContradicted (s : Dev) : Dev :=
  if s.outFaultCode 4 ≠ 0 then s
  else
    let s1 := (s.setFld (outFaultFld 4) 1).setFlag F.SOUT_IRQ_FAULT true
    let s2 : Dev := { s1 with nv := { s1.nv with outFaults := alSet s1.nv.outFaults 4 1 } }
    (((s2.log 0x8020 4 1 (s2.classesOf 4)).addCause .a 0x24).settle .a).setPermits .a

/-- A pair of SRDO 2 arrives within the SRVT. (DESIGN CHOICE, log 59) -/
def Dev.srdoTake (s : Dev) (bytes inv : List Byte) : Dev :=
  if s.srdo2On = false ∨ s.srdoRuns = false then s
  else if inv ≠ bytes.map (fun x => ~~~ x) ∨ bytes = [] then s.srdoInvalid 1
  else
    let torque := bytes.headD 0 = 1
    let low := s.fld (F.SOUT_STO_STATE_HCLASS 0) = 0 && s.fld (F.SOUT_STO_STATE_HCLASS 1) = 0
    let n := if torque && low then s.ode.contra + 1 else 0
    let s1 : Dev := { s with ode := { s.ode with contra := n } }
    let s2 := (s1.setMarten { s1.marten with srdoBad := false }).setPermits .a
    if 3 ≤ n then s2.stoContradicted else s2

end Sys2Proof.Machine
end

