-- ==== Sys2Proof/Machine/Reads.lean ====
section
/-! DEFINITION. What a read of a dictionary entry returns (R325, R337 and the object tables): the applied value that ODE holds,
or what the block behind the entry shows; and the entries that a store keeps (R329). -/

namespace Sys2Proof.Machine

/-! ## The entries -/

/-- The arrays of the shaft map hold L at sub-index 0 (R87). -/
def mapArray (idx : Nat) : Bool := idx = 0x2101 || idx = 0x2102 || idx = 0x2103 || idx = 0x2106

/-- The entry's row. -/
def entryRow (idx sub : Nat) : Option OdRow :=
  if mapArray idx ∧ sub = 0 then some ⟨idx, 0, 0, .u 1, .ro, 0, 0, 0, 255, false⟩ else odRow? idx sub

/-- Something stands at the index. -/
def indexKnown (idx : Nat) : Bool := (odRows (idx / 256)).any fun r => r.idx == idx

/-- An index of the CiA 417 range as lift 1 has it; one of another lift's, or of any where the car is numbered 9 to 16, leads
nowhere (R323). (PRESUMED, log 52) -/
def Dev.liftIdx (s : Dev) (idx : Nat) : Nat :=
  if 0x6000 ≤ idx ∧ idx < 0xA000 then
    if 1 ≤ s.car ∧ s.car ≤ 8 ∧ idx / 0x800 = 11 + s.car then idx - 0x800 * (s.car - 1) else 0xFFFF
  else idx

/-- The device name. -/
def nameBytes : List Byte := [0x43, 0x61, 0x6F, 0x72, 0x61, 0x6E, 0x65, 0x6E, 0x20, 0x55, 0x58, 0x31, 0x32, 0x38]

/-- The last fence of a client. -/
def Dev.fenceOf (s : Dev) (c : Client) : Nat := ((s.ode.fences.find? fun (e : Client × Nat) => e.1 == c).map (·.2)).getD 0

/-- One bit for each of the first n elements. -/
def bitsOf (n : Nat) (f : Nat → Bool) : Nat := (upTo n).foldl (fun a i => a + 2 ^ i * b2n (f i)) 0

/-- A running application exists. -/
def Dev.appVersion (s : Dev) : Nat := if s.boot.app then s.imgVersion (2 + s.nv.appSlot) else 0
def Dev.appLevel (s : Dev) : Nat := if s.boot.app then s.imgLevel (2 + s.nv.appSlot) else 0

/-! ## Reads by block -/

/-- Objects of the door units, for door d and the object number within its range. -/
def Dev.readDoor (s : Dev) (d k sub : Nat) : Option Nat :=
  match k, sub with
  | 5, 1 => some (s.rd (R.DOOR_MSTAT d)).toNat
  | 5, 2 => some (s.rd (R.DOOR_REMAIN d)).toNat
  | 6, n => some (s.rd (R.DOOR_FRIC d (n - 1))).toNat
  | 7, n => some (s.rd (R.DOOR_MASSL d (n - 1))).toNat
  | _, _ => none

/-- Objects of LRING. -/
def Dev.readRing (s : Dev) (idx sub : Nat) : Option Nat :=
  match idx, sub with
  | 0x2400, 1 => some (s.fld F.LRING_CTRL_EN)
  | 0x2400, 2 => some s.rState
  | 0x2400, 3 => some (s.fld F.LRING_NODES_N)
  | 0x2400, 4 => some (s.fld F.LRING_CTRL_DUALFORCE)
  | 0x2401, n => some (s.eclass n)
  | 0x2403, 2 => some (s.fld F.LRING_STATUS_ENUMCODE)
  | 0x2405, n => some (s.rd (R.LRING_ORDER n)).toNat
  | 0x2406, n => some (s.fld (F.LRING_ERR_REJ n))
  | _, _ => none

/-- Objects of IO24. -/
def Dev.readIo (s : Dev) (idx sub : Nat) : Option Nat :=
  match idx, sub with
  | 0x2600, n => some (s.fld (F.IO24_INCFG_TYPE (n - 1)))
  | 0x2601, n => some (s.fld (F.IO24_INCFG_FILT (n - 1)))
  | 0x2602, n => some (s.fld (F.IO24_INCFG_PAD (n - 1)))
  | 0x2603, n => some (s.fld (F.IO24_OUTMAP_PAD (n - 1)))
  | 0x2604, 1 => some ((s.rd (R.IO24_INLVL 0)).toNat + 4294967296 * (s.rd (R.IO24_INLVL 1)).toNat)
  | 0x2604, 2 => some (s.rd R.IO24_OUTCMD).toNat
  | 0x2604, 3 => some (bitsOf 36 fun p => s.padFault p != 0)
  | 0x2606, n => some (s.fld (F.IO24_FIELD_VOLT (n - 1)))
  | 0x2607, 1 => some (bitsOf 36 fun p => s.flag (F.IO24_OUTSTAT_OLDEN p))
  | _, _ => none

/-- Objects of the shaft map, PGEN and BID. -/
def Dev.readMotion (s : Dev) (idx sub : Nat) : Option Nat :=
  match idx, sub with
  | 0x2100, 1 => some (s.rd R.POSX_FUSE_POS).toNat
  | 0x2100, 2 => some (s.rd R.POSX_FUSE_SPEED).toNat
  | 0x2100, 3 => some (s.rd R.POSX_FUSE_STATUS).toNat
  | 0x2105, 3 => some s.candCrc
  | 0x2206, 1 => some (s.rd R.PGEN_STATUS).toNat
  | 0x2206, 2 => some (s.rd R.PGEN_TGT).toNat
  | 0x2206, 3 => some (s.rd R.PGEN_TREM).toNat
  | 0x2206, 4 => some (s.rd R.PGEN_REF_POS).toNat
  | 0x2206, 5 => some (s.rd R.PGEN_REF_VEL).toNat
  | 0x2206, 6 => some (s.rd R.PGEN_STOPDIST).toNat
  | 0x2504, 1 => some (s.fld F.BID_STATUS_NSTOP)
  | 0x2504, 2 => some (s.fld F.BID_STATUS_NCALL)
  | 0x2504, 3 => some (s.fld F.BID_GROUP_MEMBER)
  | _, _ => none

/-- A mapping parameter: the entry and its length in bits (CiA 301). -/
def mapWord (idx sub bits : Nat) : Nat := idx * 65536 + sub * 256 + bits

/-- TPDO 9 in classic mode: the acceleration feed-forward is not sent (R320). -/
def classicMap : List Nat := [mapWord 0x2210 1 32, mapWord 0x2210 3 16, mapWord 0x2210 4 16]

/-- TPDO 9 has its classic mapping. -/
def Dev.classicDrive (s : Dev) : Bool := s.od? 0x2210 6 = 0 && s.fld (F.CANX_CFG_MODE 1) = 2

/-- Objects of the records, images, presence and load. -/
def Dev.readAdmin (s : Dev) (idx sub : Nat) : Option Nat :=
  match idx, sub with
  | 0x1A08, 0 => if s.classicDrive then some 3 else none
  | 0x1A08, n => if s.classicDrive then some (classicMap.getD (n - 1) 0) else none
  | 0x2700, 2 => some s.pendCrc
  | 0x2700, 3 => some s.activeCrc
  | 0x270F, 1 => some (s.rd R.XCMP_A_STATE).toNat
  | 0x270F, 2 => some (s.rd R.XCMP_B_STATE).toNat
  | 0x2800, 1 => some s.nv.nextN
  | 0x2800, 2 => some (s.rd R.EVR_LOST).toNat
  | 0x2800, 3 => some (s.rd R.EVR_SUPPTOT).toNat
  | 0x2804, n => some (s.counter (n - 1))
  | 0x2900, 1 => some s.nv.safeSlot
  | 0x2900, 2 => some (s.imgVersion s.nv.safeSlot)
  | 0x2900, 3 => some s.nv.appSlot
  | 0x2900, 4 => some s.appVersion
  | 0x2900, 5 => some s.appLevel
  | 0x2900, 6 => some (s.fld F.BOOT_STATUS_UNLISTED)
  | 0x2901, 2 => some (s.fld F.BOOT_STATUS_HOSTATE)
  | 0x2903, 1 => some s.level
  | 0x2903, 2 => some s.sincePress
  | 0x2022, 1 => some (s.rd R.ANA_LOAD).toNat
  | 0x2022, 2 => some (s.rd R.ANA_LOADSTAT).toNat
  | _, _ => none

/-- CiA 417 objects of the lift (R323): what their sources show; the oldest call that waits for firmware. (PRESUMED, log 52) -/
def Dev.readLift (s : Dev) (idx sub : Nat) : Option Nat :=
  match idx, sub with
  | 0x6030, 0 => some (s.rd R.POSX_FUSE_POS).toNat
  | 0x6031, 0 => some (s.rd R.POSX_FUSE_SPEED).toNat
  | 0x6032, 0 => some (s.rd R.PGEN_STATUS).toNat
  | 0x6033, 0 => some (s.ode.calls.headD 0)
  | 0x6301, u => some (s.rd (R.DOOR_MSTAT (u - 1))).toNat
  | 0x6302, u => some (s.rd (R.DOOR_POS (u - 1))).toNat
  | 0x6383, 0 => some (s.rd R.POSX_FUSE_POS).toNat
  | 0x6388, 0 => some (s.rd R.POSX_FUSE_STATUS).toNat
  | 0x6390, 0 => some (s.rd R.POSX_FUSE_SPEED).toNat
  | 0x6400, 0 => some (s.rd R.ANA_LOAD).toNat
  | 0x6401, 0 => some (s.rd R.ANA_LOADSTAT).toNat
  | _, _ => none

/-- Objects of ODE itself, for the reading client. (PRESUMED, log 51) -/
def Dev.readCom (s : Dev) (c : Client) (idx sub : Nat) : Option Nat :=
  match idx, sub with
  | 0x1001, 0 => some s.errorRegister
  | 0x1003, 0 => some s.errHist.length
  | 0x1003, n => some (s.errHist.getD (n - 1) 0)
  | 0x1018, 3 => some Config.revisionLetter.toNat
  | 0x1018, 4 => some (Config.serialNumber.toNat % 1000000000)
  | 0x2F00, 2 => some (s.fenceOf c)
  | 0x2F10, n => some (s.pendingPort 0 n)
  | 0x2F11, n => some (s.pendingPort 1 n)
  | _, _ => none

/-- The applied value of an entry as the client reads it. -/
def Dev.entryValue (s : Dev) (c : Client) (i sub : Nat) : Nat :=
  let idx := s.liftIdx i
  let dyn : Option Nat :=
    if mapArray idx ∧ sub = 0 then some s.landings
    else match idx / 256 with
      | 0x10 => s.readCom c idx sub
      | 0x2F => s.readCom c idx sub
      | 0x21 => s.readMotion idx sub
      | 0x22 => s.readMotion idx sub
      | 0x25 => s.readMotion idx sub
      | 0x23 => s.readDoor (idx / 16 % 16) (idx % 16) sub
      | 0x24 => s.readRing idx sub
      | 0x26 => s.readIo idx sub
      | 0x60 => s.readLift idx sub
      | 0x63 => s.readLift idx sub
      | 0x64 => s.readLift idx sub
      | _ => s.readAdmin idx sub
  dyn.getD (s.od? idx sub)

/-- The bytes of an entry as the client reads them. -/
def Dev.entryBytes (s : Dev) (c : Client) (r : OdRow) (idx sub : Nat) : List Byte :=
  match r.ty with
  | .str => if idx = 0x1008 then nameBytes else Config.versionText s.appVersion
  | .dom => s.ode.dom
  | t => leBytes t.len (s.entryValue c idx sub)

/-- A read by a client: the abort code, or 0 and the bytes (R324, R325). (DEDUCED, log 50) -/
def Dev.odRead (s : Dev) (c : Client) (idx sub : Nat) : Nat × List Byte :=
  match entryRow (s.liftIdx idx) sub with
  | some r => if r.acc = .wo then (0x06010001, []) else (0, s.entryBytes c r idx sub)
  | none => if indexKnown (s.liftIdx idx) then (0x06090011, []) else (0x06020000, [])

/-! ## What a store keeps (R329) -/

/-- A writable entry of level 0 or 1 that a store keeps. -/
def stores (idx sub : Nat) : Bool :=
  match odRow? idx sub with
  | some r => r.acc == .rw && decide (r.level ≤ 1) && idx != 0x1010 && idx != 0x1011 && idx != 0x2F10 && idx != 0x2F11 && r.ty != .dom
  | none => false

/-- The entries that registers hold: index and sub-indexes. -/
def heldByRegs : List (Nat × Nat) :=
  [(0x2400, 1), (0x2400, 4), (0x2604, 2), (0x2607, 1)] ++ ((upTo 192).map fun i => (0x2401, i + 1)) ++ ((upTo 52).map fun i => (0x2600, i + 1)) ++
    ((upTo 52).map fun i => (0x2601, i + 1))

/-- The entries of level 0 or 1 as applied. -/
def Dev.storeList (s : Dev) : List (Nat × Nat) :=
  (heldByRegs.map fun e => (odKey e.1 e.2, s.entryValue (.loc 0) e.1 e.2)) ++ s.od.filter fun (e : Nat × Nat) => stores (e.1 / 256) (e.1 % 256)

/-! ## Learned values and maps (R77, R176, R309) -/

/-- The registers that hold a door's learned friction and masses. -/
def learnedRegs (d : Nat) : List Nat := ((upTo 64).map fun i => R.DOOR_FRIC d i) ++ ((upTo 128).map fun i => R.DOOR_MASSL d i)

/-- The learned values of both doors: the stroke, the bins and the masses that are not zero. -/
def Dev.learnedNow (s : Dev) : List (Nat × Nat) :=
  ([odKey 0x2300 1, odKey 0x2310 1].map fun k => (k, s.od? (k / 256) (k % 256))) ++
    ((learnedRegs 0 ++ learnedRegs 1).map fun a => (a, (s.rd a).toNat)).filter fun (e : Nat × Nat) => e.2 != 0

/-- Put stored learned values back (R179). -/
def Dev.learnedPut (s : Dev) (l : List (Nat × Nat)) : Dev :=
  let s1 := l.foldl (fun (d : Dev) (e : Nat × Nat) => if e.1 < 0x1000000 then d.odPut (e.1 / 256) (e.1 % 256) e.2 else d.wrN e.1 e.2) s
  let f (d : Dev) (u : Nat) : Dev := if d.od? (0x2300 + 16 * u) 1 = 0 then d else d.setFlag (F.DOOR_MSTAT_LEARNED u) true
  f (f s1 0) 1

/-- Put stored I/O maps back. -/
def Dev.ioMapsPut (s : Dev) (l : List (Nat × Nat)) : Dev :=
  l.foldl (fun (d : Dev) (e : Nat × Nat) =>
    if e.1 / 256 = 0x2602 then d.setFld (F.IO24_INCFG_PAD (e.1 % 256 - 1)) e.2 else d.setFld (F.IO24_OUTMAP_PAD (e.1 % 256 - 1)) e.2) s

end Sys2Proof.Machine
end

