-- ==== Sys2Proof/Machine/Handover.lean ====
section
/-! DEFINITION. The live handover of the application image (R401 to R403). -/

namespace Sys2Proof.Machine

def Dev.setBoot (s : Dev) (x : BootSt) : Dev := { s with boot := x }
def Dev.hoState (s : Dev) : Nat := s.fld F.BOOT_STATUS_HOSTATE
def Dev.hoSet (s : Dev) (n : Nat) : Dev := s.setFld F.BOOT_STATUS_HOSTATE n

/-- The quarantine of a handover ends; that of an unlisted combination stays (R398). -/
def Dev.quarEnd (s : Dev) : Dev := s.setFlag F.BOOT_STATUS_QUAR (s.flag F.BOOT_STATUS_UNLISTED)

/-- HOCMD = 1: the image verified in the inactive slot becomes the candidate. A slot without a valid image loads nothing. (DEDUCED, log 104) -/
def Dev.hoLoad (s : Dev) (m : Master) : Dev :=
  let i := s.openSlot 2
  if m = 1 ∧ (s.hoState = 0 ∨ s.hoState = 6) ∧ s.boot.todo = 0 ∧ s.recovery = false ∧ s.imgValid i then
    (s.setBoot { s.boot with cand := some i }).hoSet 1
  else s

/-- The candidate reports ready: HOSTATE 2, or 6 where the LEVEL of its image is not listed (0xA006, reason 2). -/
def Dev.hoReady (s : Dev) : Dev :=
  match s.boot.cand with
  | some i =>
    if s.hoState = 1 then
      if s.levelListed (s.imgLevel i) then s.hoSet 2
      else ((s.setBoot { s.boot with cand := none }).hoSet 6).log 0xA006 (s.imgVersion i) 2 0
    else s
  | none => s

/-- HOCMD = 2: the module waits for a quiet point. -/
def Dev.hoRequest (s : Dev) (m : Master) : Dev := if m = 1 ∧ s.hoState = 2 then s.hoSet 3 else s

/-- HOCMD = 3 discards the candidate. -/
def Dev.hoDiscard (s : Dev) (m : Master) : Dev :=
  if m = 1 ∧ (s.hoState = 2 ∨ s.hoState = 3) then (s.setBoot { s.boot with cand := none }).hoSet 0 else s

/-- A write to BOOT.HOCMD or 0x2901:01. -/
def Dev.hoCmd (s : Dev) (m : Master) (op : Nat) : Dev :=
  match op with
  | 1 => s.hoLoad m
  | 2 => s.hoRequest m
  | 3 => s.hoDiscard m
  | _ => s

/-- Tick q: the quiet point holds, both channels are in RUN and BID evaluates nothing. -/
def Dev.hoStart (s : Dev) : Dev :=
  if s.hoState = 3 ∧ s.quietPoint ∧ s.bothRun ∧ s.bid.eval.isNone then
    ((s.setBoot { s.boot with hoTick := s.tick }).hoSet 4).setFlag F.BOOT_STATUS_QUAR true
  else s

/-- Tick q + 1: the snapshot, after the staged writes. (DESIGN CHOICE, log 105) -/
def Dev.hoSnapshot (s : Dev) : Dev :=
  if s.hoState = 4 ∧ s.tick = s.boot.hoTick + 1 then s.setBoot { s.boot with snap := s.od, snapDom := s.ode.dom } else s

/-- Tick q + 2: the candidate is the application. -/
def Dev.hoAuthority (s : Dev) : Dev :=
  if s.hoState = 4 ∧ s.boot.hoTick + 2 ≤ s.tick then (s.setBoot { s.boot with hoAt := s.tick * tickCyc }).hoSet 5 else s

/-- The confirm window 0x2901:03 is open. -/
def Dev.hoWindow (s : Dev) : Bool := decide (s.now < s.boot.hoAt + s.od? 0x2901 3 * msCyc)

/-- A confirmed image raises the minimum SECVER of its kind (R395). -/
def Dev.secRaise (s : Dev) (i : Nat) : Dev :=
  let k := slotKind i - 1
  { s with nv := { s.nv with minSec := s.nv.minSec.set! k (max (s.nv.minSec.toList.getD k 0) (s.imgSec i)) } }

/-- The active application slot takes a value. -/
def Dev.putAppSlot (s : Dev) (n : Nat) : Dev := { s with nv := { s.nv with appSlot := n } }.setFld F.BOOT_STATUS_APPSLOT n

/-- BOOT.CONFIRM within the window: the new slot is the active one, 0xA005. -/
def Dev.hoConfirm (s : Dev) (val : Word) : Dev :=
  match s.boot.cand with
  | some i =>
    if s.hoState = 5 ∧ bitN val.toNat 0 ∧ s.hoWindow then
      let old := s.appVersion
      let s1 : Dev := (s.putAppSlot (i - 2)).setBoot { s.boot with cand := none, app := true, snap := [], snapDom := [] }
      (((s1.secRaise i).quarEnd).hoSet 0).log 0xA005 old (s.imgVersion i) (s.boot.hoTick % 4294967296)
    else s
  | none => s

/-- No CONFIRM within the window, or a fatal error of the new image: the old one resumes with the state it had left, 0xA006. (DESIGN CHOICE, log 105) -/
def Dev.hoRevert (s : Dev) (fatal : Bool) : Dev :=
  match s.boot.cand with
  | some i =>
    if s.hoState = 5 ∧ (fatal ∨ !s.hoWindow) then
      let s1 : Dev := s.setBoot { s.boot with cand := none, snap := [], snapDom := [] }
      let s2 : Dev := { s1 with ode := { s1.ode with dom := s.boot.snapDom } }
      ((s2.quarEnd).hoSet 6).log 0xA006 (s.imgVersion i) (b2n fatal) 0
    else s
  | none => s

end Sys2Proof.Machine
end

