-- ==== Sys2Proof/Machine/Backup.lean ====
section
/-! DEFINITION. Car backups (R408, R409): the image that a car publishes, its chunks on the group, and what a car keeps. The spec
lists what a backup holds and gives its body no layout (assumption 42). -/

namespace Sys2Proof.Machine

/-! ## The body -/

/-- A counted list of keys and values, 4 and 8 bytes each. (DESIGN CHOICE, log 42) -/
def packPairs (l : List (Nat × Nat)) : List Byte := leBytes 4 l.length ++ (l.map fun (e : Nat × Nat) => leBytes 4 e.1 ++ leBytes 8 e.2).flatten

def unpackGo : Nat → List Byte → List (Nat × Nat)
  | 0, _ => []
  | n + 1, l => if l.length < 12 then [] else (hdr l 0 4, hdr l 4 8) :: unpackGo n (l.drop 12)

/-- The list, and what follows it. -/
def unpackPairs (l : List Byte) : List (Nat × Nat) × List Byte :=
  let n := hdr l 0 4
  (unpackGo (min n l.length) (l.drop 4), l.drop (4 + 12 * n))

/-- What a backup holds. -/
structure BackupBody where
  inst    : Nat
  car     : Nat
  serial  : Nat
  entries : List (Nat × Nat)
  ioMaps  : List (Nat × Nat)
  learned : List (Nat × Nat)
  map     : List Int
  set     : List Byte

/-- (DESIGN CHOICE, log 42) -/
def Dev.backupBody (s : Dev) : List Byte :=
  leBytes 4 (s.od? 0x2904 6) ++ leBytes 4 s.car ++ leBytes 8 Config.serialNumber.toNat ++ packPairs s.storeList ++ packPairs s.ioMapsNow ++
    packPairs s.learnedNow ++ leBytes 4 s.nv.amap.length ++ storedMap s.nv.amap ++ storedSet s.nv.aset

/-- (DESIGN CHOICE, log 42) -/
def parseBackup (l : List Byte) : BackupBody :=
  let e := unpackPairs (l.drop 16)
  let i := unpackPairs e.2
  let d := unpackPairs i.2
  let n := hdr d.2 0 4
  { inst := hdr l 0 4, car := hdr l 4 4, serial := hdr l 8 8, entries := e.1, ioMaps := i.1, learned := d.1,
    map := parseMap (min n 134) (d.2.drop 4), set := d.2.drop (4 + 4 * n) }

/-! ## Publishing (R408) -/

/-- Free bytes: what the spec leaves open in a backup's header (version, SECVER, key slot and signature). -/
def Dev.drawBytes (s : Dev) : Nat → List Byte × Dev
  | 0 => ([], s)
  | n + 1 =>
    let r := s.drawWord
    let t := r.2.drawBytes n
    (leBytes 4 r.1.toNat ++ t.1, t.2)

/-- The KIND 3 image of the car. -/
def Dev.backupImage (s : Dev) : List Byte × Dev :=
  let b := s.backupBody
  let v := s.drawBytes 3
  let sig := v.2.drawBytes 16
  let key := 1 + hdr v.1 8 1 % 4
  let h := leBytes 4 0x474D4946 ++ [3, 1, 0, 0] ++ v.1.take 8 ++ leBytes 4 b.length ++ leBytes 1 key ++ [0, 0, 0] ++ sha256 b ++ List.replicate 8 0 ++ sig.1 ++
    List.replicate 128 0
  (h ++ b, sig.2)

/-- A new backup is to be sent; a car whose installation ID is 0 sends none. (DEDUCED, log 104) -/
def Dev.publish (s : Dev) : Dev :=
  if s.od? 0x2904 6 = 0 then s
  else
    let r := s.backupImage
    let d : Dev := { r.2 with nv := { r.2.nv with bkGen := (r.2.nv.bkGen + 1) % 4294967296, bkDue := false } }
    d.setBoot { d.boot with bkOut := r.1, bkNext := 0 }

/-- The number of the present ring cycle. -/
def Dev.cycleNo (s : Dev) : Nat := s.tick / 8

/-- The next chunk leaves, at most one per ring cycle: c1 bit 0 FIRST, bit 1 FINAL. -/
def Dev.chunkSend (s : Dev) : Dev :=
  let b := s.boot
  if b.bkOut.isEmpty ∨ s.cycleNo < b.bkCycle then s
  else
    let rest := b.bkOut.drop 14
    let fl := b2n (b.bkNext == 0) + 2 * b2n rest.isEmpty
    let c := [by8 s.car, by8 fl] ++ leBytes 4 s.nv.bkGen ++ leBytes 2 b.bkNext ++ (b.bkOut.take 14 ++ List.replicate 14 0).take 14
    (s.setBoot { b with bkOut := rest, bkNext := b.bkNext + 1, bkCycle := s.cycleNo + 1 }).bidSend 0x50 22 c

/-! ## Receiving (R408, R409) -/

/-- A whole KIND 3 image: its fault under R395, if any. -/
def Dev.backupFault (s : Dev) (img : List Byte) : Option Nat :=
  headerFault (s.keysFor 3) (img.take 256) ((img.drop 256).take (hdr img 16 4)) 3 (s.nv.minSec.toList.getD 2 0)

def bodyOf (img : List Byte) : BackupBody := parseBackup ((img.drop 256).take (hdr img 16 4))

/-- The newest valid backup of a car of this installation is kept, and 0xA021 logged with its source. -/
def Dev.backupKeep (s : Dev) (img : List Byte) (gen src : Nat) : Dev :=
  let b := bodyOf img
  { s with nv := { s.nv with backups := alSet s.nv.backups b.car img } }.log 0xA021 b.car gen src

/-- The adoption state 0x2904:02. -/
def Dev.adoptState (s : Dev) (n : Nat) : Dev := s.odPut 0x2904 2 n

/-- A backup is complete. One that an adoption waits for and that is invalid or of another identity fails the adoption. -/
def Dev.backupDone (s : Dev) (img : List Byte) (gen src : Nat) : Dev :=
  let b := bodyOf img
  let ok := (s.backupFault img).isNone
  let s1 := if ok && b.inst == s.od? 0x2904 6 && b.inst != 0 then s.backupKeep img gen src else s
  match s.boot.want with
  | some (i, c) => if ok && b.inst == i && b.car == c then s1 else (s1.setBoot { s1.boot with want := none }).adoptState 4
  | none => s1

def rxPut (l : List BackupRx) (x : BackupRx) : List BackupRx := (l.filter fun y => y.car != x.car) ++ [x]

/-- A BACKUP chunk: it continues its sender's backup, or starts one. (DESIGN CHOICE, log 43; DEDUCED, log 44) -/
def Dev.onBackup (s : Dev) (c : List Byte) : Dev :=
  s.bidTake 0x50 22 c fun s =>
    if s.od? 0x2904 6 = 0 then s
    else
      let who := c8 c 0
      let idx := c16 c 6
      let gen := c32 c 2
      let s0 := if s.boot.want.isSome then s.adoptState 2 else s
      let old : Option (List Byte) :=
        if idx = 0 then some [] else (s0.boot.rx.find? fun x => x.car == who && x.gen == gen && x.next == idx).map (·.body)
      match old with
      | some b =>
        let body := b ++ (c.drop 8).take 14
        let x : BackupRx := { car := who, gen := gen, next := idx + 1, body := body }
        if bitN (c8 c 1) 1 then (s0.setBoot { s0.boot with rx := s0.boot.rx.filter fun y => y.car != who }).backupDone body gen 0
        else s0.setBoot { s0.boot with rx := rxPut s0.boot.rx x }
      | none => s0

/-- BACKUP_REQ: this car sends the backup it holds where no other car of the group with a lower number, which keeps the same
backups, is present. -/
def Dev.onBackupReq (s : Dev) (c : List Byte) : Dev :=
  if c.length ≠ 6 ∨ c8 c 0 ≠ 0 then s.log 0x400A (c8 c 0) 0x51 c.length
  else
    let want := c8 c 1
    let lower := (upTo 16).any fun i => s.inGroup i && decide (i < s.car) && i != want
    match s.nv.backups.find? fun (e : Nat × List Byte) => e.1 == want with
    | some (_, img) =>
      if (bodyOf img).inst = c32 c 2 ∧ c32 c 2 ≠ 0 ∧ lower = false then
        let d : Dev := { s with nv := { s.nv with bkGen := (s.nv.bkGen + 1) % 4294967296 } }
        d.setBoot { d.boot with bkOut := img, bkNext := 0 }
      else s
    | none => s

/-- 0x2904:01: the module asks for the backup of a car and takes its installation ID. -/
def Dev.adopt (s : Dev) (inst car : Nat) : Dev :=
  let s1 := ((s.odPut 0x2904 6 inst).setBoot { s.boot with want := some (inst, car) }).adoptState 1
  s1.bidSend 0x51 6 ([0, by8 car] ++ leBytes 4 inst)

/-- A group message of the machine slot: MSGTYPE, LEN and 22 content bytes (R196, R220); an unknown MSGTYPE or a wrong LEN is
discarded with 0x400A. -/
def Dev.groupMessage (s : Dev) (msg : List Byte) : Dev :=
  let typ := c8 msg 0
  let c := (msg.drop 2).take (c8 msg 1)
  match typ with
  | 0x41 => s.bidTake 0x41 20 c fun d => d.onAnnounce c
  | 0x42 => s.bidTake 0x42 15 c fun d => d.onBid c
  | 0x43 => s.bidOrder (.award c)
  | 0x44 => s.bidTake 0x44 6 c fun d => d.onHeartbeat c
  | 0x45 => s.bidOrder (.groupRelease c)
  | 0x46 => s.bidOrder (.groupServed c)
  | 0x47 => s.bidTake 0x47 5 c fun d => d.onAccept c
  | 0x50 => s.onBackup c
  | 0x51 => s.onBackupReq c
  | _ => s.log 0x400A (c8 msg 2) typ (c8 msg 1)

/-- The group messages that the ring's last cycle brought (R184, R220). -/
def Dev.groupSlots (s : Dev) : Dev := s.bid.slotIn.foldl Dev.groupMessage (s.setBid { s.bid with slotIn := [] })

end Sys2Proof.Machine
end

