-- ==== Sys2Proof/Machine/Apply.lean ====
section
/-! DEFINITION. What an applied dictionary write does (R326): the lane of an entry, and the effect on the block behind it. -/

namespace Sys2Proof.Machine

/-- The client kind of R411 and R336: 0 SDO, 1 PDO, 2 service port, 3 local port. -/
def clientKind : Client → Nat
  | .sdo _ _ => 0
  | .pdo _ => 1
  | .session _ => 2
  | .loc _ => 3

/-- The source master of an event that a client's write causes: the local master, else the hardware. -/
def clientSrc : Client → Nat
  | .loc m => m.val
  | _ => 0

/-- The lane of an entry: the block number of R357 of the block behind it, 12 for the entries held in ODE itself (R326). -/
def laneOf (idx sub : Nat) : Nat :=
  match idx / 256 with
  | 0x20 => 23
  | 0x21 => 3
  | 0x22 => 4
  | 0x23 => if idx < 0x2310 then 6 else 7
  | 0x24 => 8
  | 0x25 => 9
  | 0x26 => 13
  | 0x28 => 19
  | 0x29 => 26
  | 0x63 => 5 + sub
  | _ => 12

/-- The lanes in ascending number. -/
def laneList : List Nat := [3, 4, 6, 7, 8, 9, 12, 13, 19, 23, 26]

/-- A block refuses a write at application (R326). -/
def Dev.applyRefused (s : Dev) (idx sub : Nat) : Dev := s.log 0x5012 (odKey idx sub) (laneOf idx sub) 0

/-! ## Effects by block -/

/-- A load calibration step waits for the next slow tick; one written while the car moves is refused (R435). (DESIGN CHOICE, log 112) -/
def Dev.calibrate (s : Dev) (step : Nat) : Dev :=
  if s.atRest then { s with ana := { s.ana with step := step } }
  else (s.odPut 0x2021 3 3).log 0x1402 3 (w32 s.load) 0

/-- The learning command 0x2107:01 and the verification command 0x2904:03. A start while the conditions of step 1 (R78) do not hold
is refused at application with event 0x5012. (DESIGN CHOICE, log 127) -/
def Dev.learnCommand (s : Dev) (idx sub v : Nat) : Dev :=
  if v = 0 then s.learnAbort
  else if s.learnMay then
    let s1 := s.learnStart (idx = 0x2904)
    if idx = 0x2904 then (s1.odPut 0x2904 3 1).odPut 0x2904 4 (if s1.cmpl.learn.leg = 0 then 3 else 1) else s1
  else s.applyRefused idx sub

/-- PGEN's command through the dictionary: CMD below, TARGET above (R96). -/
def Dev.pgenEntry (s : Dev) (m : Master) (v : Nat) : Dev :=
  s.setPg { s.pgen with pend := some { m := m, word := BitVec.ofNat 32 v, target := BitVec.ofNat 32 (v / 4294967296) } }

/-- A door's command through the dictionary: MOVE below, MTGT above (R160). -/
def Dev.doorEntry (s : Dev) (m : Master) (d : Fin 2) (v : Nat) : Dev :=
  s.setMo d fun t => { t with pend := some { m := m, word := BitVec.ofNat 32 v, tgt := BitVec.ofNat 32 (v / 4294967296) } }

/-- Enumeration and address assignment (R203), refused for want of presence (reason 1) or for the state (reason 2). -/
def Dev.enumEntry (s : Dev) (c : Client) (idx sub : Nat) (assign : Option Word) : Dev :=
  match s.enumCheck with
  | none => s.enumStart assign
  | some r => s.logBy (clientSrc c) 0xA011 r (odKey idx sub) (clientKind c)

/-- The door behind an index of 0x23. -/
def doorOfIdx (idx : Nat) : Fin 2 := if idx < 0x2310 then 0 else 1

/-- Objects of the doors. -/
def Dev.applyDoor (s : Dev) (m : Master) (idx sub v : Nat) : Dev :=
  let d := doorOfIdx idx
  match idx % 16 with
  | 4 => s.doorEntry m d v
  | 6 => s.wrN (R.DOOR_FRIC d.val (sub - 1)) v
  | 7 => (s.setFld (F.DOOR_MASSL_MASS d.val (sub - 1)) (v % 65536)).setFlag (F.DOOR_MASSL_LEARNED d.val (sub - 1)) (bitN v 31)
  | _ => s.odPut idx sub v

/-- Objects of LRING. -/
def Dev.applyRing (s : Dev) (c : Client) (idx sub v : Nat) : Dev :=
  match idx, sub with
  | 0x2400, 1 => if v = 1 then s.ringEnable else s.ringDisable
  | 0x2400, 4 => s.setFld F.LRING_CTRL_DUALFORCE v
  | 0x2401, n => s.setFld { addr := R.LRING_CLASS ((n - 1) / 4), hi := 8 * ((n - 1) % 4) + 7, lo := 8 * ((n - 1) % 4) } v
  | 0x2403, 1 => if v = 1 then s.enumEntry c idx sub none else s
  | 0x2403, 3 => s.enumEntry c idx sub (some (BitVec.ofNat 32 v))
  | _, _ => s.odPut idx sub v

/-- A change of the I/O map through the dictionary: it persists (R309). -/
def Dev.remapEntry (s : Dev) (out : Bool) (idx sub v : Nat) : Dev :=
  if s.padFree out (sub - 1) v then s.remap out (sub - 1) v
  else s.applyRefused idx sub

/-- Objects of IO24. -/
def Dev.applyIo (s : Dev) (idx sub v : Nat) : Dev :=
  match idx, sub with
  | 0x2600, n => s.setFld (F.IO24_INCFG_TYPE (n - 1)) v
  | 0x2601, n => s.setFld (F.IO24_INCFG_FILT (n - 1)) v
  | 0x2602, _ => s.remapEntry false idx sub v
  | 0x2603, _ => s.remapEntry true idx sub v
  | 0x2604, 2 => s.wrN R.IO24_OUTCMD v
  | 0x2605, 1 => s.clearFault (BitVec.ofNat 32 v)
  | 0x2607, 1 => (upTo 36).foldl (fun (d : Dev) p => d.setFlag (F.IO24_OUTSTAT_OLDEN p) (bitN v p)) s
  | _, _ => s.odPut idx sub v

/-- Objects of the shaft map, PGEN and the drive. -/
def Dev.applyMotion (s : Dev) (m : Master) (idx sub v : Nat) : Dev :=
  match idx, sub with
  | 0x2105, 4 => s.mapAccept (BitVec.ofNat 32 v)
  | 0x2107, 1 => s.learnCommand idx sub v
  | 0x2205, 1 => s.pgenEntry m v
  | 0x2211, 1 => (s.odPut idx sub v).driveStatus
  | _, _ => s.odPut idx sub v

/-- A rate override changes (R378): every bucket whose B or r changes keeps its tokens, clipped, and restarts its refill. -/
def Dev.putRate (s : Dev) (sub v : Nat) : Dev :=
  let s1 := s.odPut 0x2801 sub v
  let one (b : Bucket) : Bucket :=
    let o := s.rate b.code
    let n := s1.rate b.code
    if o = n then b
    else
      let c := if o.2 = 0 then b else b.refill o.1 o.2 s.now
      { c with tokens := min c.tokens n.1, t0 := s.now, added := 0 }
  { s1 with evr := { s1.evr with buckets := s1.evr.buckets.map one } }

/-- Objects of the safety set's administration, the records, the images and the adoption. -/
def Dev.applyAdmin (s : Dev) (m : Master) (idx sub v : Nat) : Dev :=
  match idx, sub with
  | 0x2021, 1 => s.calibrate v
  | 0x2700, 1 => s.paramConfirm (BitVec.ofNat 32 v)
  | 0x2700, 6 => if v = 1 then s.paramDiscard else s
  | 0x2801, n => s.putRate n v
  | 0x2802, 1 => s.freezeReq m (BitVec.ofNat 32 v)
  | 0x2901, 1 => s.hoCmd 1 v  -- as HOCMD, whichever client writes it (DEDUCED, log 104)
  | 0x2904, 1 => s.adopt (v % 4294967296) (v / 4294967296 % 256)
  | 0x2904, 3 => s.learnCommand idx sub v
  | _, _ => s.odPut idx sub v

/-- The store of R329: every entry of level 0 or 1 as applied goes to flash. -/
def Dev.storeAll (s : Dev) : Dev := { s with nv := { s.nv with stored := s.storeList } }.flashUsed.publish

/-- The last fence applied of a client (R328). -/
def Dev.putFence (s : Dev) (c : Client) (v : Nat) : Dev :=
  { s with ode := { s.ode with fences := (s.ode.fences.filter fun (e : Client × Nat) => e.1 != c) ++ [(c, v)] } }

/-- Objects that ODE itself holds. (PRESUMED, log 51) -/
def Dev.applyCom (s : Dev) (c : Client) (idx sub v : Nat) : Dev :=
  match idx, sub with
  | 0x1010, 1 => s.storeAll
  | 0x1011, 1 => { s with nv := { s.nv with restore := true } }
  | 0x2F00, 1 => s.putFence c v
  | 0x2F01, 1 => if v ≠ 1 then s else if s.commitOk then s.portCommit else s.applyRefused idx sub
  | _, _ => s.odPut idx sub v

/-- CiA 417 command objects (R323): a door unit's control word is its door's MOVE; a car call and a destination call go into the
call queue of the firmware. (PRESUMED, log 52) -/
def Dev.applyLift (s : Dev) (m : Master) (idx sub v : Nat) : Dev :=
  match idx, sub with
  | 0x6300, 1 => s.doorEntry m 0 v
  | 0x6300, 2 => s.doorEntry m 1 v
  | 0x6033, _ => { s with ode := { s.ode with calls := s.ode.calls ++ [v] } }
  | 0x6040, _ => { s with ode := { s.ode with calls := s.ode.calls ++ [v] } }
  | _, _ => s.odPut idx sub v

/-- A write takes effect on the block behind its entry; an entry of the safety set goes into the pending copy (R261). ODE is
master 7 towards the blocks. -/
def Dev.applyEntry (s : Dev) (c : Client) (i sub : Nat) (bytes : List Byte) : Dev :=
  let v := ofLe bytes
  let idx := s.liftIdx i
  if inSet idx sub then s.pendPut idx sub v
  else if idx = 0x2906 then { s with ode := { s.ode with dom := bytes } }
  else match idx / 256 with
    | 0x10 => s.applyCom c idx sub v
    | 0x2F => s.applyCom c idx sub v
    | 0x21 => s.applyMotion 7 idx sub v
    | 0x22 => s.applyMotion 7 idx sub v
    | 0x23 => s.applyDoor 7 idx sub v
    | 0x24 => s.applyRing c idx sub v
    | 0x26 => s.applyIo idx sub v
    | 0x60 => s.applyLift 7 idx sub v
    | 0x63 => s.applyLift 7 idx sub v
    | 0xFF => s
    | _ => s.applyAdmin 7 idx sub v

end Sys2Proof.Machine
end

