-- ==== Sys2Proof/Machine/Ode.lean ====
section
/-! DEFINITION. ODE (R318, R319, R324 to R328, R333 to R337): the checks of a write at acceptance, staging, the lanes and the fences
at the sample point, SDO and PDO traffic, and the local port. -/

namespace Sys2Proof.Machine

/-! ## The checks of a write (R324) -/

/-- The value of a type's bytes as a number. -/
def odNumber (ty : OdTy) (v : Nat) : Int :=
  match ty with
  | .i n => sx (8 * n) v
  | .bool => v
  | .u _ => v
  | .str => v
  | .dom => v

/-- The drive mapping objects are read-only while the reference travels on CANX[1] (R320); 0x2906:01 is for masters 1 to 4. -/
def Dev.accessBars (s : Dev) (c : Client) (idx : Nat) : Bool :=
  ((idx = 0x1608 || idx = 0x1A08) && s.od? 0x2210 6 = 0) ||
    (idx = 0x2906 && (match c with | .loc m => decide (m.val < 1) || decide (4 < m.val) | _ => true))

/-- The length does not match the type: 0x06070010, or 0x06070012 for a domain beyond 1 MiB. -/
def lengthFault (r : OdRow) (n : Nat) : Nat :=
  match r.ty with
  | .dom => if 1048576 < n then 0x06070012 else 0
  | .str => 0x06070010
  | t => if n = t.len then 0 else 0x06070010

/-- The presence level is too low (R324), or the service port writes at level 0 (R333). -/
def Dev.presenceBars (s : Dev) (c : Client) (r : OdRow) : Bool :=
  decide (s.level < r.level) || (clientKind c = 2 && s.level = 0)

/-- The stated range, and sets of values. -/
def rangeBars (r : OdRow) (sub v : Nat) : Bool :=
  let x := odNumber r.ty v
  let inside := match r.ty with | .dom => true | _ => (decide (r.rmin ≤ x) && decide (x ≤ r.rmax)) || (r.orFF && v == 0xFF)
  !inside || (r.idx = 0x2210 && sub = 5 && !(v = 1 || v = 2 || v = 4 || v = 8)) ||
    (r.idx = 0x2403 && sub = 3 && !(decide (1 ≤ v / 256 % 256) && decide (v / 256 % 256 ≤ 192))) ||
    (r.idx = 0x2801 && v % 65536 != 0 && v / 65536 % 256 = 0)

/-- The checks stated for single entries (R315, R320, R321, R329, R337, R409): an abort code, or 0. -/
def Dev.statedFault (s : Dev) (c : Client) (idx sub v : Nat) : Nat :=
  match idx, sub with
  | 0x1010, 1 => if v = 0x65766173 then 0 else 0x08000020
  | 0x1011, 1 => if v = 0x64616F6C then 0 else 0x08000020
  | 0x2210, 5 => if s.od? 0x2210 6 = 0 && !frameFits (s.portNow 1) v then 0x08000022 else 0
  | 0x2210, 6 => if v = 0 && !frameFits (s.portNow 1) (s.od? 0x2210 5) then 0x08000022 else 0
  | 0x2211, _ => if s.od? 0x2210 6 = 1 && clientKind c ≠ 3 then 0x08000020 else 0
  | 0x2500, 2 => if v = 0 && (s.portNow 0).mode ≠ 1 then 0x08000022 else 0
  | 0x2904, 1 => if v % 4294967296 = 0 then 0x08000022 else 0
  | 0x2F01, 1 => if v = 1 && !s.commitOk then 0x08000022 else 0
  | _, _ => 0

/-- The first failing check of a write: its abort code, and whether it failed for want of presence; 0 when it passes. (DEDUCED, log 50) -/
def Dev.writeCheck (s : Dev) (c : Client) (idx sub : Nat) (bytes : List Byte) : Nat × Bool :=
  match entryRow (s.liftIdx idx) sub with
  | none => (if indexKnown (s.liftIdx idx) then 0x06090011 else 0x06020000, false)
  | some r =>
    let v := ofLe bytes
    if (r.acc = .ro ∨ r.acc = .cst) ∨ s.accessBars c idx then (0x06010002, false)
    else if lengthFault r bytes.length ≠ 0 then (lengthFault r bytes.length, false)
    else if s.presenceBars c r then (0x08000020, true)
    else if rangeBars r sub v then (0x06090030, false)
    else if s.statedFault c idx sub v ≠ 0 then (s.statedFault c idx sub v, false)
    else if 256 ≤ s.ode.staged.length then (0x05040005, false)
    else (0, false)

/-- A refused write logs 0x5010, and for want of presence 0xA011 as well. -/
def Dev.refuseWrite (s : Dev) (c : Client) (idx sub : Nat) (r : Nat × Bool) : Dev :=
  let s1 := if r.2 then s.logBy (clientSrc c) 0xA011 1 (odKey idx sub) (clientKind c) else s
  s1.logBy (clientSrc c) 0x5010 (clientKind c) (odKey idx sub) r.1

/-! ## Staging (R326, R327) -/

/-- The order of clients whose writes were accepted at one instant (R327). -/
def clientRank : Client → Nat
  | .sdo p _ => p.val
  | .pdo n => n.val / 8
  | .session _ => 2
  | .loc m => 3 + m.val

/-- A write goes behind every write that applies no later than it. -/
def stageInto (w : Staged) : List Staged → List Staged
  | [] => [w]
  | x :: t => if w.at_ < x.at_ ∨ (w.at_ = x.at_ ∧ clientRank w.client < clientRank x.client) then w :: x :: t else x :: stageInto w t

/-- The staged writes, counted in STATUS.STAGED. -/
def Dev.putStaged (s : Dev) (l : List Staged) : Dev :=
  { s with ode := { s.ode with staged := l } }.setFld F.ODE_STATUS_STAGED l.length

/-- An accepted write to an entry of level 1 or 2 goes into the presence log (R406). -/
def Dev.presEntry (s : Dev) (c : Client) (idx sub : Nat) (bytes : List Byte) : Dev :=
  match entryRow (s.liftIdx idx) sub with
  | some r => if 1 ≤ r.level then s.presLog (clientKind c) (odKey idx sub) (s.entryValue c idx sub) (ofLe bytes) else s
  | none => s

/-- A write at acceptance: the abort code of its answer, and the module after it. -/
def Dev.acceptWrite (s : Dev) (c : Client) (idx sub : Nat) (bytes : List Byte) : Nat × Dev :=
  let r := s.writeCheck c idx sub bytes
  if r.1 ≠ 0 then (r.1, s.refuseWrite c idx sub r)
  else
    let s1 := s.presEntry c idx sub bytes
    (0, s1.putStaged (stageInto { client := c, at_ := s.now, idx := idx, sub := sub, bytes := bytes } s1.ode.staged))

/-- A write whose row names its one entry: it is accepted and staged as every write is, and its effect comes at the sample point of
the next tick (R38, R326). (DEDUCED, log 46) -/
def Dev.direct (s : Dev) (c : Client) (idx sub : Nat) (bytes : List Byte) : Dev := (s.acceptWrite c idx sub bytes).2

/-! ## The sample point (R326, R328) -/

/-- The work of one sample point: applied and carried writes by lane, the writes kept, the clients with a kept write, and those
held behind a fence. -/
structure LaneRun where
  dev   : Dev
  done  : List (Nat × Nat) := []
  more  : List (Nat × Nat) := []
  kept  : List Staged := []
  late  : List Client := []
  held  : List Client := []

/-- The write is a fence. -/
def Staged.fence (w : Staged) : Bool := w.idx = 0x2F00 && w.sub = 1

/-- One staged write in its turn. A fence takes no place in its lane. (DEDUCED, log 49) -/
def LaneRun.step (x : LaneRun) (w : Staged) : LaneRun :=
  let l := laneOf (x.dev.liftIdx w.idx) w.sub
  if x.held.contains w.client then { x with kept := x.kept ++ [w], late := w.client :: x.late }
  else if w.fence then
    if x.late.contains w.client then { x with kept := x.kept ++ [w], held := w.client :: x.held }
    else { x with dev := x.dev.applyEntry w.client w.idx w.sub w.bytes }
  else if 16 ≤ alGet x.done l 0 then
    { x with kept := x.kept ++ [w], late := w.client :: x.late, more := alSet x.more l (alGet x.more l 0 + 1) }
  else { x with dev := x.dev.applyEntry w.client w.idx w.sub w.bytes, done := alSet x.done l (alGet x.done l 0 + 1) }

/-- Every lane applies up to 16 writes in acceptance order; 0x5011 for each lane that carries over. -/
def Dev.applyStaged (s : Dev) : Dev :=
  let x := s.ode.staged.foldl LaneRun.step { dev := s }
  let s1 := (x.dev.putStaged x.kept).setFlag F.ODE_STATUS_CARRY (!x.more.isEmpty)
  laneList.foldl (fun (d : Dev) l => if alGet x.more l 0 = 0 then d else d.log 0x5011 l (alGet x.more l 0) 0) s1

/-- The first staged write of a client, where it is a fence. -/
def firstFence (c : Client) : List Staged → Option (Staged × List Staged)
  | [] => none
  | x :: t =>
    if x.client = c then (if x.fence then some (x, t) else none)
    else (firstFence c t).map fun (r : Staged × List Staged) => (r.1, x :: r.2)

/-- FENCE_APPLIED: every earlier write of the client has been applied. -/
def Dev.fenceApplied (s : Dev) (c : Client) : Dev :=
  match firstFence c s.ode.staged with
  | some r => (s.putStaged r.2).applyEntry c r.1.idx r.1.sub r.1.bytes
  | none => s

/-! ## SDO and USDO (R318) -/

/-- The server of a port answers. -/
def Dev.sdoAnswer (s : Dev) (p : Fin 2) (a : SdoAnswer) : Dev := s.setCan p { s.can[p] with sdo := some a }

/-- A download completes. -/
def Dev.sdoDownload (s : Dev) (p : Fin 2) (node idx sub : Nat) (bytes : List Byte) : Dev :=
  if s.portTalks p then
    let r := s.acceptWrite (.sdo p node) idx sub bytes
    r.2.sdoAnswer p { node := node, idx := idx, sub := sub, abort := r.1, data := [] }
  else s

/-- A DOMAIN entry is read through the local port only. -/
def Dev.readFor (s : Dev) (c : Client) (idx sub : Nat) : Nat × List Byte :=
  if idx = 0x2906 ∧ sub = 1 ∧ s.accessBars c idx then (0x06010001, []) else s.odRead c idx sub

/-- An upload. -/
def Dev.sdoUpload (s : Dev) (p : Fin 2) (node idx sub : Nat) : Dev :=
  if s.portTalks p then
    let r := s.readFor (.sdo p node) idx sub
    s.sdoAnswer p { node := node, idx := idx, sub := sub, abort := r.1, data := r.2 }
  else s

/-! ## PDOs (R319, R320) -/

/-- The port of a PDO. -/
def pdoPort (n : Fin 16) : Fin 2 := if n.val < 8 then 0 else 1

/-- The COB-ID of a PDO; bit 31 set turns it off. -/
def Dev.cobId (s : Dev) (base : Nat) (n : Fin 16) : Nat := s.od? (base + n.val) 1
def Dev.pdoOn (s : Dev) (base : Nat) (n : Fin 16) : Bool :=
  !bitN (s.cobId base n) 31 && s.portTalks (pdoPort n) && s.fld (F.CANX_STATUS_NMT (pdoPort n).val) = 2

/-- The mapping of a PDO: index, sub-index and length in bytes of each entry. -/
def Dev.pdoMap (s : Dev) (base : Nat) (n : Fin 16) : List (Nat × Nat × Nat) :=
  let v (sub : Nat) : Nat := s.entryValue (.pdo n) (base + n.val) sub
  ((upTo (min 64 (v 0))).map fun i => let w := v (i + 1); (w / 65536, w / 256 % 256, w % 256 / 8)).filter fun (e : Nat × Nat × Nat) => e.1 != 0

/-- The mapped entries with their bytes of a frame. -/
def cutFrame : List (Nat × Nat × Nat) → List Byte → List (Nat × Nat × List Byte)
  | [], _ => []
  | e :: t, b => (e.1, e.2.1, b.take e.2.2) :: cutFrame t (b.drop e.2.2)

/-- Accept the entries of an RPDO in order; the first failure drops the whole frame. -/
def pdoAccept (c : Client) (orig : Dev) : List (Nat × Nat × List Byte) → Dev → Dev
  | [], s => s
  | e :: t, s =>
    let r := s.writeCheck c e.1 e.2.1 e.2.2
    if r.1 ≠ 0 then orig.refuseWrite c e.1 e.2.1 r else pdoAccept c orig t (s.acceptWrite c e.1 e.2.1 e.2.2).2

/-- A PDO arrives. -/
def Dev.rpdo (s : Dev) (n : Fin 16) (bytes : List Byte) : Dev :=
  if s.pdoOn 0x1400 n then pdoAccept (.pdo n) s (cutFrame (s.pdoMap 0x1600 n) bytes) s else s

/-- The data of a TPDO: the applied values of its entries. -/
def Dev.tpdoData (s : Dev) (n : Fin 16) : List Byte :=
  ((s.pdoMap 0x1A00 n).map fun e => ((s.odRead (.pdo n) e.1 e.2.1).2 ++ List.replicate e.2.2 0).take e.2.2).flatten

/-- The inhibit time (in 100 µs) has passed; the event timer (in ms) has run out. -/
def Dev.tpdoFree (s : Dev) (n : Fin 16) : Bool :=
  match (s.ode.tpdo[n]).at_ with
  | some t => decide (t + s.od? (0x1800 + n.val) 3 * 100 * usCyc ≤ s.now)
  | none => true
def Dev.tpdoTimer (s : Dev) (n : Fin 16) : Bool :=
  match (s.ode.tpdo[n]).at_ with
  | some t => s.od? (0x1800 + n.val) 5 != 0 && decide (t + s.od? (0x1800 + n.val) 5 * msCyc ≤ s.now)
  | none => true

/-- A TPDO is sent on a change of a mapped entry or on its event timer. TPDO 9 is released as R107 states. -/
def Dev.tpdoSend (s : Dev) (n : Fin 16) : Dev :=
  let d := s.tpdoData n
  if n ≠ 8 ∧ s.pdoOn 0x1800 n ∧ s.tpdoFree n ∧ (d ≠ (s.ode.tpdo[n]).last ∨ s.tpdoTimer n) then
    let s1 := s.sendFrame (pdoPort n) (s.cobId 0x1800 n % 2048) d
    { s1 with ode := { s1.ode with tpdo := s1.ode.tpdo.set n { last := d, at_ := some s.now } } }
  else s

/-! ## The local port (R334, R335) -/

/-- The bytes in DATA of a window, and bytes put there. -/
def Dev.windowBytes (s : Dev) (m n : Nat) : List Byte := (((upTo 16).map fun i => leBytes 4 (s.rd (R.ODE_L_DATA m i)).toNat).flatten).take n
def Dev.putWindow (s : Dev) (m : Nat) (l : List Byte) : Dev :=
  (upTo ((l.length + 3) / 4)).foldl (fun (d : Dev) i => d.wrN (R.ODE_L_DATA m i) (ofLe ((l.drop (4 * i)).take 4))) s

/-- The request ends: ABORT, and the length returned. -/
def Dev.localEnd (s : Dev) (m abort len : Nat) : Dev := (s.wrN (R.ODE_L_ABORT m) abort).wrN (R.ODE_L_RES m) (len * 256)

/-- The segments that a master has collected. -/
def Dev.putSegs (s : Dev) (m : Nat) (l : List Byte) : Dev := { s with ode := { s.ode with segs := s.ode.segs.set! (m - 1) l } }

/-- A segment that is refused: the collected segments go. -/
def Dev.segRefused (s : Dev) (c : Client) (m idx sub abort : Nat) : Dev :=
  ((s.putSegs m []).refuseWrite c idx sub (abort, false)).localEnd m abort 0

/-- A segment of a DOMAIN value (R335). -/
def Dev.segWrite (s : Dev) (c : Client) (m idx sub len : Nat) : Dev :=
  let off := s.fld (F.ODE_L_OFS_OFFSET m)
  let have_ := if off = 0 then [] else s.ode.segs.toList.getD (m - 1) []
  if len = 0 ∨ 64 < len ∨ have_.length ≠ off then s.segRefused c m idx sub 0x06070010
  else if 1048576 < off + len then s.segRefused c m idx sub 0x06070012
  else
    let l := have_ ++ s.windowBytes m len
    if s.flag (F.ODE_L_OFS_END m) then
      let r := (s.putSegs m []).acceptWrite c idx sub l
      r.2.localEnd m r.1 0
    else (s.putSegs m l).localEnd m 0 0

/-- A segment of the applied DOMAIN value. -/
def Dev.segRead (s : Dev) (m len : Nat) : Dev :=
  let l := (s.ode.dom.drop (s.fld (F.ODE_L_OFS_OFFSET m))).take (min 64 len)
  ((s.putWindow m l).wrN (R.ODE_L_DLEN m) s.ode.dom.length).localEnd m 0 l.length

/-- Master m, 1 to 5, writes L[m].REQ. (DESIGN CHOICE, log 48) -/
def Dev.localRequest (s : Dev) (m : Master) (val : Word) : Dev :=
  let k := m.val
  if k < 1 ∨ 5 < k ∨ s.flag (F.ODE_L_RES_BUSY k) then s
  else
    let s1 := s.wr (R.ODE_L_REQ k) val
    let idx := fldOf val (F.ODE_L_REQ_INDEX k)
    let sub := fldOf val (F.ODE_L_REQ_SUB k)
    let len := fldOf val (F.ODE_L_REQ_LEN k)
    let c : Client := .loc m
    let dom : Bool := match entryRow (s1.liftIdx idx) sub with | some r => r.ty == .dom | none => false
    if bitN val.toNat 31 then
      if dom then s1.segWrite c k idx sub len
      else
        let r := s1.acceptWrite c idx sub (s1.windowBytes k len)
        r.2.localEnd k r.1 0
    else
      let r := s1.readFor c idx sub
      if r.1 ≠ 0 then s1.localEnd k r.1 0
      else if dom then s1.segRead k len
      else (s1.putWindow k (r.2.take 64)).localEnd k 0 (min 64 r.2.length)

end Sys2Proof.Machine
end

