-- ==== Sys2Proof/Machine/Boot.lean ====
section
/-! DEFINITION. The boot (R263, R271, R289, R309, R352, R385, R390, R397 to R399, R420): memory, image slots, the runtimes with
their stored data, the combination, the latched faults, a fatal dump, and the ports; and the application of a car backup (R409). -/

namespace Sys2Proof.Machine

/-! ## Step 1: repair and memory (R341, R352) -/

/-- One scheduled repair after another; whether the memory's repair succeeds is open. (DESIGN CHOICE, log 103) -/
def Dev.pprRun (s : Dev) : List Word → Dev
  | [] => s
  | w :: t =>
    let bank := w.toNat / 33554432 % 16
    let r := s.drawBool
    let res := if r.1 then 1 else 4
    let s1 : Dev := { r.2 with nv := { r.2.nv with ppr := t, pprUsed := alSet r.2.nv.pprUsed bank (alGet r.2.nv.pprUsed bank 0 + 1) } }
    let s2 := ((s1.setFld F.MEMC_PPR_STATUS_RESULT res).setFld F.MEMC_PPR_STATUS_LEFT (s1.spareLeft bank)).setFlag F.MEMC_IRQ_REPAIR true
    (s2.log 0x7032 bank (w.toNat % 33554432) res).pprRun t

/-- The safety SRAM is written by the boot ROM; the shared SRAM and the DRAM are poisoned. -/
def bootMemory (p : Dev × MemSys) : Dev × MemSys :=
  let m := (p.2.poison 0x18000000 0x183FFFFF).poison 0x800000000 0x9FFFFFFFF
  (p.1.pprRun p.1.nv.ppr, { m with safeInit := true })

/-- The stored settings return to their defaults where a restore is due (R329). (DESIGN CHOICE, log 53) -/
def Dev.bootRestore (s : Dev) : Dev :=
  if s.nv.restore then { s with nv := { s.nv with stored := [], ports := [], restore := false } } else s

/-! ## Steps 2 and 4: the image slots (R397) -/

/-- The slot of a pair that becomes active: the active one if it is valid, else the other if that is valid. -/
def Dev.slotPick (s : Dev) (base active : Nat) : Option Nat :=
  if s.imgValid (base + active) then some active else if s.imgValid (base + 1 - active) then some (1 - active) else none

/-- The safety slots; without a valid one the module is in recovery (R399). -/
def Dev.bootSafety (s : Dev) : Dev :=
  match s.slotPick 0 s.nv.safeSlot with
  | some k =>
    let s1 : Dev := { s with nv := { s.nv with safeSlot := k } }
    let s2 := (s1.setFld F.BOOT_STATUS_SAFESLOT k).setFlag F.BOOT_STATUS_RECOVERY false
    if k = s.nv.safeSlot then s2 else s2.log 0xA003 1 k 0
  | none => s.setFlag F.BOOT_STATUS_RECOVERY true

/-- The application slots; the active image starts. -/
def Dev.bootApp (s : Dev) : Dev :=
  match s.slotPick 2 s.nv.appSlot with
  | some k =>
    let s1 := (s.putAppSlot k).setBoot { s.boot with app := true }
    if k = s.nv.appSlot then s1 else s1.log 0xA003 2 k 0
  | none => s.setBoot { s.boot with app := false }

/-- The combination (R398): unlisted, or without an application, it is quarantined and cause 0x43 holds on Marten. -/
def Dev.bootCombination (s : Dev) : Dev :=
  let unlisted := !(s.boot.app && s.levelListed s.appLevel)
  let s1 := (s.setFlag F.BOOT_STATUS_UNLISTED unlisted).setFlag F.BOOT_STATUS_QUAR unlisted
  if unlisted then (s1.addCause .a 0x43).logE 0xA004 (s.rd R.BOOT_VERS).toNat s.appLevel (s.imgVersion s.nv.safeSlot) else s1

/-! ## Step 3: the stored data (R77, R179, R261, R264, R309) -/

/-- The dictionary entries that the accepted map holds (R265), with the working map and the flags; the stored working map is taken
where its own CRC-32 is good (R77). -/
def mapEntries (m wm : List Int) (wc : Option Nat) (wf : List Nat) : List (Nat × Nat) :=
  if m.isEmpty then []
  else
    let n := (m.getD 0 0).toNat
    let a := (m.drop 1).take n
    let w := if wm.length = n ∧ wc = some (crc32 (storedMap wm)) then wm else a
    let r (i : Nat) : Nat := w32 (m.getD (n + i) 0)
    let row (idx : Nat) (l : List Nat) : List (Nat × Nat) := l.mapIdx fun i x => (odKey idx (i + 1), x)
    [(odKey 0x2105 1, n), (odKey 0x2104 1, r 1), (odKey 0x2104 2, r 2), (odKey 0x2104 3, r 3), (odKey 0x2104 4, r 4), (odKey 0x2108 1, r 5)] ++
      row 0x2102 (a.map w32) ++ row 0x2101 (w.map w32) ++ row 0x2106 wf

/-- The entries that BOOT and the records keep by themselves. -/
def Dev.bootCounts (s : Dev) : List (Nat × Nat) :=
  [(odKey 0x2700 4, if s.nv.commissioned then 0 else 3), (odKey 0x2700 5, s.nv.setVer), (odKey 0x2105 2, s.nv.mapVer), (odKey 0x2802 2, s.nv.lastWin)]

/-- The applied dictionary after a boot: the active set, the map, the counts, the stored entries. (DESIGN CHOICE, log 54) -/
def Dev.bootDict (s : Dev) : Dev :=
  let m := s.nv.amap
  let n := (m.getD 0 0).toNat
  { s with od := s.nv.aset ++ mapEntries m s.nv.wmap s.nv.wmapCrc s.nv.wflags ++ s.bootCounts ++ s.nv.stored, odPend := [],
           cmpl := { s.cmpl with accLow := m.getD (n + 1) 0, accHigh := m.getD (n + 4) 0 } }

/-- Entries that registers hold go there; the ring starts as 0x2400:01 says. (DEDUCED, log 102) -/
def Dev.bootRegs (s : Dev) : Dev :=
  let held := s.nv.stored.filter fun (e : Nat × Nat) => heldByRegs.contains (e.1 / 256, e.1 % 256) && e.1 != odKey 0x2400 1
  let s1 := held.foldl (fun (d : Dev) (e : Nat × Nat) => d.applyEntry (.loc 0) (e.1 / 256) (e.1 % 256) (leBytes 8 e.2)) s
  if alGet s.nv.stored (odKey 0x2400 1) 1 = 1 then s1.ringEnable else s1

/-- Marten loads the lock masks and the tolerances and locks LRING and XCMP (R206, R271). (DEDUCED, log 101) -/
def Dev.bootLocks (s : Dev) : Dev :=
  let word (i : Nat) : Nat := (upTo 4).foldl (fun a k => a + 2 ^ (8 * k) * s.par 0x2402 (4 * i + k + 1)) 0
  let s1 := (upTo 48).foldl (fun (d : Dev) i => d.wrN (R.LRING_LMASK i) (word i)) s
  let s2 := ((s1.wrN R.XCMP_TOL_POS (s.par 0x2701 1)).setFld F.XCMP_TOL_SPD_ABS (s.par 0x2701 2)).setFld F.XCMP_TOL_SPD_REL (s.par 0x2701 3)
  (s2.setFlag F.LRING_LOCK_LOCK true).setFlag F.XCMP_LOCK_LOCK true

/-- The latched output faults are again in the registers, with their cause (R289). -/
def Dev.bootFaults (s : Dev) : Dev :=
  s.nv.outFaults.foldl (fun (d : Dev) (e : Nat × Nat) => (d.setFld (outFaultFld e.1) e.2).addAs .a 0x24 3) s

/-- The latched LOCKOUT causes and input test faults are again on a channel (R385). -/
def Dev.bootLatches (s : Dev) (c : Chan) : Dev :=
  let s1 := s.nv.lockouts.foldl (fun (d : Dev) k => d.addAs c k 3) s
  let b := !(s.nv.outFaults.filter fun (e : Nat × Nat) => e.2 != 7).isEmpty
  let s2 := if b then s1.addAs c 0x24 3 else s1
  s2.setCh c { s2.ch c with tpf := s2.nv.tpf }

/-- Marten's part: the checks of the set and the map, the latches; then the channel leaves its boot HOLD. -/
def Dev.bootMarten (s : Dev) : Dev :=
  let s1 := (s.badgerCrcs.setCheck.mapCheck.bootFaults).bootLatches .a
  s1.setCh .a { s1.chA with booting := false }

/-- Badger's part, after a reset that it took part in. -/
def Dev.bootBadger (s : Dev) : Dev :=
  let s1 := s.bootLatches .b
  s1.setCh .b { s1.chB with booting := false }

/-- What is stored beside the dictionary: the learned values, the I/O maps, the identity, the reference zeros (R176, R309, R385). -/
def Dev.bootStored (s : Dev) : Dev :=
  let s1 := (s.learnedPut s.nv.learned).ioMapsPut s.nv.ioMaps
  let s2 := (s1.setFlag F.BOOT_STATUS_ADOPTED s.nv.adopted.isSome).setFlag F.BOOT_STATUS_VERIFYPEND s.nv.verify
  { s2 with ana := { s2.ana with refs := #v[s2.odI 0x2020 4, s2.odI 0x2020 5] } }

/-! ## Step 5: a fatal dump (R390) -/

/-- Bytes of memory, where every one of them holds data. -/
def rawMem (m : MemSys) (a n : Nat) : Option (List Byte) := (upTo n).mapM fun i => m.byte (a + i)

/-- The header of a dump in the fatal dump region, if it is valid. -/
def dumpHeader (m : MemSys) : Option (List Byte) :=
  match rawMem m dumpRegion 64 with
  | some h => if ofLe ((h.drop 60).take 4) = 0x0A5AF00D then some h else none
  | none => none

/-- The dump goes to the next slot and its header is cleared, 0x0046; an open dump without a header is lost, 0x0047. -/
def bootDump (p : Dev × MemSys) : Dev × MemSys :=
  let s := p.1
  match dumpHeader p.2 with
  | some h =>
    let master := ofLe (h.take 1)
    let len := min (ofLe ((h.drop 16).take 4)) 0x10000000
    let d : StoredDump := { master := master, bytes := (rawMem p.2 dumpRegion len).getD [] }
    let k := s.nv.dumpNext % 8
    let s1 : Dev := { s with nv := { s.nv with dumps := s.nv.dumps.set! k (some d), dumpNext := (k + 1) % 8, dumpOpen := none } }
    (s1.flashUsed.log 0x0046 k (w32 (quo len 1048576)) master, p.2.putBytes dumpRegion (List.replicate 64 0))
  | none =>
    match s.nv.dumpOpen with
    | some m => ({ s with nv := { s.nv with dumpOpen := none } }.log 0x0047 m 0 0, p.2)
    | none => p

/-! ## The boot -/

/-- What BOOT and ETH show of the part (R338, R398). (DEDUCED, log 102) -/
def Dev.bootIdent (s : Dev) : Dev :=
  let v := Config.siliconRevision.toNat + 256 * Config.badgerRevision.toNat + 65536 * Config.romRevision.toNat
  ((s.wrN R.BOOT_VERS v).wrN R.ETH_MAC_LO (Config.macAddress.toNat % 4294967296)).wrN R.ETH_MAC_HI (Config.macAddress.toNat / 4294967296)

/-- The module counts a power-on (R387). (DESIGN CHOICE, log 94) -/
def Dev.countPower (s : Dev) : Dev :=
  if s.boot.por then (s.tally 0 1).setBoot { s.boot with por := false } else s

/-- Steps 1 and 2. A power-on count, the head of the event ring from Bear, and an archive that flash no longer takes (R353). (DEDUCED, log 100) -/
def bootFirst (p : Dev × MemSys) : Dev × MemSys :=
  let q := if p.1.boot.todo = 1 then bootMemory (p.1.bootRestore, p.2) else p
  let s := q.1.countPower.bootIdent
  let s1 := (s.putHead s.nv.nextN).setFlag F.EVR_STATUS_ARCHOFF (s.fld F.FLSH_HEALTH_PREEOL = 3)
  (s1.bootSafety, q.2)

/-- Steps 3 to 6, and a car backup that is due. (DEDUCED, log 100) -/
def bootRest (p : Dev × MemSys) : Dev × MemSys :=
  let first := p.1.boot.todo = 1
  let s := p.1.setBoot { p.1.boot with todo := 0, waits := false }
  let s1 := ((s.bootDict.bootRegs.bootLocks.bootStored).bootApp.bootCombination).bootMarten
  let s2 := if first then s1.bootBadger else s1
  let q := bootDump (s2, p.2)
  let s3 := (q.1.portRestart 0).portRestart 1
  (if s3.nv.bkDue then s3.publish else s3, q.2)

/-- Marten's boot after a SAFE reset: step 3 alone. -/
def Dev.bootAlone (s : Dev) : Dev :=
  let s1 := s.setBoot { s.boot with todo := 0 }
  (if s1.flag F.BOOT_STATUS_UNLISTED then s1.addCause .a 0x43 else s1).bootMarten

/-- BOOT: step 3 waits for the HOLD capacitor (R420, R421). (DEDUCED, log 100) -/
def boot (p : Dev × MemSys) : Dev × MemSys :=
  let b := p.1.boot
  if b.todo = 0 ∨ b.waits then p
  else if b.todo = 3 then (p.1.bootAlone, p.2)
  else
    let q := bootFirst p
    let s := q.1
    if s.recovery then (s.setBoot { s.boot with todo := 0 }, q.2)
    else if s.boot.holdOk then bootRest q
    else (s.setBoot { s.boot with waits := true }, q.2)

/-- HOLD reaches 16 V: the check of the capacitor, and a boot that waits for it goes on. (DEDUCED, log 100) -/
def holdCharged (p : Dev × MemSys) (ms mv : Nat) : Dev × MemSys :=
  if p.1.boot.holdOk then p
  else
    let s := p.1.holdCheck ms mv
    let s1 := s.setBoot { s.boot with holdOk := true }
    if s1.boot.waits then bootRest (s1, p.2) else (s1, p.2)

/-! ## A backup is applied (R409) -/

/-- The stored backup that an adoption waits for. -/
def Dev.backupFor (s : Dev) (inst car : Nat) : Option (List Byte) :=
  match s.nv.backups.find? fun (e : Nat × List Byte) => e.1 == car with
  | some e => if (s.backupFault e.2).isNone ∧ (bodyOf e.2).inst = inst ∧ (bodyOf e.2).car = car then some e.2 else none
  | none => none

/-- The entries of level 0 and 1 of a backup are applied. -/
def Dev.backupEntries (s : Dev) (l : List (Nat × Nat)) : Dev :=
  let ok := l.filter fun (e : Nat × Nat) => stores (e.1 / 256) (e.1 % 256)
  let held := ok.filter fun (e : Nat × Nat) => heldByRegs.contains (e.1 / 256, e.1 % 256)
  let rest := ok.filter fun (e : Nat × Nat) => !heldByRegs.contains (e.1 / 256, e.1 % 256)
  let s1 := rest.foldl (fun (d : Dev) (e : Nat × Nat) => d.odPut (e.1 / 256) (e.1 % 256) e.2) s
  held.foldl (fun (d : Dev) (e : Nat × Nat) => d.applyEntry (.loc 0) (e.1 / 256) (e.1 % 256) (leBytes 8 e.2)) s1

/-- The map of a backup becomes the candidate (R75). -/
def Dev.backupMap (s : Dev) (m : List Int) : Dev :=
  if m.isEmpty then s
  else
    let n := (m.getD 0 0).toNat
    let s1 := (upTo n).foldl (fun (d : Dev) i => d.odPut 0x2103 (i + 1) (w32 (m.getD (i + 1) 0))) (s.odPut 0x2105 1 n)
    let s2 := ((s1.odPut 0x2104 1 (w32 (m.getD (n + 1) 0))).odPut 0x2104 4 (w32 (m.getD (n + 4) 0))).odPut 0x2108 1 (w32 (m.getD (n + 5) 0))
    { s2 with cmpl := { s2.cmpl with candLow := m.getD (n + 2) 0, candHigh := m.getD (n + 3) 0, candOk := true } }

/-- The set of a backup is staged as pending (R261). -/
def Dev.backupSet (s : Dev) (l : List Byte) : Dev :=
  (parseSet setEntries l).foldl (fun (d : Dev) (e : Nat × Nat) => d.pendPut (e.1 / 256) (e.1 % 256) e.2) s

/-- The backup of the adopted identity is complete and valid: it is applied, and the verification is due. -/
def Dev.backupApplied (s : Dev) : Dev :=
  match s.boot.want with
  | some (i, c) =>
    match s.backupFor i c with
    | some img =>
      let b := bodyOf img
      let s1 := ((((s.backupEntries b.entries).ioMapsPut b.ioMaps).learnedPut b.learned).backupMap b.map).backupSet b.set
      let s2 : Dev := { s1 with nv := { s1.nv with adopted := some (i, c, b.serial), verify := true, ioMaps := s1.ioMapsNow, learned := s1.learnedNow,
                                                   stored := s1.storeList } }
      let s3 := ((s2.setBoot { s2.boot with want := none }).setFlag F.BOOT_STATUS_ADOPTED true).setFlag F.BOOT_STATUS_VERIFYPEND true
      (s3.adoptState 3).log 0xA020 i c (b.serial % 4294967296)
    | none => s
  | none => s

end Sys2Proof.Machine
end

