-- ==== Sys2Proof/Machine/Fsp.lean ====
section
/-! DEFINITION. The service port (R331 to R333, R380, R384, R390, R396, R399): sessions, and the requests of the Fimbimar service
protocol. A response repeats the request's header and adds the status and its data. -/

namespace Sys2Proof.Machine

/-! ## Sessions (R331) -/

def Dev.setSess (s : Dev) (i : Fin 4) (x : Option Session) : Dev :=
  let s1 : Dev := { s with ode := { s.ode with sess := s.ode.sess.set i x } }
  s1.setFld F.ETH_STATUS_SESS (s1.ode.sess.toList.filter Option.isSome).length

/-- A TCP connection arrives: it opens the first free session, and a fifth one is closed at once. -/
def Dev.sessionOpen (s : Dev) (ip : Word) : Dev :=
  if s.sout.pfail.isSome ∨ s.boot.todo ≠ 0 then s
  else
    match (List.finRange 4).find? fun i => (s.ode.sess[i]).isNone with
    | some i => (s.setSess i (some { ip := ip.toNat })).log 0x5040 1 ip.toNat i.val
    | none => s

/-- A session closes. -/
def Dev.sessionClose (s : Dev) (i : Fin 4) : Dev :=
  match s.ode.sess[i] with
  | some x => (s.setSess i none).log 0x5040 0 x.ip i.val
  | none => s

/-- The link of the service port. -/
def Dev.linkChange (s : Dev) (up full : Bool) : Dev :=
  (s.setFlag F.ETH_STATUS_LINK up).setFlag F.ETH_STATUS_FULL (up && full)

/-! ## Requests (R332) -/

/-- The response of a request: header, status, data. -/
def fspBytes (op tag idx sub status : Nat) (data : List Byte) : List Byte :=
  leBytes 2 (12 + data.length) ++ leBytes 1 op ++ leBytes 1 tag ++ leBytes 2 idx ++ leBytes 1 sub ++ [0] ++ leBytes 4 status ++ data

/-- The session answers. -/
def Dev.respond (s : Dev) (i : Fin 4) (op tag idx sub status : Nat) (data : List Byte) : Dev :=
  match s.ode.sess[i] with
  | some x => s.setSess i (some { x with resp := fspBytes op tag idx sub status data })
  | none => s

/-- A request reaches an open session. -/
def Dev.fspOpen (s : Dev) (i : Fin 4) : Bool := (s.ode.sess[i]).isSome && s.sout.pfail.isNone

/-- In recovery every request but OP 0x20 and reads of file 0xFFFF is refused (R399). (DESIGN CHOICE, log 56) -/
def Dev.fspRun (s : Dev) (i : Fin 4) (op tag idx sub : Nat) (f : Dev → Dev) : Dev :=
  if s.fspOpen i = false then s
  else if s.recovery then s.respond i op tag idx sub 0x08000022 []
  else f s

/-- OP 0x01. -/
def Dev.fspRead (s : Dev) (i : Fin 4) (tag idx sub : Nat) : Dev :=
  s.fspRun i 1 tag idx sub fun d =>
    let r := d.readFor (.session i) idx sub
    d.respond i 1 tag idx sub r.1 r.2

/-- OP 0x02. -/
def Dev.fspWrite (s : Dev) (i : Fin 4) (tag idx sub : Nat) (bytes : List Byte) : Dev :=
  s.fspRun i 2 tag idx sub fun d =>
    let r := d.acceptWrite (.session i) idx sub bytes
    r.2.respond i 2 tag idx sub r.1 []

/-- The entries of a batch: index, sub-index, length, value. -/
def batchEntries : Nat → List Byte → List (Nat × Nat × List Byte)
  | 0, _ => []
  | n + 1, l =>
    if l.isEmpty then []
    else
      let k := ofLe ((l.drop 3).take 1)
      (ofLe (l.take 2), ofLe ((l.drop 2).take 1), (l.drop 4).take k) :: batchEntries n (l.drop (4 + k))

/-- Accept the entries in order up to the first failure: the position and the code of it. (DEDUCED, log 55) -/
def batchAccept (c : Client) : Nat → List (Nat × Nat × List Byte) → Dev → Option (Nat × Nat) × Dev
  | _, [], s => (none, s)
  | k, e :: t, s =>
    let r := s.acceptWrite c e.1 e.2.1 e.2.2
    if r.1 ≠ 0 then (some (k, r.1), r.2) else batchAccept c (k + 1) t r.2

/-- OP 0x03. Positions count from 0. (DEDUCED, log 55) -/
def Dev.fspBatch (s : Dev) (i : Fin 4) (tag : Nat) (bytes : List Byte) : Dev :=
  s.fspRun i 3 tag 0 0 fun d =>
    let r := batchAccept (.session i) 0 (batchEntries bytes.length bytes) d
    match r.1 with
    | none => r.2.respond i 3 tag 0 0 0 []
    | some x => r.2.respond i 3 tag 0 0 x.2 (leBytes 2 x.1)

/-- The newest record number with the given low 32 bits that is not above the newest one (R380). -/
def Dev.recordFor (s : Dev) (low : Nat) : Option Nat :=
  if s.nv.nextN = 0 then none
  else
    let top := s.nv.nextN - 1
    let base := top / 4294967296 * 4294967296 + low % 4294967296
    if base ≤ top then some base else if 4294967296 ≤ base then some (base - 4294967296) else none

/-- A record for a reader: from the ring while it has not been overtaken, else from the archive. -/
def recordBytes (p : Dev × MemSys) (n : Nat) : Option (List Byte) × (Dev × MemSys) :=
  if p.1.nv.nextN ≤ n then (none, p)
  else
    let r := if p.1.nv.nextN ≤ n + 1048576 ∧ p.1.flag F.EVR_STATUS_EVREADY then ringRecord p n else (none, p)
    match r.1 with
    | some b => (some b, r.2)
    | none => ((p.1.nv.archive.find? fun (e : Nat × List Byte) => e.1 == n).map (·.2), r.2)

/-- Whole records from N on, up to the first one that is not there. (DESIGN CHOICE, log 56) -/
def recordRun : Nat → Nat → (Dev × MemSys) → List Byte × (Dev × MemSys)
  | 0, _, p => ([], p)
  | k + 1, n, p =>
    let r := recordBytes p n
    match r.1 with
    | some b => let t := recordRun k (n + 1) r.2; (b ++ t.1, t.2)
    | none => ([], r.2)

/-- OP 0x10: 1 to 64 records. -/
def fspEvents (p : Dev × MemSys) (i : Fin 4) (tag first cnt : Nat) : Dev × MemSys :=
  let s := p.1
  if s.fspOpen i = false then p
  else if s.recovery then (s.respond i 0x10 tag 0 0 0x08000022 [], p.2)
  else if cnt = 0 ∨ 64 < cnt then (s.respond i 0x10 tag 0 0 0x06090030 [], p.2)
  else
    match s.recordFor first with
    | some n => let r := recordRun cnt n p; (r.2.1.respond i 0x10 tag 0 0 0 r.1, r.2.2)
    | none => (s.respond i 0x10 tag 0 0 0 [], p.2)

/-- The bytes of a file from an offset, at most 4,096: a stored window, a dump, or Bear (R384, R385, R390). -/
def fileBytes (p : Dev × MemSys) (file off : Nat) : Option (List Byte) × (Dev × MemSys) :=
  let s := p.1
  if file = 0xFFFF then
    let r := mramBytes (0x20000000 + off) (min 4096 (0x400000 - off)) p
    (some r.1, r.2)
  else if 0xFF00 ≤ file ∧ file ≤ 0xFF07 then
    (((s.nv.dumps.toList.getD (file - 0xFF00) none).map fun d => (d.bytes.drop off).take 4096), p)
  else
    ((s.nv.winStore.find? fun w => w.win.num == file && !w.lost).map fun w => (w.bytes.drop off).take 4096, p)

/-- OP 0x11. A file that does not exist is answered like an index that does not. (DESIGN CHOICE, log 56) -/
def fspFile (p : Dev × MemSys) (i : Fin 4) (tag file off : Nat) : Dev × MemSys :=
  let s := p.1
  if s.fspOpen i = false then p
  else if s.recovery ∧ file ≠ 0xFFFF then (s.respond i 0x11 tag 0 0 0x08000022 [], p.2)
  else
    let r := fileBytes p file off
    match r.1 with
    | some b => (r.2.1.respond i 0x11 tag 0 0 0 b, r.2.2)
    | none => (r.2.1.respond i 0x11 tag 0 0 0x06020000 [], r.2.2)

/-! ## Image transfer (R396, R399) -/

def Dev.setImg (s : Dev) (i : Fin 4) (k : Option Nat) (bars : Nat) : Dev :=
  match s.ode.sess[i] with
  | some x => s.setSess i (some { x with img := k, bars := bars })
  | none => s

/-- OPEN: the inactive slot of the kind is erased. The transfer goes into the presence log here, once (R406; DESIGN CHOICE, log 57) -/
def Dev.imageOpen (s : Dev) (i : Fin 4) (tag kind : Nat) : Dev :=
  if s.fspOpen i = false then s
  else
    let st := s.openStatus kind
    if st ≠ 0 then
      let s1 := if st = 0x08000020 then s.log 0xA011 1 0 2 else s
      (s1.setImg i none st).respond i 0x20 tag 0 0 st []
    else
      ((((s.imageErase kind).presLog 2 0 0 kind).setImg i (some kind) st).respond i 0x20 tag 0 0 0 [])

/-- DATA: up to 4,092 bytes at an offset of the slot of 256 MiB (of the staging area of 64 KiB for a car backup). -/
def Dev.imageData (s : Dev) (i : Fin 4) (tag off : Nat) (bytes : List Byte) : Dev :=
  if s.fspOpen i = false then s
  else
    match s.ode.sess[i] with
    | some x =>
      match x.img with
      | some k =>
        if 4092 < bytes.length then s.respond i 0x20 tag 0 0 0x06070010 []
        else if (if k = 3 then 65536 else 268435456) < off + bytes.length then s.respond i 0x20 tag 0 0 0x06090030 []
        else (s.imagePut k off bytes).respond i 0x20 tag 0 0 0 []
      | none => s.respond i 0x20 tag 0 0 x.bars []
    | none => s

/-- A car backup that the service tool has transferred is judged like one from a peer (R409, source 1); an image names no
generation, so that of 0xA021 is open. (DESIGN CHOICE, log 43) -/
def Dev.imageBackup (s : Dev) : Dev :=
  let h := s.imgHeader 4
  let r := s.drawWord
  r.2.backupDone (h ++ s.imgBody 4 0 (hdr h 16 4)) r.1.toNat 1

/-- CLOSE: the slot is verified; in recovery a valid safety image is followed by a module reset. -/
def imageClose (p : Dev × MemSys) (i : Fin 4) (tag : Nat) : Dev × MemSys :=
  let s := p.1
  if s.fspOpen i = false then p
  else
    match s.ode.sess[i] with
    | some x =>
      match x.img with
      | some k =>
        let r := s.imageVerify k
        let s1 := (r.2.setImg i none 0x08000022).respond i 0x20 tag 0 0 r.1 []
        if r.1 = 0 ∧ k = 1 ∧ s.recovery then moduleReset (s1, p.2) 6
        else if k = 3 then (s1.imageBackup, p.2)
        else (s1, p.2)
      | none => (s.respond i 0x20 tag 0 0 x.bars [], p.2)
    | none => p

end Sys2Proof.Machine
end

