-- ==== Sys2Proof/Machine/Edge.lean ====
section
/-! DEFINITION. The on-site reset (R266, R277, R287, R288) with what an edge releases, activates, accepts or swaps (R78, R262, R265,
R400), and the fatal error path (R390). -/

namespace Sys2Proof.Machine

/-! ## The LOCKOUT release (R266, R277) -/

/-- Output x reads idle as expected: open, both nodes in their idle class, no current; an STO line off and LO. -/
def Dev.readsIdle (s : Dev) (x : Nat) : Bool :=
  if x < 4 then
    let c := (s.rd (R.SOUT_OUT_CURR x)).toNat
    s.bothOpen x && idleFault (s.fld (F.SOUT_OUT_STATE_HCLASS x)) (s.fld (F.SOUT_OUT_STATE_LCLASS x)) = 0 &&
      decide (c % 65536 < 20) && decide (c / 65536 < 20)
  else !s.sw (8 + (x - 4)) && s.fld (F.SOUT_STO_STATE_HCLASS (x - 4)) = 0

/-- Every output with a latched fault reads idle. -/
def Dev.faultsIdle (s : Dev) : Bool := (upTo 6).all fun x => s.outFaultCode x = 0 || s.readsIdle x

/-- The latched output faults clear. -/
def Dev.clearOutFaults (s : Dev) : Dev :=
  let s1 := (upTo 6).foldl (fun (d : Dev) x => d.setFld (outFaultFld x) 0) s
  { s1 with nv := { s1.nv with outFaults := [], lockouts := [], tpf := 0 } }

/-- The cross-comparison trip clears with the release of both channels (R243). -/
def Dev.clearTrip (s : Dev) : Dev := (s.setFlag F.XCMP_STATUS_TRIP false).setFld F.XCMP_TRIPCAUSE_ITEMS 0

/-- A channel in LOCKOUT that this edge releases. -/
def Dev.heldLockout (s : Dev) (c : Chan) : Bool := (s.ch c).state = 3

/-- Both channels are released at the same edge, or neither. (DEDUCED, log 84) -/
def Dev.edgeRelease (s : Dev) (level : Nat) : Dev :=
  let may (c : Chan) : Bool := !s.heldLockout c || s.mayRelease c level
  if (s.heldLockout .a || s.heldLockout .b) && may .a && may .b && s.faultsIdle then
    let s1 := s.clearOutFaults.clearTrip
    let s2 := if s.heldLockout .a then s1.release .a level else s1
    if s.heldLockout .b then s2.release .b level else s2
  else s

/-! ## The other effects of an edge -/

/-- The module swaps the safety slots (R400): presence level 2, armed, in inspection at standstill, the other image valid. (DEDUCED, log 84) -/
def Dev.swapDue (s : Dev) (level : Nat) : Bool :=
  level = 2 && s.od? 0x2901 4 = 1 && s.chA.insp && s.chA.still && s.imgValid (1 - s.nv.safeSlot)

/-- The swap is recorded in Bear, and the image's security version with it. -/
def Dev.safetySwap (s : Dev) : Dev :=
  let k := 1 - s.nv.safeSlot
  { s with nv := { s.nv with safeSlot := k } }.secRaise k

/-- A confirmed set becomes active at this edge (R262). (DEDUCED, log 84) -/
def Dev.activateDue (s : Dev) (level : Nat) : Bool := level = 2 && s.od? 0x2700 4 = 2 && s.chA.still && s.chB.still

/-- The candidate map is accepted (R78, R265), and a new backup is published (R408). -/
def Dev.edgeMap (s : Dev) (level : Nat) : Dev :=
  if level = 2 ∧ s.cmpl.acceptArmed then
    let ver := s.nv.mapVer
    let s1 := s.mapEdge
    if s1.nv.mapVer = ver then s1 else s1.badgerCrcs.mapCheck.publish
  else s

/-- The edge meets R287: both pads active for at least 0.1 s and less than 5 s, their ends less than 100 ms apart, and both
channels within 20 ms of each other. -/
def edgeValid (e : ResetEdge) : Bool :=
  let fine (d : Nat) : Bool := decide (40000000 ≤ d) && decide (d < 2000000000)
  fine e.dur0 && fine e.dur1 && decide (e.gap < 40000000) && decide (e.chans < 8000000)

/-- A valid edge: 0x8025 with the active time (of one of the two pads) and the level; then the release, the map, the set and the
safety image. (DESIGN CHOICE, log 86) -/
def resetEdge (p : Dev × MemSys) (e : ResetEdge) : Dev × MemSys :=
  let s := p.1
  if edgeValid e = false ∨ s.sout.ignore ∨ s.chA.booting ∨ s.chB.booting then p
  else
    let level := s.level
    let r := s.drawBool
    let ms := quo (if r.1 then e.dur0 else e.dur1) msCyc
    let s1 := ((r.2.satInc F.SOUT_RST_EDGES).setFlag F.SOUT_IRQ_RESET true).log 0x8025 (w32 ms) level 0
    let s2 := (s1.edgeRelease level).edgeMap level
    let act := s2.activateDue level
    let swap := s2.swapDue level
    let s3 := if act then s2.setActivate else s2
    let s4 := if swap then s3.safetySwap else s3
    if act || swap then moduleReset (s4, p.2) 6 else (s4, p.2)

/-! ## Faults of the pads (R288) -/

/-- Both pads are ignored until both have been inactive throughout 1 s. -/
def Dev.padsIgnored (s : Dev) (levels : Nat) (f : Fld) : Dev :=
  ((s.setSout { s.sout with ignore := true }).setFld F.SOUT_RST_LEVELS levels).setFlag f true

/-- A pad has been active for 5 s. (DEDUCED, log 87) -/
def Dev.stuckReset (s : Dev) (mask : Fin 4) : Dev :=
  if s.sout.ignore ∨ mask = 0 then s else (s.padsIgnored mask.val F.SOUT_RST_STUCK).log 0x8026 mask.val 0 0

/-- The pads have disagreed throughout 500 ms. (DEDUCED, log 87) -/
def Dev.resetDisagree (s : Dev) (levels : Fin 4) : Dev :=
  if s.sout.ignore ∨ levels = 0 ∨ levels = 3 then s else (s.padsIgnored levels.val F.SOUT_RST_DISAGREE).log 0x8027 levels.val 0 0

/-- Both pads have been inactive throughout 1 s. (DEDUCED, log 87) -/
def Dev.resetRearm (s : Dev) : Dev :=
  (((s.setSout { s.sout with ignore := false }).setFld F.SOUT_RST_LEVELS 0).setFlag F.SOUT_RST_STUCK false).setFlag F.SOUT_RST_DISAGREE false

/-! ## Fatal errors (R390) -/

/-- The header of a dump. -/
def dumpHead (m tick len : Nat) : List Byte :=
  leBytes 8 m ++ leBytes 8 tick ++ leBytes 4 len ++ List.replicate 40 0 ++ leBytes 4 0x0A5AF00D

/-- The dump goes to the region, which must have been filled (R374). (DESIGN CHOICE, log 99) -/
def dumpWrite (p : Dev × MemSys) (m : Nat) (dump : List Byte) : Dev × MemSys :=
  if p.1.flag F.EVR_STATUS_EVREADY then (p.1, p.2.putBytes dumpRegion ((dumpHead m p.1.tick (64 + dump.length) ++ dump).take 0x10000000)) else p

/-- A master's fatal handler: 0xF001 (the address is open), "dump open" in Bear, the dump, and the warm reset it requests. A
candidate image that fails before its CONFIRM is given up (R403). (DESIGN CHOICE, log 99) -/
def fatalError (p : Dev × MemSys) (m : Master) (code : Word) (dump : List Byte) : Dev × MemSys :=
  if m.val < 1 ∨ 5 < m.val ∨ p.1.boot.todo ≠ 0 then p
  else
    let r := p.1.drawWord
    let s := r.2.logBy m.val 0xF001 m.val code.toNat r.1.toNat
    let s1 : Dev := { s with nv := { s.nv with dumpOpen := some m.val } }
    let s2 := if m.val ≤ 4 then s1.hoRevert true else s1
    let q := dumpWrite (s2, p.2) m.val dump
    (q.1.logBy m.val 0x9031 1 m.val 0 |>.warmReset 3, q.2)

end Sys2Proof.Machine
end

