-- ==== Sys2Proof/Machine/Load.lean ====
section
/-! DEFINITION. ANA (R428, R433 to R437): the load measurement, its calibration and zero refresh, the lid, and the work of a slow
tick (R29, R77, R176, R309). -/

namespace Sys2Proof.Machine

/-! ## The car load (R433, R434) -/

/-- A quotient rounded to the nearest integer where the spec states no rule for ties (assumption 4). (DESIGN CHOICE, log 4) -/
def nearTie (x d : Int) : Int := if d ≠ 0 ∧ 2 * (x % d) = d then quo x d else ndiv x d

/-- Channel c is enabled; ZERO_c in nV/V, SPAN_c in g per µV/V. -/
def Dev.lcOn (s : Dev) (c : Nat) : Bool := bitN (s.od? 0x2020 1) c
def Dev.lcZero (s : Dev) (c : Nat) : Int := s.odI 0x2020 (4 + c)
def Dev.lcSpan (s : Dev) (c : Nat) : Int := s.od? 0x2020 (6 + c)
def Dev.lcSum (s : Dev) : Bool := s.od? 0x2020 2 = 0
def Dev.lcRatio (s : Dev) (c : Nat) : Int := s.rdI (R.ANA_LC_RATIO c)

/-- The channel load in milligrams: m_c × 1,000. -/
def Dev.lcLoad (s : Dev) (c : Nat) : Int := (s.lcRatio c - s.lcZero c) * s.lcSpan c

/-- The car load in kg, rounded with ties away from zero. -/
def Dev.carLoad (s : Dev) : Int :=
  let m (c : Nat) : Int := s.lcLoad c
  if s.lcSum then ndiv ((if s.lcOn 0 then m 0 else 0) + (if s.lcOn 1 then m 1 else 0)) 1000000 else ndiv (m 0 + m 1) 2000000

/-- Why an enabled channel is invalid: bit 0 excitation, bit 1 range, bit 2 span. -/
def Dev.lcBad (s : Dev) (c : Nat) : Nat :=
  if s.lcOn c = false then 0 else s.ana.conv.toList.getD c 0 + 4 * b2n (s.lcSpan c == 0)

/-- Redundant channels that are more than 0x2020:03 kg apart. -/
def Dev.lcApart (s : Dev) : Bool :=
  !s.lcSum && s.lcOn 0 && s.lcOn 1 && decide ((s.od? 0x2020 3 : Int) * 1000000 < |s.lcLoad 0 - s.lcLoad 1|)

/-- A change of a channel's validity. -/
def Dev.lcChange (s : Dev) (c : Nat) : Dev :=
  let was := s.ana.bad.toList.getD c 0
  let now := s.lcBad c
  let s1 : Dev := { s with ana := { s.ana with bad := s.ana.bad.set! c now } }
  if (was = 0) = (now = 0) then s1 else s1.log 0x1401 c (b2n (now != 0)) now

/-- LOAD and LOADSTAT are published. -/
def Dev.loadPublish (s : Dev) : Dev :=
  let s1 := (s.lcChange 0).lcChange 1
  let bad (c : Nat) : Bool := s1.lcBad c != 0
  let apart := s1.lcApart
  let some_ := s1.lcOn 0 || s1.lcOn 1
  let valid := some_ && !bad 0 && !bad 1 && (s1.lcSum || (s1.lcOn 0 && s1.lcOn 1 && !apart))
  let s2 := (s1.wrI R.ANA_LOAD (fitI 32 s1.carLoad)).setFlag F.ANA_LOADSTAT_VALID valid
  let s3 := (s2.setFld F.ANA_LOADSTAT_CHINV (b2n (bad 0) + 2 * b2n (bad 1))).setFlag F.ANA_LOADSTAT_DISAGREE apart
  let s4 : Dev := { s3 with ana := { s3.ana with disag := apart } }
  if apart ∧ s.ana.disag = false then s4.log 0x1404 (w32 (quo (s1.lcLoad 0) 1000000)) (w32 (quo (s1.lcLoad 1) 1000000)) 0 else s4

/-! ## Calibration (R435) -/

/-- The zero step: every enabled channel's ZERO takes R, and the reference zeros with it. (DESIGN CHOICE, log 112) -/
def Dev.zeroStep (s : Dev) : Dev :=
  let one (d : Dev) (c : Nat) : Dev :=
    if d.lcOn c then
      let r := d.lcRatio c
      let e := d.odPut 0x2020 (4 + c) (w32 r)
      { e with ana := { e.ana with refs := e.ana.refs.set! c r } }
    else d
  ((one (one s 0) 1).setFlag F.ANA_LOADSTAT_ZEROLIM false).odPut 0x2021 3 1

/-- The spans that a span step gives, by channel; none where it is refused. -/
def Dev.newSpans (s : Dev) : Option (List (Nat × Int)) :=
  let chans := [0, 1].filter fun c => s.lcOn c
  let diff (c : Nat) : Int := s.lcRatio c - s.lcZero c
  let mass : Int := (s.od? 0x2021 2 : Int) * 1000000
  let fit (d : Int) : Option Int := if d < 10000 then none else let x := nearTie mass d; if x < 4294967296 then some x else none
  if s.lcSum then (fit ((chans.map diff).sum)).map fun x => chans.map fun c => (c, x)
  else chans.mapM fun c => (fit (diff c)).map fun x => (c, x)

/-- The span step. (DESIGN CHOICE, log 112) -/
def Dev.spanStep (s : Dev) : Dev :=
  match s.newSpans with
  | some l => ((l.foldl (fun (d : Dev) (e : Nat × Int) => d.odPut 0x2020 (6 + e.1) (w32 e.2)) s).setFlag F.ANA_LOADSTAT_ZEROLIM false).odPut 0x2021 3 2
  | none => s.odPut 0x2021 3 3

/-- The step that waits is made at the slow tick, and the load is published after it. -/
def Dev.loadSlow (s : Dev) : Dev :=
  let step := s.ana.step
  let s0 : Dev := { s with ana := { s.ana with step := 0 } }
  let s1 := if step = 1 then s0.zeroStep else if step = 2 then s0.spanStep else s0
  let s2 := s1.loadPublish
  if step = 0 then s2 else s2.log 0x1402 (s2.od? 0x2021 3) (w32 s2.load) 0

/-! ## The zero refresh (R436) -/

/-- The quiet point has held throughout 0x2020:08 s, the load is valid and below the empty threshold, PGEN is in IDLE. -/
def Dev.refreshDue (s : Dev) : Bool :=
  s.loadValid && decide (s.load.natAbs < s.od? 0x2201 3) && s.pgState = 0 &&
    (match s.ana.quiet with | some t => decide (t + s.od? 0x2020 8 * 1000 * msCyc ≤ s.now) | none => false)

/-- The new zero of a channel, within the drift limit of its reference zero, and whether it is held there. -/
def Dev.refreshed (s : Dev) (c : Nat) : Int × Bool :=
  let z := s.lcZero c
  let r := s.ana.refs.toList.getD c 0
  let b : Int := (s.od? 0x2020 9 : Int) * 1000000 / s.lcSpan c
  let x := z + cdiv (s.lcRatio c - z) 8
  let y := clampI (r - b) (r + b) x
  (y, decide (y ≠ x))

/-- A zero held at its drift limit shows ZEROLIM, and 0x1405 once. -/
def Dev.driftLimit (s : Dev) (c : Nat) : Dev :=
  if s.flag F.ANA_LOADSTAT_ZEROLIM then s
  else (s.setFlag F.ANA_LOADSTAT_ZEROLIM true).log 0x1405 c (w32 (s.lcZero c)) (w32 (s.ana.refs.toList.getD c 0))

/-- Every enabled channel's zero moves; a change of the car load by 1 kg or more logs 0x1403 for each channel that moved. -/
def Dev.zeroRefresh (s : Dev) : Dev :=
  if s.refreshDue then
    let chans := [0, 1].filter fun c => s.lcOn c
    let shift (c : Nat) : Int := (s.refreshed c).1 - s.lcZero c
    let big : Bool := decide ((if s.lcSum then 1000000 else 2000000) ≤ ((chans.map fun c => shift c * s.lcSpan c).sum).natAbs)
    let s1 := chans.foldl (fun (d : Dev) c =>
      let e := d.odPut 0x2020 (4 + c) (w32 (s.refreshed c).1)
      if (s.refreshed c).2 then e.driftLimit c else e) s
    if big then chans.foldl (fun (d : Dev) c => if shift c = 0 then d else d.log 0x1403 c (w32 (shift c)) 0) s1 else s1
  else s

/-- Since when the car has stood at a quiet point, followed in every tick. -/
def Dev.quietWatch (s : Dev) : Dev :=
  { s with ana := { s.ana with quiet := if s.quietPoint then some (s.ana.quiet.getD s.now) else none } }

/-! ## The slow tick (R29) -/

/-- R_c: the mean of the conversions of the ended slow tick, in whole nV/V; how the mean is rounded is open (log 4). -/
def bridgeMean (l : List BridgeConv) : Int := quo ((l.map (·.ratio)).sum) l.length

/-- The lowest sensed excitation. -/
def bridgeExc : List BridgeConv → Nat
  | [] => 0
  | x :: t => t.foldl (fun b y => min b y.exc) x.exc

/-- What the conversions showed (R434): bit 0 an excitation outside 4,750 mV to 5,250 mV, bit 1 a ratio outside ±3,900,000 nV/V. No
conversion at all counts as no excitation. -/
def convFault (l : List BridgeConv) : Nat :=
  b2n (l.isEmpty || l.any fun x => decide (x.exc < 4750) || decide (5250 < x.exc)) + 2 * b2n (l.any fun x => decide (3900000 < x.ratio.natAbs))

/-- The values that ANA shows, and the lid (R428, R440). (DESIGN CHOICE, log 20; DEDUCED, log 111) -/
def Dev.anaShow (s : Dev) (inp : SlowIn) : Dev :=
  let s1 := (((s.wrN R.ANA_VIN (inp.vin / 10)).wrN R.ANA_VSAFE (inp.vsafe / 10)).wrN R.ANA_HOLD (inp.hold / 10)).wrI R.ANA_LIDTEMP inp.lid
  let one (d : Dev) (c : Nat) : Dev :=
    let b := inp.lc.getD c []
    if d.lcOn c then
      let e := (d.wrI (R.ANA_LC_RATIO c) (bridgeMean b)).wrN (R.ANA_LC_EXC c) (bridgeExc b)
      { e with ana := { e.ana with conv := e.ana.conv.set! c (convFault b) } }
    else d
  let s2 := one (one s1 0) 1
  let s3 := if 950 ≤ inp.lid then s2.log 0x9010 (w32 inp.lid) 0 0 else s2
  if 1050 ≤ inp.lid then s3.logE 0x9011 (w32 inp.lid) 0 0 else s3

/-- The working map with its CRC-32, and the learned door values, go to flash where they have changed (R77, R176); a change of the learned values
publishes a backup (R408). -/
def Dev.flashSlow (s : Dev) : Dev :=
  let w := (upTo s.landings).map s.W
  let fl := (upTo s.landings).map fun i => s.od? 0x2106 (i + 1)
  let l := s.learnedNow
  let s1 : Dev := if s.chA.booting ∨ (s.cmpl.dirtyW = false ∧ w = s.nv.wmap ∧ fl = s.nv.wflags) then s
    else { s with nv := { s.nv with wmap := w, wmapCrc := some (crc32 (storedMap w)), wflags := fl }, cmpl := { s.cmpl with dirtyW := false } }.flashUsed
  if s.chA.booting ∨ l = s.nv.learned then s1
  else { s1 with nv := { s1.nv with learned := l } }.flashUsed.publish

/-- SLOW_TICK: once in the first tick of each slow tick. (DEDUCED, log 111) -/
def Dev.slowTick (s : Dev) (inp : SlowIn) : Dev :=
  if s.tick % 800 ≠ 0 ∨ s.ana.done = some s.tick then s
  else
    let s0 : Dev := { s with ana := { s.ana with done := some s.tick } }
    let s1 := ((s0.anaShow inp).loadSlow).zeroRefresh
    let s2 := (s1.doorZero 0 (inp.zero.getD 0 [])).doorZero 1 (inp.zero.getD 1 [])
    (s2.bidSlow.wearTick).flashSlow

end Sys2Proof.Machine
end

