-- ==== Sys2Proof/Machine/RegWrite.lean ====
section
/-! DEFINITION. Register writes by block (R7 to R10): the common rule of Dev.plainWrite, and what a block's own rules add to
it. A field whose written value its table refuses keeps its value; the other fields of the register take theirs (R8). MEMC
and the memory regions follow in Access. -/

namespace Sys2Proof.Machine

/-- The word to write with a field left as it is where its written value is refused. (DEDUCED, log 73) -/
def Dev.fixFld (s : Dev) (f : Fld) (ok : Nat → Bool) (val : Word) : Word :=
  if ok (fldOf val f) then val else putFld val f (s.fld f)

/-- The value is not 0. -/
def nonZero (x : Nat) : Bool := x != 0

/-- A write of a register that is one of a regular array: its index and the offset of the register in the element. -/
def elemOf (a base stride : Nat) : Nat × Nat := ((a - base) / stride, (a + (stride - base % stride)) % stride)

/-! ## TICK (R40) -/

def Dev.writeTick (s : Dev) (m : Master) (a : Nat) (val : Word) : Dev :=
  if R.TICK_ALARM 0 ≤ a ∧ a ≤ R.TICK_ALARM 3 then
    let n := (a - R.TICK_ALARM 0) / 4
    let f := F.TICK_ALARM_OFFSET n
    let s1 := s.plainWrite m a (if 124999 < fldOf val f then putFld val f 124999 else val)
    { s1 with alarmSet := s1.alarmSet.set! n true }
  else s.plainWrite m a val

/-! ## POSX (R44, R50, R51, R66) -/

def Dev.writeCnt (s : Dev) (m : Master) (a : Nat) (val : Word) : Dev :=
  let e := elemOf a (R.POSX_CNT_CFG 0) 64
  let n := e.1
  match e.2 with
  | 0x00 => s.plainWrite m a (s.fixFld (F.POSX_CNT_CFG_MODE n) (· != 3) val)
  | 0x0C => if fldOf val (F.POSX_CNT_SCALE_DEN n) = 0 then s else s.plainWrite m a val
  | 0x18 => s.plainWrite m a (s.fixFld (F.POSX_CNT_SPDCFG_STILL n) nonZero (s.fixFld (F.POSX_CNT_SPDCFG_SPDMODE n) (· != 3)
      (s.fixFld (F.POSX_CNT_SPDCFG_WIN n) (fun x => decide (1 ≤ x ∧ x ≤ 128)) val)))
  | _ => s.plainWrite m a val

def Dev.writeAbs (s : Dev) (m : Master) (a : Nat) (val : Word) : Dev :=
  let e := elemOf a (R.POSX_ABS_CFG 0) 64
  let n := e.1
  match e.2 with
  | 0x00 => s.plainWrite m a (s.fixFld (F.POSX_ABS_CFG_LEN n) (fun x => decide (8 ≤ x ∧ x ≤ 40)) val)
  | 0x10 => if fldOf val (F.POSX_ABS_SCALE_DEN n) = 0 then s else s.plainWrite m a val
  | _ => s.plainWrite m a val

def Dev.writePosx (s : Dev) (m : Master) (a : Nat) (val : Word) : Dev :=
  if R.POSX_CNT_CFG 0 ≤ a ∧ a < R.POSX_CNT_CFG 4 then s.writeCnt m a val
  else if R.POSX_ABS_CFG 0 ≤ a ∧ a < R.POSX_ABS_CFG 2 then s.writeAbs m a val
  else if a = R.POSX_FUSE_CFG then
    s.plainWrite m a (s.fixFld F.POSX_FUSE_CFG_GAIN (fun x => decide (x ≤ 8)) (s.fixFld F.POSX_FUSE_CFG_CORRMAX nonZero
      (s.fixFld F.POSX_FUSE_CFG_REJECT nonZero val)))
  else if a = R.POSX_EMU_RATIO then
    let n := fldOf val F.POSX_EMU_RATIO_N
    if 1 ≤ n ∧ n ≤ fldOf val F.POSX_EMU_RATIO_M then s.plainWrite m a val else s
  else s.plainWrite m a val

/-! ## CMPL (R70, R74, R80, R83, R85) -/

/-- The sources of R70. (DEDUCED, log 73) -/
def latSrcOk (x : Nat) : Bool := x ≤ 51 || (64 ≤ x && x ≤ 85) || x = 127

/-- A compare channel: CFG or VALUE written since its last judgement (R85). -/
def Dev.cmpWrote (s : Dev) (n : Nat) : Dev :=
  { s with cmpl := { s.cmpl with cmp := vmod s.cmpl.cmp (Fin.ofNat 32 n) fun c => { c with wrote := true } } }

def Dev.writeCmp (s : Dev) (m : Master) (a : Nat) (val : Word) : Dev :=
  let e := elemOf a (R.CMPL_CMP_CFG 0) 16
  let n := e.1
  match e.2 with
  | 0 => (s.plainWrite m a (s.fixFld (F.CMPL_CMP_CFG_DIRQ n) nonZero (s.fixFld (F.CMPL_CMP_CFG_SRC n) (fun x => decide (x ≤ 4)) val))).cmpWrote n
  | 4 => (s.plainWrite m a val).cmpWrote n
  | _ => s.plainWrite m a val

/-- CTRL.TRIG captures at the instant the write completes. -/
def Dev.latTrig (s : Dev) (n : Fin 16) (val : Word) : Dev := if bitN val.toNat 0 then s.latTrigger n (s.now % tickCyc) else s

def Dev.writeLat (s : Dev) (m : Master) (a : Nat) (val : Word) : Dev :=
  let e := elemOf a (R.CMPL_LAT_CFG 0) 32
  let n := e.1
  match e.2 with
  | 0x00 => if s.latOwned n then s
            else s.plainWrite m a (s.fixFld (F.CMPL_LAT_CFG_EDGE n) nonZero (s.fixFld (F.CMPL_LAT_CFG_SRC n) latSrcOk val))
  | 0x18 => s.latTrig (Fin.ofNat 16 n) val
  | _ => s.plainWrite m a val

def Dev.writeCmpl (s : Dev) (m : Master) (a : Nat) (val : Word) : Dev :=
  if R.CMPL_CMP_CFG 0 ≤ a ∧ a < R.CMPL_CMP_CFG 32 then s.writeCmp m a val
  else if R.CMPL_LAT_CFG 0 ≤ a ∧ a < R.CMPL_LAT_CFG 16 then s.writeLat m a val
  else s.plainWrite m a val

/-! ## PGEN (R96) -/

/-- A write of CMD: the command is captured with TARGET and waits for the next tick. (DEDUCED, log 69) -/
def Dev.writePgen (s : Dev) (m : Master) (a : Nat) (val : Word) : Dev :=
  if a = R.PGEN_CMD then
    let s1 := s.plainWrite m a val
    { s1 with pgen := { s1.pgen with pend := some { m := m, word := val, target := s.rd R.PGEN_TARGET } } }
  else s.plainWrite m a val

/-! ## CENG (R116, R117, R125, R126) -/

/-- The bank that a coefficient register belongs to: 0 A, 1 B. -/
def coefBank (off : Nat) : Nat := if off < 0x60 then 0 else 1

/-- The coefficient's bank is the active one of a slot that is enabled in force (R125). -/
def Dev.bankFixed (s : Dev) (n off : Nat) : Bool :=
  cfgEn (s.rdF (R.CENG_SLOT_CFG n)) && s.bankAct n == coefBank off

def Dev.writeSlot (s : Dev) (m : Master) (a : Nat) (val : Word) : Dev :=
  let e := elemOf a (R.CENG_SLOT_CFG 0) 128
  let n := e.1
  if e.2 = 0 then s.slotCfgWrite (Fin.ofNat 16 n) val
  else if e.2 = 4 then
    s.plainWrite m a (s.fixFld (F.CENG_SLOT_SRC_SP n) srcKnown (s.fixFld (F.CENG_SLOT_SRC_FB n) srcKnown
      (s.fixFld (F.CENG_SLOT_SRC_FF1 n) srcKnown (s.fixFld (F.CENG_SLOT_SRC_FF2 n) srcKnown val))))
  else if 0x40 ≤ e.2 ∧ s.bankFixed n e.2 then s
  else s.plainWrite m a val

def Dev.writeCeng (s : Dev) (m : Master) (a : Nat) (val : Word) : Dev :=
  if R.CENG_SLOT_CFG 0 ≤ a ∧ a < R.CENG_SLOT_CFG 16 then s.writeSlot m a val else s.plainWrite m a val

/-! ## The doors (R135, R136, R145, R146, R148, R152, R160, R174) -/

/-- CTRL: EN, whose withdrawal drops DRVEN at once, while its rise and ALIGN wait for the next sample point (R24, R145). -/
def Dev.doorCtrl (s : Dev) (m : Master) (d : Fin 2) (val : Word) : Dev :=
  if s.quarBars m then s
  else
    let s1 := (s.setFlag (F.DOOR_CTRL_EN d.val) (bitN val.toNat 0)).drvenUpdate d
    s1.setDoor d fun t => { t with alPend := if bitN val.toNat 1 then some m else none }

/-- MOVE: the command is captured with MTGT and waits for the next tick (R160). (DEDUCED, log 69) -/
def Dev.doorMoveWrite (s : Dev) (m : Master) (d : Fin 2) (a : Nat) (val : Word) : Dev :=
  (s.plainWrite m a val).setMo d fun t => { t with pend := some { m := m, word := val, tgt := s.rd (R.DOOR_MTGT d.val) } }

/-- A direct write to ANGOFS also sets ALIGNED (R152). -/
def Dev.doorAngofs (s : Dev) (m : Master) (d : Fin 2) (a : Nat) (val : Word) : Dev :=
  if s.flag (F.DOOR_STATUS_DRVEN d.val) then s else (s.plainWrite m a val).setFlag (F.DOOR_STATUS_ALIGNED d.val) true

def Dev.writeDoor (s : Dev) (m : Master) (a : Nat) (val : Word) : Dev :=
  let d : Fin 2 := Fin.ofNat 2 (a / 0x10000)
  match a % 0x10000 with
  | 0x000 => s.doorCtrl m d val
  | 0x004 => s.doorFaultClear d val (s.doors[d]).bflt
  | 0x014 => s.permitWrite m d val
  | 0x018 => s.zoneWrite m d val
  | 0x020 => s.plainWrite m a (s.fixFld (F.DOOR_CARR_PERIOD d.val) (fun x => x % 2 = 0 && decide (12500 ≤ x ∧ x ≤ 25000)) val)
  | 0x024 => s.plainWrite m a (s.fixFld (F.DOOR_DEAD_DEADT d.val) (fun x => decide (40 ≤ x)) val)
  | 0x040 => s.doorAngofs m d a val
  | 0x070 => s.plainWrite m a (s.fixFld (F.DOOR_FB_CNTSEL d.val) nonZero val)
  | 0x100 => s.doorMoveWrite m d a val
  | _ => s.plainWrite m a val

/-! ## LRING and BID (R203, R206, R235) -/

/-- CTRL: DUALFORCE, EN, and ENUM, which is refused where R203 refuses it. -/
def Dev.ringCtrl (s : Dev) (m : Master) (val : Word) : Dev :=
  let s1 := s.setFlag F.LRING_CTRL_DUALFORCE (bitN val.toNat 2)
  let s2 := if bitN val.toNat 0 = s.flag F.LRING_CTRL_EN then s1 else if bitN val.toNat 0 then s1.ringEnable else s1.ringDisable
  if bitN val.toNat 1 then
    match s2.enumCheck with
    | none => s2.enumStart none
    | some r => s2.logBy m.val 0xA011 r R.LRING_CTRL 4
  else s2

def Dev.writeRing (s : Dev) (m : Master) (a : Nat) (val : Word) : Dev :=
  if a = R.LRING_CTRL then s.ringCtrl m val else s.plainWrite m a val

def Dev.writeBid (s : Dev) (m : Master) (a : Nat) (val : Word) : Dev :=
  if a = R.BID_CTRL then (if s.quarBars m then s else s.plainWrite m a val)
  else if a = R.BID_CMD then
    (s.plainWrite m a val).bidCommand m (fldOf val F.BID_CMD_OP) (s.rd R.BID_ARG) (Fin.ofNat 256 (fldOf val F.BID_CMD_TAG))
  else s.plainWrite m a val

/-! ## ODE, IO24, SOUT, XCMP -/

/-- A window takes writes of its own master only, and REQ starts the request (R334). -/
def Dev.writeOde (s : Dev) (m : Master) (a : Nat) (val : Word) : Dev :=
  if R.ODE_L_REQ 1 ≤ a ∧ a < R.ODE_L_REQ 6 then
    let e := elemOf a (R.ODE_L_REQ 1) 128
    if m.val ≠ e.1 + 1 then s else if e.2 = 0 then s.localRequest m val else s.plainWrite m a val
  else s.plainWrite m a val

/-- OUTSET and OUTCLR (R303). -/
def Dev.outSet (s : Dev) (val : Word) : Dev := s.wr R.IO24_OUTCMD (s.rd R.IO24_OUTCMD ||| val)
def Dev.outClr (s : Dev) (val : Word) : Dev := s.wr R.IO24_OUTCMD (s.rd R.IO24_OUTCMD &&& ~~~ val)

def Dev.writeIo (s : Dev) (m : Master) (a : Nat) (val : Word) : Dev :=
  if a = R.IO24_OUTSET then s.outSet val
  else if a = R.IO24_OUTCLR then s.outClr val
  else if a = R.IO24_CLRF then s.clearFault val
  else if R.IO24_INCFG 0 ≤ a ∧ a < R.IO24_INCFG 52 then s.mapWrite m false ((a - R.IO24_INCFG 0) / 4) val
  else if R.IO24_OUTMAP 0 ≤ a ∧ a < R.IO24_OUTMAP 32 then s.mapWrite m true ((a - R.IO24_OUTMAP 0) / 4) val
  else s.plainWrite m a val

/-- APERM, from master 5 only (R274). (DEDUCED, log 91) -/
def Dev.apermWrite (s : Dev) (m : Master) (val : Word) : Dev := if m = 5 then s.putPermits .a (val.toNat % 32) else s

def Dev.writeSout (s : Dev) (m : Master) (a : Nat) (val : Word) : Dev :=
  if a = R.SOUT_APERM then s.apermWrite m val else s.plainWrite m a val

def Dev.writeXcmp (s : Dev) (m : Master) (a : Nat) (val : Word) : Dev :=
  if a = R.XCMP_A_COMMIT then s.aCommit m val
  else if a = R.XCMP_BPARAM then s.bparamWrite m val
  else if a = R.XCMP_BMAP then s.bmapWrite m val
  else s.plainWrite m a val

/-! ## MBOX (R362 to R371) -/

/-- PARK: REQ with the halted cores that HALTED shows, and START. (DESIGN CHOICE, log 36) -/
def Dev.parkWrite (s : Dev) (m : Master) (val : Word) : Dev :=
  let s1 := s.parkStart m val
  if bitN val.toNat 0 then s1.parkRequest m (Fin.ofNat 16 (s1.fld F.MBOX_PARK_HALTED)) else s1

def Dev.writeChannel (s : Dev) (m : Master) (a : Nat) (val : Word) : Dev :=
  let e := elemOf a (R.MBOX_CH_CFG 0) 64
  let n : Fin 16 := Fin.ofNat 16 e.1
  match e.2 with
  | 0x00 => s.chCfg m n val
  | 0x04 => if s.chReads m n.val then s.plainWrite m a val else s
  | 0x08 => s.chDesc m n val
  | 0x0C => if bitN val.toNat 0 then s.chTake m n else s
  | o => if 0x20 ≤ o then s.chData m n.val a val else s

def Dev.writeMbox (s : Dev) (m : Master) (a : Nat) (val : Word) : Dev :=
  if a = R.MBOX_PARK then s.parkWrite m val
  else if R.MBOX_CH_CFG 0 ≤ a ∧ a < R.MBOX_CH_CFG 16 then (if (regDesc? a).isSome then s.writeChannel m a val else s)
  else if R.MBOX_LOCK 0 ≤ a ∧ a < R.MBOX_LOCK 32 then s.lockRelease m (Fin.ofNat 32 ((a - R.MBOX_LOCK 0) / 4)) val
  else s.plainWrite m a val

/-! ## SCRB, EVR, PRES, BOOT -/

def Dev.writeScrb (s : Dev) (m : Master) (a : Nat) (val : Word) : Dev :=
  if a = R.SCRB_WCFG then
    s.plainWrite m a (s.fixFld F.SCRB_WCFG_LAPTIME (fun x => decide (60 ≤ x ∧ x ≤ 10080))
      (s.fixFld F.SCRB_WCFG_VISIT (fun x => decide (1 ≤ x ∧ x ≤ 60)) val))
  else s.plainWrite m a val

def Dev.writeEvr (s : Dev) (m : Master) (a : Nat) (val : Word) : Dev :=
  if a = R.EVR_FREEZE then s.freezeReq m val
  else if a = R.EVR_CURSOR_LO then s.cursorWrite false val
  else if a = R.EVR_CURSOR_HI then s.cursorWrite true val
  else s.plainWrite m a val

def Dev.writePres (s : Dev) (m : Master) (a : Nat) (val : Word) : Dev :=
  if a = R.PRES_SAFEOK then s.safeokWrite m val
  else if a = R.PRES_DEBUG then s.debugUnlock m val
  else s.plainWrite m a val

def Dev.writeBoot (s : Dev) (m : Master) (a : Nat) (val : Word) : Dev :=
  if a = R.BOOT_HOCMD then s.hoCmd m (fldOf val F.BOOT_HOCMD_OP)
  else if a = R.BOOT_CONFIRM then s.hoConfirm val
  else s.plainWrite m a val

/-! ## Any block but SYS and MEMC -/

/-- (DEDUCED, log 119) -/
def Dev.blockWrite (s : Dev) (m : Master) (a : Nat) (val : Word) : Dev :=
  match blockNo a with
  | 1 => s.writeTick m a val
  | 2 => s.writePosx m a val
  | 3 => s.writeCmpl m a val
  | 4 => s.writePgen m a val
  | 5 => s.writeCeng m a val
  | 6 => s.writeDoor m a val
  | 7 => s.writeDoor m a val
  | 8 => s.writeRing m a val
  | 9 => s.writeBid m a val
  | 12 => s.writeOde m a val
  | 13 => s.writeIo m a val
  | 14 => s.writeSout m a val
  | 15 => s.writeXcmp m a val
  | 16 => s.writeMbox m a val
  | 18 => s.writeScrb m a val
  | 19 => s.writeEvr m a val
  | 22 => s.writePres m a val
  | 26 => s.writeBoot m a val
  | _ => s.plainWrite m a val

/-- A write with its record in the presence log, where the register holds an RWP or RWI field (R406). DEBUG writes its own. -/
def Dev.loggedWrite (s : Dev) (m : Master) (a : Nat) (val : Word) : Dev :=
  if a = R.PRES_DEBUG then s.blockWrite m a val else s.presWrite a val (s.blockWrite m a val)

/-! ## Reads -/

/-- The phase of the tick at an offset in fabric cycles (R33). -/
def phaseOf (off : Nat) : Nat :=
  if off < 4800 then 0 else if off < 6000 then 1 else if off < 8000 then 2 else if off < 12000 then 3 else if off < 36000 then 4
  else if off < 38000 then 5 else if off < 40000 then 6 else if off < 44000 then 7 else 8

/-- What a block's register reads as for a master, with what the read does: TICK's time and latches (R41), the channels and locks
of MBOX (R362, R368), the window of EVR (R380). The answer of a lock read is also the answer of the access. -/
def Dev.tickRead (s : Dev) (m : Master) (a : Nat) : Word × Dev :=
  let l := s.latch[m]
  if a = R.TICK_NOW_LO then
    (BitVec.ofNat 32 s.ns, { s with latch := s.latch.set m { nowHi := BitVec.ofNat 32 (s.ns / 4294967296), num := s.tick } })
  else if a = R.TICK_NOW_HI then (l.nowHi, s)
  else if a = R.TICK_NUM_LO then (BitVec.ofNat 32 l.num, s)
  else if a = R.TICK_NUM_HI then (BitVec.ofNat 32 (l.num / 4294967296), s)
  else if a = R.TICK_STATUS then
    (BitVec.ofNat 32 (phaseOf (s.now % tickCyc) + s.tick % 8 * 256 + s.tick % 800 * 65536), s)
  else (s.readMasked a, s)

def Dev.mboxRead (s : Dev) (m : Master) (a : Nat) : Word × Dev :=
  if R.MBOX_LOCK 0 ≤ a ∧ a < R.MBOX_LOCK 32 then
    let s1 := s.lockRead m (Fin.ofNat 32 ((a - R.MBOX_LOCK 0) / 4))
    (BitVec.ofNat 32 (ofLe (s1.bus[m]).data), s1)
  else if R.MBOX_CH_CFG 0 ≤ a ∧ a < R.MBOX_CH_CFG 16 then
    let e := elemOf a (R.MBOX_CH_CFG 0) 64
    (if e.2 = 0 ∨ s.chReads m e.1 then s.readMasked a else 0, s)
  else (s.readMasked a, s)

def blockRead (p : Dev × MemSys) (m : Master) (a : Nat) : Word × (Dev × MemSys) :=
  match blockNo a with
  | 1 => let r := p.1.tickRead m a; (r.1, (r.2, p.2))
  | 16 => let r := p.1.mboxRead m a; (r.1, (r.2, p.2))
  | 19 => if R.EVR_WINDOW 0 ≤ a ∧ a % 4 = 0 ∧ a < R.EVR_WINDOW 1024 then windowWord p ((a - R.EVR_WINDOW 0) / 4) else (p.1.readMasked a, p)
  | _ => (p.1.readMasked a, p)

end Sys2Proof.Machine
end

