-- ==== Sys2Proof/Machine/Dma.lean ====
section
/-! DEFINITION. The DMA channels of MEMC (R357 to R359): descriptors, their checks, and the transfers that a channel makes as
master 6. A descriptor is read and checked when its channel reaches it; DMA_DESCRIPTOR_DONE makes its transfer and its end. -/

namespace Sys2Proof.Machine

/-! ## Descriptors (R358) -/

/-- A field of a descriptor. -/
def dField (d : List Byte) (off n : Nat) : Nat := ofLe ((d.drop off).take n)
def dSrc (d : List Byte) : Nat := dField d 0 8
def dDst (d : List Byte) : Nat := dField d 8 8
def dLen (d : List Byte) : Nat := dField d 16 4
def dOp (d : List Byte) : Nat := dField d 20 1
def dFlags (d : List Byte) : Nat := dField d 21 1
def dNext (d : List Byte) : Nat := dField d 24 8
def dLast (d : List Byte) : Bool := bitN (dFlags d) 2
def dIrq (d : List Byte) : Bool := bitN (dFlags d) 1

def Dev.dmaDesc (s : Dev) (c : Fin 8) : List Byte := s.memc.desc[c]
def Dev.dmaBusy (s : Dev) (c : Fin 8) : Bool := s.flag (F.MEMC_DMA_STATUS_BUSY c.val)
def Dev.dmaCur (s : Dev) (c : Fin 8) : Nat := (s.rd (R.MEMC_DMA_CUR_LO c.val)).toNat + (s.rd (R.MEMC_DMA_CUR_HI c.val)).toNat % 16 * 2 ^ 32
def Dev.dmaHead (s : Dev) (c : Fin 8) : Nat := (s.rd (R.MEMC_DMA_HEAD_LO c.val)).toNat + (s.rd (R.MEMC_DMA_HEAD_HI c.val)).toNat % 16 * 2 ^ 32
def Dev.putCur (s : Dev) (c : Fin 8) (a : Nat) : Dev := (s.wrN (R.MEMC_DMA_CUR_LO c.val) a).wrN (R.MEMC_DMA_CUR_HI c.val) (a / 2 ^ 32 % 16)

/-- The last address of a range. -/
def lastOf (a len : Nat) : Nat := a + (len - 1)

/-- A range in the peripheral space that is not made of whole words. -/
def dmaCrooked (a len : Nat) : Bool :=
  (regionOf a = some .periph || regionOf (lastOf a len) = some .periph) && (a % 4 != 0 || len % 4 != 0)

/-- The channel may reach the whole range (R357). -/
def Dev.dmaReach (s : Dev) (c : Fin 8) (a len : Nat) : Bool :=
  match regionOf a with
  | some .shared => regionOf (lastOf a len) = some .shared
  | some .dram => regionOf (lastOf a len) = some .dram
  | some .periph => regionOf (lastOf a len) = some .periph &&
      (upTo 27).all fun b => b < blockNo a || blockNo (lastOf a len) < b || bitN (s.rd (R.MEMC_DMA_PERM c.val)).toNat b
  | _ => false

/-- The ranges of a copy overlap. -/
def dmaOverlap (d : List Byte) : Bool := dOp d = 0 && decide (dSrc d ≤ lastOf (dDst d) (dLen d)) && decide (dDst d ≤ lastOf (dSrc d) (dLen d))

/-- An invalid descriptor (ECODE 4). (DESIGN CHOICE, log 107) -/
def dmaInvalid (d : List Byte) : Bool :=
  decide (1 < dOp d) || dLen d = 0 || decide (7 < dFlags d) || (!dLast d && dNext d % 32 != 0) || dmaOverlap d ||
    dmaCrooked (dDst d) (dLen d) || (dOp d = 0 && dmaCrooked (dSrc d) (dLen d))

/-- A range that the channel may not reach (ECODE 3): the source before the destination. (DESIGN CHOICE, log 107) -/
def Dev.dmaBarred (s : Dev) (c : Fin 8) (d : List Byte) : Option Nat :=
  if dOp d = 0 ∧ s.dmaReach c (dSrc d) (dLen d) = false then some (dSrc d)
  else if s.dmaReach c (dDst d) (dLen d) = false then some (dDst d) else none

/-- STAT and ECODE of the descriptor in progress. -/
def dmaStatus (p : Dev × MemSys) (c : Fin 8) (stat ecode : Nat) : Dev × MemSys :=
  let a := p.1.dmaCur c
  match regionOf a with
  | some r => (writeArray 6 r 3 (a + 22) [BitVec.ofNat 8 stat, BitVec.ofNat 8 ecode] p).2
  | none => p

/-- An error shows in STATUS and DMAIRQ and is logged with the failing address (R359). -/
def Dev.dmaFault (s : Dev) (c : Fin 8) (ecode a : Nat) : Dev :=
  let s1 := (s.setFld (F.MEMC_DMA_STATUS_ECODE c.val) ecode).setFlag (F.MEMC_DMA_STATUS_ERR c.val) true
  (s1.setBit R.MEMC_DMAIRQ (8 + c.val)).log 0x7050 c.val ecode a

/-- The channel stops. -/
def Dev.dmaStop (s : Dev) (c : Fin 8) : Dev := s.setFlag (F.MEMC_DMA_STATUS_BUSY c.val) false

/-- The channel reaches a descriptor: it is read and checked. (DESIGN CHOICE, log 107) -/
def dmaBegin (p : Dev × MemSys) (c : Fin 8) (a : Nat) : Dev × MemSys :=
  let s1 := p.1.putCur c a
  if a % 32 ≠ 0 then ((s1.dmaFault c 4 a).dmaStop c, p.2)
  else
    match regionOf a with
    | some r =>
      if r = .shared ∨ r = .dram then
        match readArray 6 r 33 a 32 (s1, p.2) with
        | (none, q) => ((q.1.dmaFault c 6 a).dmaStop c, q.2)
        | (some d, q) =>
          let q1 : Dev × MemSys := ({ q.1 with memc := { q.1.memc with desc := q.1.memc.desc.set c d } }, q.2)
          if dmaInvalid d then
            let q2 := dmaStatus q1 c 2 4
            ((q2.1.dmaFault c 4 a).dmaStop c, q2.2)
          else
            match q1.1.dmaBarred c d with
            | some x => let q2 := dmaStatus q1 c 2 3
                        ((q2.1.dmaFault c 3 x).dmaStop c, q2.2)
            | none => q1
      else ((s1.dmaFault c 6 a).dmaStop c, p.2)
    | none => ((s1.dmaFault c 6 a).dmaStop c, p.2)

/-! ## Transfers -/

/-- Read whole words of register blocks. (DESIGN CHOICE, log 109) -/
def dmaReadRegs : Nat → Nat → (Dev × MemSys) → List Byte × (Dev × MemSys)
  | 0, _, p => ([], p)
  | n + 1, a, p =>
    let r := blockRead p 6 a
    let t := dmaReadRegs n (a + 4) r.2
    (leBytes 4 r.1.toNat ++ t.1, t.2)

/-- Write whole words of register blocks. (DESIGN CHOICE, log 109) -/
def dmaWriteRegs : Nat → Nat → List Byte → Dev → Dev
  | 0, _, _, s => s
  | n + 1, a, l, s => dmaWriteRegs n (a + 4) (l.drop 4) (s.loggedWrite 6 a (BitVec.ofNat 32 (ofLe (l.take 4))))

/-- Bytes for a burst; none at an uncorrectable word. -/
def dmaRead (p : Dev × MemSys) (a n : Nat) : Option (List Byte) × (Dev × MemSys) :=
  match regionOf a with
  | some .periph => let r := dmaReadRegs (n / 4) a p; (some r.1, r.2)
  | some r => readArray 6 r (n + 1) a n p
  | none => (some [], p)

/-- Bytes of a burst go to their place; false at an aborted partial write. -/
def dmaWrite (p : Dev × MemSys) (a : Nat) (l : List Byte) : Bool × (Dev × MemSys) :=
  match regionOf a with
  | some .periph => (true, (dmaWriteRegs (l.length / 4) a l p.1, p.2))
  | some r => writeArray 6 r (l.length + 1) a l p
  | none => (true, p)

/-- The outcome of a transfer: the error code 0, 1 or 2 and the failing address. -/
structure DmaEnd where
  code : Nat := 0
  addr : Nat := 0
  deriving DecidableEq, Repr

/-- The address of the error that was logged last. -/
def Dev.lastError (s : Dev) : Nat := (s.rd R.MEMC_ELOG_LO).toNat

/-- A burst fails: what it had written is as before it (R359). (DESIGN CHOICE, log 107) -/
def dmaFail (p q : Dev × MemSys) (code : Nat) : DmaEnd × (Dev × MemSys) := ({ code := code, addr := q.1.lastError }, (q.1, p.2))

/-- Copy in bursts of 64 bytes, at most `fuel` of them. (DESIGN CHOICE, log 107) -/
def dmaCopy : Nat → Nat → Nat → Nat → (Dev × MemSys) → DmaEnd × (Dev × MemSys)
  | 0, _, _, _, p => ({}, p)
  | k + 1, src, dst, len, p =>
    if len = 0 then ({}, p)
    else
      let n := min 64 len
      match dmaRead p src n with
      | (none, q) => dmaFail p q 1
      | (some l, q) =>
        let w := dmaWrite q dst l
        if w.1 then dmaCopy k (src + n) (dst + n) (len - n) w.2 else dmaFail p w.2 2

/-- The bytes of a fill at an address: byte (a mod 8) of the pattern. -/
def patBytes (pat a n : Nat) : List Byte := (upTo n).map fun i => BitVec.ofNat 8 (pat / 2 ^ (8 * ((a + i) % 8)))

/-- Fill in bursts of 64 bytes. -/
def dmaFillGo : Nat → Nat → Nat → Nat → (Dev × MemSys) → DmaEnd × (Dev × MemSys)
  | 0, _, _, _, p => ({}, p)
  | k + 1, pat, dst, len, p =>
    if len = 0 then ({}, p)
    else
      let n := min 64 len
      let w := dmaWrite p dst (patBytes pat dst n)
      if w.1 then dmaFillGo k pat (dst + n) (len - n) w.2 else dmaFail p w.2 2

/-- A fill of whole code words: every word of the range takes the pattern and is healed; an armed word takes its mask (R347). -/
def dmaFillWhole (p : Dev × MemSys) (pat dst len : Nat) : Dev × MemSys :=
  let m := p.2.fill dst (lastOf dst len) pat
  let w := p.1.flipWord
  match regionOf w with
  | some r =>
    if p.1.flag F.MEMC_FLIP_CTRL_ARM ∧ dst ≤ w ∧ w ≤ lastOf dst len then writeWord (p.1, m) r w (patBytes pat w r.wordBytes) else (p.1, m)
  | none => (p.1, m)

/-- The whole range of a fill lies in an array and consists of whole code words. -/
def fillWhole (dst len : Nat) : Bool :=
  dst % 8 = 0 && len % 8 = 0 && (regionOf dst = some .shared || regionOf dst = some .dram)

/-- The transfer of the descriptor in progress, at most `bursts` bursts of it. -/
def dmaTransfer (p : Dev × MemSys) (c : Fin 8) (bursts : Nat) : DmaEnd × (Dev × MemSys) :=
  let d := p.1.dmaDesc c
  if dOp d = 0 then dmaCopy bursts (dSrc d) (dDst d) (dLen d) p
  else
    let len := min (dLen d) (64 * bursts)
    if len = 0 then ({}, p)
    else if fillWhole (dDst d) len then ({}, dmaFillWhole p (dSrc d) (dDst d) len)
    else dmaFillGo bursts (dSrc d) (dDst d) (dLen d) p

/-- The bursts of a descriptor. -/
def dmaBursts (d : List Byte) : Nat := (dLen d + 63) / 64

/-! ## The row DMA_DESCRIPTOR_DONE, START and ABORT -/

/-- After a descriptor: the end of the chain, or the next one. -/
def dmaNext (p : Dev × MemSys) (c : Fin 8) : Dev × MemSys :=
  let d := p.1.dmaDesc c
  if dLast d then ((p.1.dmaStop c).setFlag (F.MEMC_DMA_STATUS_DONE c.val) true, p.2) else dmaBegin p c (dNext d)

/-- The descriptor in progress is done, or ends with ECODE 1 or 2. (DESIGN CHOICE, log 108) -/
def dmaDone (p : Dev × MemSys) (c : Fin 8) : Dev × MemSys :=
  if p.1.dmaBusy c then
    let d := p.1.dmaDesc c
    let t := dmaTransfer p c (dmaBursts d)
    if t.1.code = 0 then
      let q := dmaStatus t.2 c 1 0
      dmaNext (if dIrq d then q.1.setBit R.MEMC_DMAIRQ c.val else q.1, q.2) c
    else
      let q := dmaStatus t.2 c 2 t.1.code
      let q1 : Dev × MemSys := (q.1.dmaFault c t.1.code t.1.addr, q.2)
      if q.1.flag (F.MEMC_DMA_CTRL_STOPERR c.val) then (q1.1.dmaStop c, q1.2) else dmaNext q1 c
  else p

/-- ABORT: the bursts made so far, an open number of them, stay written; ECODE 5. (DESIGN CHOICE, log 108) -/
def dmaAbort (p : Dev × MemSys) (c : Fin 8) : Dev × MemSys :=
  if p.1.dmaBusy c then
    let d := p.1.dmaDesc c
    let r := p.1.drawWord
    let t := dmaTransfer (r.2, p.2) c (r.1.toNat % (dmaBursts d + 1))
    let q := dmaStatus t.2 c 2 5
    ((q.1.dmaFault c 5 (q.1.dmaCur c)).dmaStop c, q.2)
  else p

/-- START: not while BUSY. -/
def dmaStart (p : Dev × MemSys) (c : Fin 8) : Dev × MemSys :=
  if p.1.dmaBusy c ∨ p.1.flag (F.MEMC_DMA_CTRL_EN c.val) = false then p
  else dmaBegin (p.1.setFlag (F.MEMC_DMA_STATUS_BUSY c.val) true, p.2) c (p.1.dmaHead c)

/-- The masters that program a channel (R357). -/
def dmaMay (m : Master) (c : Fin 8) : Bool := if c.val < 6 then decide (1 ≤ m.val) && decide (m.val ≤ 4) else m = 5

/-- A write of CTRL: EN and STOPERR, then ABORT, then START. -/
def dmaCtrl (p : Dev × MemSys) (m : Master) (c : Fin 8) (val : Word) : Dev × MemSys :=
  if dmaMay m c then
    let p1 : Dev × MemSys := (p.1.plainWrite m (R.MEMC_DMA_CTRL c.val) val, p.2)
    let p2 := if bitN val.toNat 2 then dmaAbort p1 c else p1
    if bitN val.toNat 1 then dmaStart p2 c else p2
  else p

/-- A write to another register of a channel: HEAD and PERM not while BUSY, and the fixed bits of PERM stay 0 (R357). -/
def Dev.dmaWriteReg (s : Dev) (m : Master) (c : Fin 8) (a : Nat) (val : Word) : Dev :=
  if dmaMay m c then
    if a = R.MEMC_DMA_STATUS c.val then s.plainWrite m a val
    else if s.dmaBusy c then s
    else if a = R.MEMC_DMA_HEAD_HI c.val then s.plainWrite m a (val &&& 0xF)
    else if a = R.MEMC_DMA_PERM c.val then s.plainWrite m a (val &&& 0x07AC3FFE)
    else s.plainWrite m a val
  else s

end Sys2Proof.Machine
end

