-- ==== Sys2Proof/Machine/Access.lean ====
section
/-! DEFINITION. The accesses of a bus master: registers of every block with MEMC's own rules (R347, R351, R352, R357), and the
memories (R9, R17 to R19, R342 to R345). -/

namespace Sys2Proof.Machine

/-! ## MEMC -/

def memcWrite (p : Dev × MemSys) (m : Master) (a : Nat) (val : Word) : Dev × MemSys :=
  if R.MEMC_DMA_CTRL 0 ≤ a ∧ a < R.MEMC_DMA_CTRL 8 then
    let e := elemOf a (R.MEMC_DMA_CTRL 0) 32
    let c : Fin 8 := Fin.ofNat 8 e.1
    if e.2 = 0 then dmaCtrl p m c val else (p.1.dmaWriteReg m c a val, p.2)
  else if a = R.MEMC_FLIP_CTRL then (p.1.flipArm m val, p.2)
  else if R.MEMC_FLIP_ADDR_LO ≤ a ∧ a ≤ R.MEMC_FLIP_CMASK then (p.1.flipWrite m a val, p.2)
  else if a = R.MEMC_FUSE_PROG then (p.1.presWrite a val (p.1.fuseProgram m val), p.2)
  else if a = R.MEMC_PPR_REQ then (p.1.presWrite a val (p.1.pprRequest m val), p.2)
  else (p.1.presWrite a val (p.1.plainWrite m a val), p.2)

/-! ## One register -/

def regWrite (p : Dev × MemSys) (m : Master) (a : Nat) (val : Word) : Dev × MemSys :=
  if a = R.SYS_RSTREQ then resetRequest p m val
  else if blockNo a = 17 then memcWrite p m a val
  else (p.1.loggedWrite m a val, p.2)

/-- A write that the master's rights allow; one outside them ends in a bus error (R8, R18). -/
def busWrite (p : Dev × MemSys) (m : Master) (a : Nat) (val : Word) : Dev × MemSys :=
  if p.1.mayUse m a then let r := regWrite p m a val; (r.1.answer m [], r.2)
  else if p.1.mayAccess m then (p.1.refuseAccess m a .denied, p.2) else p

/-- An act of a master at a register: nothing of a master that issues no access (R407), a bus error outside its rights (R18). (DEDUCED, log 33) -/
def Dev.asMaster (s : Dev) (m : Master) (a : Nat) (f : Dev → Dev) : Dev :=
  if s.mayUse m a then f s else if s.mayAccess m then s.refuseAccess m a .denied else s

/-- A write to a register of a block that holds no memory and starts no reset. -/
def Dev.wordWrite (s : Dev) (m : Master) (a : Nat) (val : Word) : Dev :=
  s.asMaster m a fun d => (d.loggedWrite m a val).answer m []

/-! ## Accesses of every width -/

/-- An access that is not one or two aligned words performs nothing (R9). -/
def Dev.wrongWidth (s : Dev) (m : Master) (a width : Nat) : Dev := (s.logBy m.val 0x7012 a width m.val).busError m

/-- One aligned word, or an aligned pair of words. (DEDUCED, log 28) -/
def wordAccess (a n : Nat) : Bool := (n = 4 && a % 4 = 0) || (n = 8 && a % 8 = 0)

/-- The data of a read goes to its master; an access that brings none ends in a bus error. -/
def answerRead (m : Master) (r : Option (List Byte) × (Dev × MemSys)) : Dev × MemSys :=
  match r.1 with
  | some l => (r.2.1.answer m l, r.2.2)
  | none => (r.2.1.busError m, r.2.2)

/-- (DEDUCED, log 28; DESIGN CHOICE, log 29) -/
def accessRead (p : Dev × MemSys) (m : Master) (a n : Nat) : Dev × MemSys :=
  if p.1.mayAccess m = false then p
  else if regionOf a = some .periph then
    if p.1.blockMay m (blockNo a) = false then (p.1.refuseAccess m a .denied, p.2)
    else if wordAccess a n then
      let x := blockRead p m a
      if n = 4 then (x.2.1.answer m (leBytes 4 x.1.toNat), x.2.2)
      else let y := blockRead x.2 m (a + 4)
           (y.2.1.answer m (leBytes 4 x.1.toNat ++ leBytes 4 y.1.toNat), y.2.2)
    else (p.1.wrongWidth m a n, p.2)
  else answerRead m (memFetch p m a n)

/-- A write that memory did not take: a bus error, but for a write to Bear outside the master's areas, which is ignored (R385). (DEDUCED, log 30) -/
def answerWrite (s : Dev) (m : Master) (a : Nat) (r : Bool × (Dev × MemSys)) : Dev × MemSys :=
  if r.1 ∨ s.reach m a (s.physical m a) true = .ignored then (r.2.1.answer m [], r.2.2) else (r.2.1.busError m, r.2.2)

/-- (DEDUCED, log 28; DESIGN CHOICE, log 29) -/
def accessWrite (p : Dev × MemSys) (m : Master) (a : Nat) (l : List Byte) : Dev × MemSys :=
  if p.1.mayAccess m = false then p
  else if regionOf a = some .periph then
    if p.1.blockMay m (blockNo a) = false then (p.1.refuseAccess m a .denied, p.2)
    else if wordAccess a l.length then
      let x := regWrite p m a (BitVec.ofNat 32 (ofLe (l.take 4)))
      let y := if l.length = 4 then x else regWrite x m (a + 4) (BitVec.ofNat 32 (ofLe (l.drop 4)))
      (y.1.answer m [], y.2)
    else (p.1.wrongWidth m a l.length, p.2)
  else answerWrite p.1 m a (memStore p m a l)

/-- A register write as a bus access: a word at an address that may lie anywhere. (DESIGN CHOICE, log 29) -/
def registerAccess (p : Dev × MemSys) (m : Master) (a : Nat) (val : Word) : Dev × MemSys := accessWrite p m a (leBytes 4 val.toNat)

/-! ## The rows that state a refused access by itself -/

def Dev.wrongWidthRow (s : Dev) (m : Master) (a width : Nat) : Dev :=
  if s.mayUse m a ∧ regionOf a = some .periph ∧ wordAccess a width = false then s.wrongWidth m a width else s

def Dev.outsideMapRow (s : Dev) (m : Master) (a : Nat) : Dev :=
  if s.mayAccess m ∧ regionOf (s.physical m a) = none then s.refuseAccess m a .outside else s

/-- A read that is denied, else a write that is. -/
def Dev.outsideRightsRow (s : Dev) (m : Master) (a : Nat) : Dev :=
  if s.mayAccess m then
    let pa := s.physical m a
    match s.reach m a pa false, s.reach m a pa true with
    | .denied, _ => s.refuseAccess m a .denied
    | .ok _, .denied => s.refuseAccess m a .denied
    | .ok _, .ignored => s.refuseAccess m a .ignored
    | _, _ => s
  else s

/-- A read of NOW_LO at an offset of the tick (R41). -/
def Dev.readNowLo (s : Dev) (m : Master) (off : Nat) : Dev :=
  s.asMaster m R.TICK_NOW_LO fun d =>
    let r := (d.at off).tickRead m R.TICK_NOW_LO
    r.2.answer m (leBytes 4 r.1.toNat)

/-- The lock register of a block. -/
def lockAddr : LockBlock → Nat
  | .posx => R.POSX_LOCK
  | .lring => R.LRING_LOCK
  | .xcmp => R.XCMP_LOCK

end Sys2Proof.Machine
end

