-- ==== Sys2Proof/Machine/Chain.lean ====
section
/-! DEFINITION. The tick chain (R22, R33 to R39): the sample point with everything that one tick computes, missed phases,
alarms. Within the chain `now` stays at T(k); only the latch reports and the misses carry later instants (assumption 60). -/

namespace Sys2Proof.Machine

/-! ## Missed phases (R35) -/

/-- The deadline of each phase of the tick to come, in cycles from its start (R33); that of phase 0 is the widened end of the
transfer windows, where one is longer than 12 µs (R56). -/
def Dev.deadline (s : Dev) (p : Fin 9) : Nat :=
  match p.val with
  | 0 => max (s.absWindowNext 0) (s.absWindowNext 1) * usCyc
  | 1 => 6000 | 2 => 8000 | 3 => 12000 | 4 => 36000 | 5 => 38000 | 6 => 40000 | 7 => 44000 | _ => 50000

/-- A source of TICK sets its flag in both interrupt registers, whatever the enables hold (R39). -/
def Dev.tickFlag (s : Dev) (bit : Nat) : Dev := (s.setBit R.TICK_IRQ_FOX bit).setBit R.TICK_IRQ_MARTEN bit

/-- The tick whose sample point comes next: tick 0 right after reset, later the next one (R29, R39). (DESIGN CHOICE, log 14) -/
def Dev.nextTick (s : Dev) : Nat := s.tick + b2n s.begun

/-- A producer misses its deadline in the tick that the next SAMPLE_POINT starts: MISS, MISSCNT, the flags and 0x0010. (DEDUCED, log 17; DESIGN CHOICE, log 60) -/
def Dev.phaseMiss (s : Dev) (p : Fin 9) : Dev :=
  let k := s.nextTick
  if s.missTick[p] = k + 1 then s
  else
    let run := s.missRun[p] + 1
    let s1 : Dev := { s with missTick := s.missTick.set p (k + 1), missRun := s.missRun.set p run, now := k * tickCyc + s.deadline p }
    let s2 := ((s1.setBit R.TICK_MISS p.val).satInc (F.TICK_MISSCNT_COUNT p.val)).tickFlag 19
    { s2.log 0x0010 p.val (k % 4294967296) run with now := s.now }

/-- A tick in which a phase was not missed ends its run of misses. -/
def Dev.missRuns (s : Dev) : Dev :=
  { s with missRun := Vector.ofFn fun p => if s.missed p then s.missRun[p] else 0 }

/-! ## Alarms (R39, R40) -/

/-- The tick is one that the alarm's RATE selects, with the setting in force. -/
def Dev.alarmSelects (s : Dev) (n : Nat) : Bool :=
  s.flagF (F.TICK_ALARM_EN n) &&
    (match s.fldF (F.TICK_ALARM_RATE n) with | 1 => s.tick % 8 == 0 | 2 => s.tick % 800 == 0 | _ => true)

/-- The first cycle of the tick at which NOW has reached OFFSET. -/
def Dev.alarmCyc (s : Dev) (n : Nat) : Nat := (2 * s.fldF (F.TICK_ALARM_OFFSET n) + 4) / 5

/-- An alarm that is due fires; a once-alarm clears EN of its setting, not of a later one (R40). -/
def Dev.alarmFire (s : Dev) (n : Fin 4) : Dev :=
  if s.alarmDue[n] then
    let s1 := ({ s with alarmDue := s.alarmDue.set n false }).tickFlag n.val
    if s.fldF (F.TICK_ALARM_RATE n.val) = 3 ∧ s.alarmSet[n] = false then s1.setFlag (F.TICK_ALARM_EN n.val) false else s1
  else s

/-- An alarm of this tick fires at its offset. The two largest offsets are reached in the first cycle of the next tick only: its
sample point fires them. (DESIGN CHOICE, log 19) -/
def Dev.alarm (s : Dev) (n : Fin 4) : Dev :=
  if s.alarmDue[n] ∧ s.alarmCyc n.val < tickCyc then (s.at (s.alarmCyc n.val)).alarmFire n else s

/-- The alarms that a tick selects, found at its sample point. -/
def Dev.alarmsBegin (s : Dev) : Dev :=
  { s with alarmDue := Vector.ofFn fun n => s.alarmSelects n.val, alarmSet := Vector.replicate 4 false }

/-! ## The parts of the chain -/

/-- Time moves to the next tick start; alarms of the old tick that nobody has fired fire first. (DESIGN CHOICE, log 14; DESIGN CHOICE, log 19) -/
def Dev.tickStart (s : Dev) : Dev :=
  let s1 := (((s.alarm 0).alarm 1).alarm 2).alarm 3
  let s2 := { s1 with now := max s.now (s.nextTick * tickCyc), begun := true }
  (((s2.alarmFire 0).alarmFire 1).alarmFire 2).alarmFire 3

/-- The staged dictionary writes apply, the settings come into force, the flags of TICK are raised. (DEDUCED, log 119) -/
def Dev.tickForce (s : Dev) : Dev :=
  let s1 := s.applyStaged
  let s2 := { s1 with force := s1.regs }.schedShow.missRuns.alarmsBegin
  let s3 := s2.tickFlag 16
  let s4 := if s3.tick % 8 = 0 then s3.tickFlag 17 else s3
  if s4.tick % 800 = 0 then s4.tickFlag 18 else s4

/-- Badger closes the last ring cycle, and the results of LRING are delivered, in a tick 8n (R23, R193). -/
def ringTick (p : Dev × MemSys) : Dev × MemSys := if p.1.tick % 8 = 0 then let q := ringCycleStart (badgerRingClose p); (q.1.groupSlots, q.2) else p

/-- IO24 and SOUT at the sample point. -/
def Dev.ioTick (s : Dev) (inp : SampleIn) : Dev :=
  let s1 := (s.inputSample).samplePads inp
  let s2 := (List.finRange 36).foldl Dev.thermAge s1
  s2.tpBegin.torqueDue.torqueStart.torqueStepEnd.soutSample inp

/-- POSX: the counters are frozen and shown, the frames start, fusion runs; after a miss of phase 0 the counters show the tick before,
and after a miss of phase 0 or 1 fusion keeps it, marked STALE (R35, R63). (DEDUCED, log 18) -/
def Dev.posTick (s : Dev) : Dev :=
  let s1 := if s.missed 0 || s.missed 1 then s.setFuse { s.posx.fuse with missNow := true } else s
  let s2 := s1.cntFreezeAll
  (((if s2.missed 0 then s2 else s2.cntShowAll).absStart 0).absStart 1).fuse

/-- CMPL: the reports of captures at 15 µs, and the compare channels. (DESIGN CHOICE, log 60) -/
def Dev.cmplTick (s : Dev) : Dev :=
  let s1 := { (List.finRange 16).foldl Dev.latReport s with now := s.now }
  s1.cmpTick

/-- A channel's STO permit rises as soon as the drive enable is set (R258). (DEDUCED, log 24) -/
def Dev.stoPermit (s : Dev) (c : Chan) : Dev :=
  let old := (s.rd (permReg c)).toNat % 32
  if !(s.ch c).booting && bitN (s.permits c s.driveEn) 4 && !bitN old 4 then s.putPermits c (old + 16) else s

/-- PGEN, and the sequencer's answer to the drive enable. After a miss of phase 2 everything is as the tick before had it. (DEDUCED, log 18; DEDUCED, log 24) -/
def Dev.planTick (s : Dev) : Dev :=
  let s1 := if s.missed 2 then s else s.pgenTick.learnLegEnd
  let s2 := s1.seqContact.stoPermit .b
  if s2.missed 6 then s2 else s2.stoPermit .a

/-- A door's vector as another state had it: the commit of phase 5 was missed (R35). -/
def Dev.keepVec (s old : Dev) (d : Fin 2) : Dev :=
  let s1 := s.setDoor d fun t => { t with vec := (old.doors[d]).vec, vecOld := (old.doors[d]).vecOld }
  ((s1.wr (R.DOOR_AMP d.val) (old.rd (R.DOOR_AMP d.val))).wr (R.DOOR_ANGLE d.val) (old.rd (R.DOOR_ANGLE d.val))).wr (R.DOOR_RATE d.val) (old.rd (R.DOOR_RATE d.val))

/-- The STAT outputs at 95 µs (pad STAT): booted without a fatal error, both channels in RUN, either in LOCKOUT. (DEDUCED, log 26) -/
def Dev.statCommit (s : Dev) : Dev :=
  let l : Vector Bool 3 := #v[s.boot.todo == 0 && !s.memc.martenFatal, s.bothRun, s.chA.state == 3 || s.chB.state == 3]
  s.setIo { s.io with stat := l }

/-- Phases 3 and 4: the doors and the loops, those of the slots below `done` complete where the engine stalled; a missed phase 5
keeps the doors' vectors (R35, R129). (DEDUCED, log 18; DEDUCED, log 17) -/
def Dev.loopTick (s : Dev) (done : Nat) : Dev :=
  let s1 := ((s.driveKeep.doorTick 0).doorTick 1).cengTick done
  if s1.missed 5 then (s1.keepVec s 0).keepVec s 1 else s1

/-- The commit at 95 µs, on the safety demands of its own tick, unless phase 5 was missed (R34, R35, R38). (DEDUCED, log 18) -/
def Dev.commitTick (s : Dev) : Dev :=
  if s.missed 5 then s
  else
    let s1 := ({ s with now := s.now + 38000 }).driveStage
    let s2 := if s1.sout.pfail.isNone then s1.commitOutputs.commitPads.statCommit else s1
    { s2 with now := s.now }

/-- In HOLD Marten issues CLOSE to the doors in use, as master 5 (R162), on entering the state. (DESIGN CHOICE, log 25) -/
def Dev.holdDoors (s : Dev) (before : Nat) : Dev :=
  if s.chA.state = 4 ∧ before ≠ 4 then
    let f (e : Dev) (d : Fin 2) : Dev := if e.doorInUse d.val then e.setMo d fun t => { t with pend := some { m := 5, word := 2, tgt := 0 } } else e
    f (f s 0) 1
  else s

/-- Marten's evaluation, from the state of channel B that it read last; after a miss of phase 6 or a fatal error none. (DEDUCED, log 18) -/
def Dev.safetyTick (s : Dev) (o : ChanSt) : Dev :=
  if s.missed 6 || s.memc.martenFatal then s
  else ((s.martenTick o).safeokTick).holdDoors s.chA.state

/-- XCMP's verdict; none in a tick that misses phase 7 or 8, nor while Marten boots. (DEDUCED, log 18) -/
def Dev.verdictTick (s : Dev) : Dev :=
  if s.missed 7 || s.missed 8 || s.chA.booting then s else s.xcmpTick (s.missed 6 || s.memc.martenFatal)

/-- BID's plan, the handover, presence and the quiet point of the tick. -/
def Dev.restTick (s : Dev) : Dev := s.bidTick.hoStart.hoSnapshot.hoAuthority.presJudge.quietWatch

/-- The counts that a slow tick begins anew (R148, R150). (DEDUCED, log 27) -/
def Dev.slowCounts (s : Dev) : Dev :=
  if s.tick % 800 = 0 then
    { s with posx := { s.posx with cnt := s.posx.cnt.map fun c => { c with illSlow := 0 }, hall := s.posx.hall.map fun c => { c with skips := 0 } } }
  else s

/-- SAMPLE_POINT: every block freezes its inputs at T(k) and the chain of the tick runs on them (R22, R33); it ends at T(k), the
instant that its events carry. (DESIGN CHOICE, log 16; DEDUCED, log 23; DESIGN CHOICE, log 60) -/
def samplePoint (p : Dev × MemSys) (inp : SampleIn) : Dev × MemSys :=
  let q := ringTick (p.1.tickStart.tickForce, p.2)
  let s := q.1
  let o := s.chB
  let s1 := ((s.ioTick inp).badgerTick inp.period).posTick.cmplTick
  let s2 := ((s1.planTick.loopTick inp.slotsDone).safetyTick o).torqueWatch.commitTick
  let r := flightRecord (s2.verdictTick.restTick.slowCounts, q.2)
  ({ r.1 with now := s.now }, r.2)

end Sys2Proof.Machine
end

