-- ==== Sys2Proof/Machine/CmdBoot.lean ====
section
/-! DEFINITION. The commands of images, boot, handover, presence and module exchange (R394 to R413): each is one meaning over the shared operations. -/

namespace Sys2Proof.Machine

/-- IMAGE_OPEN (R396): FSP image OPEN erases the inactive slot of a kind, given the presence level. -/
def execImageOpen (i : Fin 4) (tag : Fin 256) (kind : Nat) (s : State) : Host.Outcome State Fault Refusal :=
  onDev s fun e => e.imageOpen i tag.val kind

/-- IMAGE_DATA (R396): FSP image DATA writes bytes into the inactive slot. -/
def execImageData (i : Fin 4) (tag : Fin 256) (offset : Nat) (bytes : List Byte) (s : State) : Host.Outcome State Fault Refusal :=
  onDev s fun e => e.imageData i tag.val offset bytes

/-- IMAGE_CLOSE (R396): FSP image CLOSE verifies the staged image and logs 0xA001 or 0xA002. -/
def execImageClose (i : Fin 4) (tag : Fin 256) (s : State) : Host.Outcome State Fault Refusal :=
  onAll s fun q => imageClose q i tag.val

/-- BOOT (R397): After a reset the module initialises memory, checks images, combination, set and map, and starts the runtimes and ports. -/
def execBoot (s : State) : Host.Outcome State Fault Refusal :=
  onAll s fun q => boot q

/-- HANDOVER_LOAD (R401): HOCMD = 1 loads the staged image into DRAM as the candidate. -/
def execHandoverLoad (m : Master) (s : State) : Host.Outcome State Fault Refusal :=
  onDev s fun e => e.wordWrite m R.BOOT_HOCMD 1

/-- CANDIDATE_READY (R401): The candidate reports ready and HOSTATE becomes 2, or it is refused for its LEVEL. -/
def execCandidateReady (off : Nat) (s : State) : Host.Outcome State Fault Refusal :=
  onDev s fun e => (e.at off).hoReady

/-- HANDOVER_REQUEST (R401): HOCMD = 2 makes the module wait for a quiet point. -/
def execHandoverRequest (m : Master) (s : State) : Host.Outcome State Fault Refusal :=
  onDev s fun e => e.wordWrite m R.BOOT_HOCMD 2

/-- HANDOVER_DISCARD (R401): HOCMD = 3 discards the candidate. -/
def execHandoverDiscard (m : Master) (s : State) : Host.Outcome State Fault Refusal :=
  onDev s fun e => e.wordWrite m R.BOOT_HOCMD 3

/-- HANDOVER_START (R402): At the first tick with a quiet point, both channels in RUN and BID idle, QUAR is set and the old image stops. -/
def execHandoverStart (s : State) : Host.Outcome State Fault Refusal :=
  onDev s fun e => e.hoStart

/-- HANDOVER_SNAPSHOT (R402): At tick q + 1 the dictionary snapshot is taken and given to the candidate. -/
def execHandoverSnapshot (s : State) : Host.Outcome State Fault Refusal :=
  onDev s fun e => e.hoSnapshot

/-- HANDOVER_AUTHORITY (R402): At tick q + 2 the candidate becomes the application, awaiting CONFIRM. -/
def execHandoverAuthority (s : State) : Host.Outcome State Fault Refusal :=
  onDev s fun e => e.hoAuthority

/-- CONFIRM (R403): A write to BOOT.CONFIRM within the window clears QUAR and makes the new slot active. -/
def execConfirm (m : Master) (val : Word) (s : State) : Host.Outcome State Fault Refusal :=
  onDev s fun e => e.wordWrite m R.BOOT_CONFIRM val

/-- HANDOVER_REVERT (R403): No CONFIRM within the window, or a fatal error, resumes the old image. -/
def execHandoverRevert (fatal : Bool) (s : State) : Host.Outcome State Fault Refusal :=
  onDev s fun e => e.hoRevert fatal

/-- KEY_INPUT (R404): The filtered KEY inputs change, which changes KEY activity or flags a disagreement. -/
def execKeyInput (l0 : Bool) (l1 : Bool) (s : State) : Host.Outcome State Fault Refusal :=
  onDev s fun e => e.keyInput l0 l1

/-- SEAL_INPUT (R404): The seal loop reads open or closed after its filter time. -/
def execSealInput (closed : Bool) (s : State) : Host.Outcome State Fault Refusal :=
  onDev s fun e => e.sealInput closed

/-- LID_BUTTON_PRESS (R404): A lid-button press is accepted on release and refreshes presence. -/
def execLidButtonPress (s : State) : Host.Outcome State Fault Refusal :=
  onDev s fun e => e.lidPress

/-- LID_BUTTON_STUCK (R404): The lid button is held for 10 s, so STUCK is set and 0xA013 is logged. -/
def execLidButtonStuck (s : State) : Host.Outcome State Fault Refusal :=
  onDev s fun e => e.lidStuck

/-- SAFEOK_WRITE (R404): Master 5 writes PRES.SAFEOK. -/
def execSafeokWrite (m : Master) (val : Word) (s : State) : Host.Outcome State Fault Refusal :=
  onDev s fun e => e.wordWrite m R.PRES_SAFEOK val

/-- PRESENCE_TIMEOUT (R405): The 60 s or 600 s since the last press ends, so the presence level falls. -/
def execPresenceTimeout (s : State) : Host.Outcome State Fault Refusal :=
  onDev s fun e => e.presJudge

/-- DEBUG_UNLOCK (R407): A write of PRES.DEBUG at level 2 enables master 10 until the next module reset. -/
def execDebugUnlock (m : Master) (val : Word) (s : State) : Host.Outcome State Fault Refusal :=
  onDev s fun e => e.wordWrite m R.PRES_DEBUG val

/-- BACKUP_CHUNK_SEND (R408): The car sends the next chunk of its car backup, at most one per ring cycle. -/
def execBackupChunkSend (s : State) : Host.Outcome State Fault Refusal :=
  onDev s fun e => e.chunkSend

/-- ADOPT (R409): A write to 0x2904:01 sends BACKUP_REQ to adopt a car's identity. -/
def execAdopt (c : Client) (inst : Nat) (car : Nat) (s : State) : Host.Outcome State Fault Refusal :=
  onDev s fun e => e.direct c 0x2904 1 (leBytes 8 (inst % 2 ^ 32 + car * 2 ^ 32))

/-- BACKUP_APPLIED (R409): A complete matching backup is applied, staging the set and the map, and VERIFYPEND is set. -/
def execBackupApplied (s : State) : Host.Outcome State Fault Refusal :=
  onDev s fun e => e.backupApplied

/-- VERIFICATION_START (R410): A write of 1 to 0x2904:03 starts the verification run along the learning legs. -/
def execVerificationStart (c : Client) (s : State) : Host.Outcome State Fault Refusal :=
  onDev s fun e => e.direct c 0x2904 3 [1]

/-- VERIFICATION_END (R410): The verification run ends and passes or fails, which clears VERIFYPEND on a pass. -/
def execVerificationEnd (s : State) : Host.Outcome State Fault Refusal :=
  onDev s fun e => e.verificationEnd

/-- KEY_CHANNELS_DISAGREE (R404): KEY[0] and KEY[1] have disagreed throughout 500 ms, so KEY counts as inactive, STATUS.KEYFLT is set and event 0xA012 is logged. -/
def execKeyChannelsDisagree (s : State) : Host.Outcome State Fault Refusal :=
  onDev s fun e => e.keyDisagree

/-- KEY_CHANNELS_AGREE (R404): After a KEY fault, both KEY inputs have read alike throughout 1 s, so KEYFLT clears and KEY is judged again. -/
def execKeyChannelsAgree (s : State) : Host.Outcome State Fault Refusal :=
  onDev s fun e => e.keyAgree

/-- LID_BUTTON_REARM (R404): A stuck lid button has been released throughout 1 s, so STUCK clears and presses are accepted again. -/
def execLidButtonRearm (s : State) : Host.Outcome State Fault Refusal :=
  onDev s fun e => e.lidRearm

end Sys2Proof.Machine
end

