-- ==== Sys2Proof/Machine/CmdCores.lean ====
section
/-! DEFINITION. The commands of mailboxes, locks and parking (R362 to R372): each is one meaning over the shared operations. -/

namespace Sys2Proof.Machine

/-- MAILBOX_SEND (R363): A DESC write with SEND posts a message, enters FENCEWAIT, or sets OVF on a full channel. -/
def execMailboxSend (m : Master) (n : Fin 16) (val : Word) (s : State) : Host.Outcome State Fault Refusal :=
  onDev s fun e => e.wordWrite m (R.MBOX_CH_DESC n.val) val

/-- MAILBOX_FENCE_POST (R363): The sender's earlier writes complete, so the fenced message is posted. -/
def execMailboxFencePost (n : Fin 16) (s : State) : Host.Outcome State Fault Refusal :=
  onDev s fun e => e.fencePost n

/-- MAILBOX_TAKE (R364): The receiver writes TAKE, which empties the channel and raises EMPTY to the sender. -/
def execMailboxTake (m : Master) (n : Fin 16) (s : State) : Host.Outcome State Fault Refusal :=
  onDev s fun e => e.wordWrite m (R.MBOX_CH_TAKE n.val) 1

/-- CROSS_WAIT (R365): Two opposite full channels stay untaken for 256 µs, so XWAIT is set and 0x0020 is logged. -/
def execCrossWait (a : Fin 16) (b : Fin 16) (s : State) : Host.Outcome State Fault Refusal :=
  onDev s fun e => e.crossWait a b

/-- LOCK_READ (R368): A read of an MBOX lock acquires a free lock or returns its owner. -/
def execLockRead (m : Master) (l : Fin 32) (s : State) : Host.Outcome State Fault Refusal :=
  onDev s fun e => e.asMaster m (R.MBOX_LOCK l.val) fun d => d.lockRead m l

/-- LOCK_RELEASE (R368): The owner writes 0 to an MBOX lock and releases it. -/
def execLockRelease (m : Master) (l : Fin 32) (val : Word) (s : State) : Host.Outcome State Fault Refusal :=
  onDev s fun e => e.wordWrite m (R.MBOX_LOCK l.val) val

/-- PARK_REQUEST (R370): Master 1 writes PARK.REQ, and MBOX refuses or starts parking Fox. -/
def execParkRequest (m : Master) (halted : Fin 16) (s : State) : Host.Outcome State Fault Refusal :=
  onDev s fun e => e.asMaster m R.MBOX_PARK fun d => (d.parkRequest m halted).answer m []

/-- PARKED (R370): Parking completes with the APP domain gated and DRAM in self-refresh. -/
def execParked (s : State) : Host.Outcome State Fault Refusal :=
  onDev s fun e => e.parked

/-- FOX_WAKE (R371): A post on a waking channel while parked powers the APP domain and starts core 0's resume path. -/
def execFoxWake (s : State) : Host.Outcome State Fault Refusal :=
  onDev s fun e => e.foxWake

/-- PARK_START (R371): Master 1 writes PARK.START to release halted cores after a wake. -/
def execParkStart (m : Master) (val : Word) (s : State) : Host.Outcome State Fault Refusal :=
  onDev s fun e => e.asMaster m R.MBOX_PARK fun d => (d.parkStart m val).answer m []

end Sys2Proof.Machine
end

