-- ==== Sys2Proof/Machine/CmdDispatch.lean ====
section
/-! DEFINITION. The commands of calls and the group auction (R210 to R235): each is one meaning over the shared operations. -/

namespace Sys2Proof.Machine

/-- BID_CAR_CALL (R232): BID enters a car call at the lowest-cost feasible position. -/
def execBidCarCall (m : Master) (arg : Word) (tag : Fin 256) (s : State) : Host.Outcome State Fault Refusal :=
  onDev s fun e => e.asMaster m R.BID_CMD fun d => (d.bidCommand m 1 arg tag).answer m []

/-- BID_HALL_CALL (R223): BID enters a hall call, merging duplicates, and announces it to the group. -/
def execBidHallCall (m : Master) (arg : Word) (tag : Fin 256) (s : State) : Host.Outcome State Fault Refusal :=
  onDev s fun e => e.asMaster m R.BID_CMD fun d => (d.bidCommand m 2 arg tag).answer m []

/-- BID_DESTINATION_CALL (R223): BID enters a destination call and announces it to the group. -/
def execBidDestinationCall (m : Master) (arg : Word) (tag : Fin 256) (s : State) : Host.Outcome State Fault Refusal :=
  onDev s fun e => e.asMaster m R.BID_CMD fun d => (d.bidCommand m 3 arg tag).answer m []

/-- BID_SERVED (R230): Firmware reports a served pickup or drop-off, so BID sends SERVED and updates the plan and the table. -/
def execBidServed (m : Master) (arg : Word) (tag : Fin 256) (s : State) : Host.Outcome State Fault Refusal :=
  onDev s fun e => e.asMaster m R.BID_CMD fun d => (d.bidCommand m 4 arg tag).answer m []

/-- BID_CLEAR_CAR_CALLS (R231): BID clears the car calls of one landing or of all landings. -/
def execBidClearCarCalls (m : Master) (arg : Word) (tag : Fin 256) (s : State) : Host.Outcome State Fault Refusal :=
  onDev s fun e => e.asMaster m R.BID_CMD fun d => (d.bidCommand m 5 arg tag).answer m []

/-- BID_RELEASE_ALL (R228): BID releases every group call it holds and sends RELEASE. -/
def execBidReleaseAll (m : Master) (tag : Fin 256) (s : State) : Host.Outcome State Fault Refusal :=
  onDev s fun e => e.asMaster m R.BID_CMD fun d => (d.bidCommand m 6 (d.rd R.BID_ARG) tag).answer m []

/-- BID_UNKNOWN_OP (R235): A BID command with an unknown OP gets code 0x1C. -/
def execBidUnknownOp (m : Master) (op : Fin 16) (tag : Fin 256) (s : State) : Host.Outcome State Fault Refusal :=
  onDev s fun e => e.asMaster m R.BID_CMD fun d => (d.bidUnknown m op.val tag).answer m []

/-- ANNOUNCE (R224): An ANNOUNCE is recorded and queued for evaluation, or answered with a no-bid. -/
def execAnnounce (content : List Byte) (s : State) : Host.Outcome State Fault Refusal :=
  onDev s fun e => e.bidTake 0x41 20 content fun d => d.onAnnounce content

/-- BID (R225): A BID within the window is collected, and the auction closes when every bidding car has answered. -/
def execBid (content : List Byte) (s : State) : Host.Outcome State Fault Refusal :=
  onDev s fun e => e.bidTake 0x42 15 content fun d => d.onBid content

/-- AWARD (R226): An AWARD is recorded, and the winner re-searches its plan, inserts the call and sends ACCEPT. -/
def execAward (content : List Byte) (s : State) : Host.Outcome State Fault Refusal :=
  onDev s fun e => e.bidOrder (.award content)

/-- HEARTBEAT (R222): A HEARTBEAT refreshes group membership and may clear ISOLATED and start a rejoin. -/
def execHeartbeat (content : List Byte) (s : State) : Host.Outcome State Fault Refusal :=
  onDev s fun e => e.bidTake 0x44 6 content fun d => d.onHeartbeat content

/-- GROUP_RELEASE (R228): A RELEASE from a car makes it drop out, and its assigned calls are re-announced. -/
def execGroupRelease (content : List Byte) (s : State) : Host.Outcome State Fault Refusal :=
  onDev s fun e => e.bidOrder (.groupRelease content)

/-- GROUP_SERVED (R230): A received SERVED updates the call table. -/
def execGroupServed (content : List Byte) (s : State) : Host.Outcome State Fault Refusal :=
  onDev s fun e => e.bidOrder (.groupServed content)

/-- ACCEPT (R226): An ACCEPT completes the award or, with result 1, starts a new auction. -/
def execAccept (content : List Byte) (s : State) : Host.Outcome State Fault Refusal :=
  onDev s fun e => e.bidTake 0x47 5 content fun d => d.onAccept content

/-- BACKUP (R408): A BACKUP chunk is passed to BOOT and collected into the sender's car backup. -/
def execBackup (content : List Byte) (s : State) : Host.Outcome State Fault Refusal :=
  onDev s fun e => e.onBackup content

/-- BACKUP_REQ (R409): A BACKUP_REQ makes the lowest-numbered car holding that backup send it in full. -/
def execBackupReq (content : List Byte) (s : State) : Host.Outcome State Fault Refusal :=
  onDev s fun e => e.onBackupReq content

/-- BID_EVALUATION (R217): BID takes the next queued announcement and prices every insertion to form a bid. -/
def execBidEvaluation (s : State) : Host.Outcome State Fault Refusal :=
  onDev s fun e => e.bidEvaluation

/-- EVALUATION_END (R214): An evaluation ends, its bid is sent, and the plan changes held back during it are applied. -/
def execEvaluationEnd (us : Nat) (s : State) : Host.Outcome State Fault Refusal :=
  onDev s fun e => e.evaluationEnd us

/-- AUCTION_DEADLINE (R225): The bid window ends, so the announcer closes the auction and sends AWARD. -/
def execAuctionDeadline (id : Nat) (s : State) : Host.Outcome State Fault Refusal :=
  onDev s fun e => e.bidFresh.auctionDeadline id

/-- REANNOUNCE_TIMER (R225): A call with no bid is announced again after 0x2500:04. -/
def execReannounceTimer (id : Nat) (s : State) : Host.Outcome State Fault Refusal :=
  onDev s fun e => e.bidFresh.reannounce id

/-- REAUCTION_TIMER (R227): The holder re-auctions an unanswered call every 0x2500:04 ms. -/
def execReauctionTimer (id : Nat) (s : State) : Host.Outcome State Fault Refusal :=
  onDev s fun e => e.bidFresh.reauction id

/-- ACCEPT_TIMEOUT (R226): No ACCEPT arrives within one deadline, so the AWARD is repeated, or the call is treated as released. -/
def execAcceptTimeout (id : Nat) (s : State) : Host.Outcome State Fault Refusal :=
  onDev s fun e => e.bidFresh.acceptTimeout id

/-- HEARTBEAT_LOSS (R222): A car's heartbeat has not arrived within 0x2500:06, so it leaves the group and its calls are re-announced. -/
def execHeartbeatLoss (car : Nat) (s : State) : Host.Outcome State Fault Refusal :=
  onDev s fun e => e.bidFresh.bidOrder (.heartbeatLoss car)

end Sys2Proof.Machine
end

