-- ==== Sys2Proof/Machine/CmdDoor.lean ====
section
/-! DEFINITION. The commands of the doors (R134 to R179): each is one meaning over the shared operations. -/

namespace Sys2Proof.Machine

/-- CARRIER_PERIOD_START (R137): A door carrier period starts, samples currents and voltages and drives the gates from the vector in force. -/
def execCarrierPeriodStart (d : Fin 2) (adc : CarrierAdc) (s : State) : Host.Outcome State Fault Refusal :=
  onDev s fun e => e.carrier d adc

/-- BRIDGE_FAULT (R146): BFLT is active throughout its filter window, so BRFLT latches and the gates and DRVEN go low. -/
def execBridgeFault (d : Fin 2) (s : State) : Host.Outcome State Fault Refusal :=
  onDev s fun e => e.bridgeFault d

/-- DOOR_FAULT_CLEAR (R146): A W1C write to a door fault bit clears it only while its condition is absent. -/
def execDoorFaultClear (m : Master) (d : Fin 2) (val : Word) (bflt : Bool) (s : State) : Host.Outcome State Fault Refusal :=
  onDev s fun e => e.asMaster m (R.DOOR_STATUS d.val) fun x => (x.doorFaultClear d val bflt).answer m []

/-- DOOR_ALIGN (R152): A write of CTRL.ALIGN starts rotor alignment at angle 0x4000. -/
def execDoorAlign (m : Master) (d : Fin 2) (s : State) : Host.Outcome State Fault Refusal :=
  onDev s fun e => e.asMaster m (R.DOOR_CTRL d.val) fun x => (x.alignStart m d).answer m []

/-- ALIGN_STEP_END (R152): A 300 ms alignment step ends, so the next step starts or ANGOFS is judged and set. -/
def execAlignStepEnd (d : Fin 2) (s : State) : Host.Outcome State Fault Refusal :=
  onDev s fun e => e.alignStep d

/-- DOOR_OPEN (R160): A door unit adopts OPEN, checks it and targets the stroke W. (DESIGN CHOICE, log 47) -/
def execDoorOpen (m : Master) (d : Fin 2) (tag : Fin 256) (s : State) : Host.Outcome State Fault Refusal :=
  onDev s fun e => e.asMaster m (R.DOOR_MOVE d.val) fun x => x.doorCmd m d 1 0 tag.val

/-- DOOR_CLOSE (R160): A door unit adopts CLOSE, checks it and targets position 0. -/
def execDoorClose (m : Master) (d : Fin 2) (tag : Fin 256) (s : State) : Host.Outcome State Fault Refusal :=
  onDev s fun e => e.asMaster m (R.DOOR_MOVE d.val) fun x => x.doorCmd m d 2 0 tag.val

/-- DOOR_MOVETO (R160): A door unit adopts MOVETO to MTGT after checks. -/
def execDoorMoveto (m : Master) (d : Fin 2) (mtgt : Word) (tag : Fin 256) (s : State) : Host.Outcome State Fault Refusal :=
  onDev s fun e => e.asMaster m (R.DOOR_MOVE d.val) fun x => x.doorCmd m d 3 mtgt tag.val

/-- DOOR_PAUSE (R162): A door unit adopts PAUSE, decelerates and keeps the target. -/
def execDoorPause (m : Master) (d : Fin 2) (tag : Fin 256) (s : State) : Host.Outcome State Fault Refusal :=
  onDev s fun e => e.asMaster m (R.DOOR_MOVE d.val) fun x => x.doorCmd m d 4 0 tag.val

/-- DOOR_RESUME (R162): A door unit adopts RESUME and replans to the kept target. -/
def execDoorResume (m : Master) (d : Fin 2) (tag : Fin 256) (s : State) : Host.Outcome State Fault Refusal :=
  onDev s fun e => e.asMaster m (R.DOOR_MOVE d.val) fun x => x.doorCmd m d 5 0 tag.val

/-- DOOR_NUDGE (R160): A door unit adopts NUDGE and closes with the curtain ignored under the nudge energy cap. -/
def execDoorNudge (m : Master) (d : Fin 2) (tag : Fin 256) (s : State) : Host.Outcome State Fault Refusal :=
  onDev s fun e => e.asMaster m (R.DOOR_MOVE d.val) fun x => x.doorCmd m d 6 0 tag.val

/-- DOOR_RELEASE (R160): A door unit adopts RELEASE, discards the target, sets the current limits to 0 and enters IDLE. -/
def execDoorRelease (m : Master) (d : Fin 2) (tag : Fin 256) (s : State) : Host.Outcome State Fault Refusal :=
  onDev s fun e => e.asMaster m (R.DOOR_MOVE d.val) fun x => x.doorCmd m d 7 0 tag.val

/-- DOOR_LEARN (R175): A door unit adopts LEARN and starts the learning run. -/
def execDoorLearn (m : Master) (d : Fin 2) (tag : Fin 256) (s : State) : Host.Outcome State Fault Refusal :=
  onDev s fun e => e.asMaster m (R.DOOR_MOVE d.val) fun x => x.doorCmd m d 8 0 tag.val

/-- DOOR_UNKNOWN_OP (R161): A door command with an unknown OP is rejected with code 0x1C. (DESIGN CHOICE, log 47) -/
def execDoorUnknownOp (m : Master) (d : Fin 2) (op : Fin 16) (tag : Fin 256) (s : State) : Host.Outcome State Fault Refusal :=
  onDev s fun e => e.asMaster m (R.DOOR_MOVE d.val) fun x => x.doorUnknown m d op.val tag.val

/-- DOOR_ARRIVAL (R163): In the end zone the speed has stayed below 5,000 µm/s for 100 ms, so the door reports CLOSED or OPEN and holds. -/
def execDoorArrival (d : Fin 2) (s : State) : Host.Outcome State Fault Refusal :=
  onDev s fun e => e.doorArrival d

/-- HOLDING_REDUCTION (R164): Standstill at an end throughout the reduction delay lowers the holding limit and sets REDUCED. -/
def execHoldingReduction (d : Fin 2) (s : State) : Host.Outcome State Fault Refusal :=
  onDev s fun e => e.holdReduce d

/-- OBSTRUCTION_TRIP (R168): An obstruction criterion holds throughout its window, so the door reverses while closing or stops while opening. -/
def execObstructionTrip (d : Fin 2) (cause : Fin 8) (s : State) : Host.Outcome State Fault Refusal :=
  onDev s fun e => e.obstructBy d cause.val

/-- REVERSAL_COMPLETE (R169): The reversing reference reaches zero speed, so the door enters OPENING, or PAUSED after an opening stop. -/
def execReversalComplete (d : Fin 2) (s : State) : Host.Outcome State Fault Refusal :=
  onDev s fun e => e.reversalRow d

/-- LIGHT_CURTAIN_ACTIVE (R171): The light curtain becomes active during CLOSING, so the door reverses with code 0x04. -/
def execLightCurtainActive (d : Fin 2) (s : State) : Host.Outcome State Fault Refusal :=
  onDev s fun e => e.curtainTrip d

/-- DOOR_ZONE_WRITE (R174): Marten writes DOOR[d].ZONE, and a loss of OPENOK while opening turns the move into CLOSE. -/
def execDoorZoneWrite (m : Master) (d : Fin 2) (val : Word) (s : State) : Host.Outcome State Fault Refusal :=
  onDev s fun e => e.wordWrite m (R.DOOR_ZONE d.val) val

/-- DOOR_PERMIT_WRITE (R145): Marten writes DOOR[d].PERMIT, and its loss drops DRVEN and discards any target. -/
def execDoorPermitWrite (m : Master) (d : Fin 2) (val : Word) (s : State) : Host.Outcome State Fault Refusal :=
  onDev s fun e => e.wordWrite m (R.DOOR_PERMIT d.val) val

/-- DOOR_LEARN_STEP_END (R175): A step of the door learning run ends, so the next step starts or the run completes or aborts. -/
def execDoorLearnStepEnd (d : Fin 2) (s : State) : Host.Outcome State Fault Refusal :=
  onDev s fun e => e.learnDoorStep d

end Sys2Proof.Machine
end

