-- ==== Sys2Proof/Machine/CmdField.lean ====
section
/-! DEFINITION. The commands of the 24 V inputs and outputs (R294 to R312): each is one meaning over the shared operations. -/

namespace Sys2Proof.Machine

/-- INPUT_LEVEL_ACCEPTED (R295): A 24 V input has held a new level throughout its filter window, so the level is accepted. -/
def execInputLevelAccepted (pin : InPin) (lvl : Bool) (ed : EdgeAt) (s : State) : Host.Outcome State Fault Refusal :=
  onDev s fun e => e.inputAccepted pin lvl ed.held ed.off

/-- TEST_PULSE_WINDOW (R297): A TP output goes low for its scheduled pulse window. -/
def execTestPulseWindow (t : Fin 4) (s : State) : Host.Outcome State Fault Refusal :=
  onDev s fun e => e.pulseWindow t

/-- TEST_PULSE_JUDGE (R299): At the end of a pulse window each channel judges the inputs it feeds and may latch a test fault. -/
def execTestPulseJudge (t : Fin 4) (j : PulseReading) (s : State) : Host.Outcome State Fault Refusal :=
  onDev s fun e => e.pulseJudge t j

/-- CHAIN_TAP_ORDER (R301): A tap reads energised above a de-energised lower tap for 500 ms, so 0x6030 is logged. -/
def execChainTapOrder (s : State) : Host.Outcome State Fault Refusal :=
  onDev s fun e => e.chainTapOrder

/-- OUTSET_WRITE (R303): A write to OUTSET sets bits of OUTCMD. -/
def execOutsetWrite (m : Master) (val : Word) (s : State) : Host.Outcome State Fault Refusal :=
  onDev s fun e => e.wordWrite m R.IO24_OUTSET val

/-- OUTCLR_WRITE (R303): A write to OUTCLR clears bits of OUTCMD. -/
def execOutclrWrite (m : Master) (val : Word) (s : State) : Host.Outcome State Fault Refusal :=
  onDev s fun e => e.wordWrite m R.IO24_OUTCLR val

/-- THERMAL_SHUTDOWN (R305): A pad reaches 165 °C and turns off, or latches off on its fourth shutdown within 60 s. -/
def execThermalShutdown (p : Fin 36) (ma : Nat) (off : Nat) (s : State) : Host.Outcome State Fault Refusal :=
  onDev s fun e => e.thermalShutdown p ma off

/-- THERMAL_RESTART (R305): A pad in thermal shutdown cools below 145 °C and restarts. -/
def execThermalRestart (p : Fin 36) (s : State) : Host.Outcome State Fault Refusal :=
  onDev s fun e => e.thermalRestart p

/-- OPEN_LOAD (R305): An on pad draws less than 5 mA for 100 ms, so code 4 is reported. -/
def execOpenLoad (p : Fin 36) (ma : Nat) (s : State) : Host.Outcome State Fault Refusal :=
  onDev s fun e => e.openLoad p ma

/-- CLEAR_FAULT (R307): A write to IO24.CLRF clears a pad's latched code when permitted. -/
def execClearFault (m : Master) (val : Word) (off : Nat) (s : State) : Host.Outcome State Fault Refusal :=
  onDev s fun e => (e.at off).asMaster m R.IO24_CLRF fun d => (d.clearFault val).answer m []

/-- FIELD_SUPPLY_STATE_CHANGE (R308): A field supply changes between OK, UV and LOSS after its threshold times. -/
def execFieldSupplyStateChange (f : Fin 2) (st : SupplyState) (mv : Nat) (s : State) : Host.Outcome State Fault Refusal :=
  onDev s fun e => e.supplyChange f st mv

/-- CHANNEL_REMAP (R309): A write to an input or output map is checked and moves the logical channel to another pad. -/
def execChannelRemap (m : Master) (out : Bool) (n : Fin 52) (val : Word) (s : State) : Host.Outcome State Fault Refusal :=
  onDev s fun e => e.wordWrite m (if out then R.IO24_OUTMAP n.val else R.IO24_INCFG n.val) val

end Sys2Proof.Machine
end

