-- ==== Sys2Proof/Machine/CmdMemory.lean ====
section
/-! DEFINITION. The commands of the memories, their correction and the DMA controller (R339 to R361): each is one meaning over the shared operations. -/

namespace Sys2Proof.Machine

/-- MEMORY_READ (R342): A memory read delivers data, corrects a single error, or reports an uncorrectable error to its reader. -/
def execMemoryRead (m : Master) (addr : Nat) (len : Nat) (s : State) : Host.Outcome State Fault Refusal :=
  onAll s fun q => accessRead q m addr len

/-- MEMORY_WRITE (R345): A memory write stores a whole code word, or merges a narrower write by read-modify-write or aborts it on a poisoned word. -/
def execMemoryWrite (m : Master) (addr : Nat) (bytes : List Byte) (s : State) : Host.Outcome State Fault Refusal :=
  onAll s fun q => accessWrite q m addr bytes

/-- FLIP_ARM (R347): A write of FLIP_CTRL.ARM arms error injection on the next whole-word write to the address. -/
def execFlipArm (m : Master) (val : Word) (s : State) : Host.Outcome State Fault Refusal :=
  onAll s fun q => busWrite q m R.MEMC_FLIP_CTRL val

/-- ANT_SCRUB (R348): Ant reads an SRAM word in an idle cycle and rewrites it if correctable. -/
def execAntScrub (addr : Nat) (s : State) : Host.Outcome State Fault Refusal :=
  onAll s fun q => antScrub q addr

/-- WEEVIL_LINE (R349): Weevil reads a due DRAM line and rewrites its correctable words. -/
def execWeevilLine (s : State) : Host.Outcome State Fault Refusal :=
  onAll s fun q => weevRow q

/-- WEEVIL_VISIT (R349): While DRAM is in self-refresh, Weevil wakes it every VISIT seconds and reads every due line. -/
def execWeevilVisit (s : State) : Host.Outcome State Fault Refusal :=
  onAll s fun q => weevVisit q

/-- FUSE_PROGRAM (R351): A write to MEMC.FUSE_PROG at level 2 starts programming an SRAM fuse record. -/
def execFuseProgram (m : Master) (val : Word) (s : State) : Host.Outcome State Fault Refusal :=
  onAll s fun q => busWrite q m R.MEMC_FUSE_PROG val

/-- FUSE_PROGRAM_DONE (R351): Fuse programming ends and RESULT reports done or FULL. -/
def execFuseProgramDone (s : State) : Host.Outcome State Fault Refusal :=
  onDev s fun e => e.fuseDone

/-- PPR_REQUEST (R352): A write to MEMC.PPR_REQ schedules post-package repair of a DRAM row for the next boot. -/
def execPprRequest (m : Master) (val : Word) (s : State) : Host.Outcome State Fault Refusal :=
  onAll s fun q => busWrite q m R.MEMC_PPR_REQ val

/-- FLASH_HEALTH_READ (R353): FLSH reads the NAND health report every hour and logs warning or urgent states. -/
def execFlashHealthRead (life : Nat) (preeol : Fin 4) (s : State) : Host.Outcome State Fault Refusal :=
  onDev s fun e => e.flashHealth life preeol.val

/-- BLOCK_FENCE_WRITE (R356): A write to BLOCK.FENCE completes only after the master's earlier writes have taken effect. (DEDUCED, log 34) -/
def execBlockFenceWrite (m : Master) (blk : Fin 27) (_val : Word) (s : State) : Host.Outcome State Fault Refusal :=
  onDev s fun e => e.asMaster m (0x4000FFFC + 0x10000 * blk.val) fun d => d.answer m []

/-- DMA_START (R358): CTRL.START starts a DMA channel on its descriptor chain at HEAD. -/
def execDmaStart (m : Master) (c : Fin 8) (s : State) : Host.Outcome State Fault Refusal :=
  onAll s fun q => busWrite q m (R.MEMC_DMA_CTRL c.val) (BitVec.ofNat 32 (3 + 8 * b2n (bitN (q.1.rd (R.MEMC_DMA_CTRL c.val)).toNat 3)))

/-- DMA_ABORT (R359): CTRL.ABORT stops a channel after the burst in progress, with ECODE 5. -/
def execDmaAbort (m : Master) (c : Fin 8) (s : State) : Host.Outcome State Fault Refusal :=
  onAll s fun q => busWrite q m (R.MEMC_DMA_CTRL c.val) (q.1.rd (R.MEMC_DMA_CTRL c.val) ||| 4)

/-- DMA_DESCRIPTOR_DONE (R358): A descriptor's transfer completes, so STAT is written and the channel continues or ends the chain. -/
def execDmaDescriptorDone (c : Fin 8) (s : State) : Host.Outcome State Fault Refusal :=
  onAll s fun q => dmaDone q c

end Sys2Proof.Machine
end

