-- ==== Sys2Proof/Machine/CmdMotion.lean ====
section
/-! DEFINITION. The commands of the shaft map, trips and the control loops (R74 to R131): each is one meaning over the shared operations. -/

namespace Sys2Proof.Machine

/-- LEARNING_START (R78): A write of 1 to 0x2107:01 starts the shaft learning run with the down leg. -/
def execLearningStart (c : Client) (s : State) : Host.Outcome State Fault Refusal :=
  onDev s fun e => e.direct c 0x2107 1 [1]

/-- LEARNING_ABORT (R78): A write of 0 to 0x2107:01 aborts the learning run with reason 4. -/
def execLearningAbort (c : Client) (s : State) : Host.Outcome State Fault Refusal :=
  onDev s fun e => e.direct c 0x2107 1 [0]

/-- LEARNING_LEG_END (R80): A learning leg stops after its run-out, so the next leg starts or the run ends as done or failed. -/
def execLearningLegEnd (s : State) : Host.Outcome State Fault Refusal :=
  onDev s fun e => e.learnLegEnd

/-- MAP_ACCEPT (R265): A write to 0x2105:04 equal to the candidate CRC makes Marten transfer the candidate map to Badger through BMAP. -/
def execMapAccept (c : Client) (crc : Word) (s : State) : Host.Outcome State Fault Refusal :=
  onDev s fun e => e.direct c 0x2105 4 (leBytes 4 crc.toNat)

/-- PGEN_GO (R98): PGEN adopts a GO, checks it and adopts or retargets the target, or rejects it with a code. (DESIGN CHOICE, log 47) -/
def execPgenGo (m : Master) (target : Word) (postgt : Bool) (earliest : Bool) (tag : Fin 256) (s : State) : Host.Outcome State Fault Refusal :=
  onDev s fun e => e.asMaster m R.PGEN_CMD fun d => d.pgGo m target postgt earliest tag.val

/-- PGEN_STOP (R102): PGEN adopts STOP and plans a controlled stop with the target kept. -/
def execPgenStop (m : Master) (tag : Fin 256) (s : State) : Host.Outcome State Fault Refusal :=
  onDev s fun e => e.asMaster m R.PGEN_CMD fun d => d.pgStop m tag.val

/-- PGEN_RESUME (R442): PGEN adopts RESUME, checks it and replans from standstill to the kept target. -/
def execPgenResume (m : Master) (tag : Fin 256) (s : State) : Host.Outcome State Fault Refusal :=
  onDev s fun e => e.asMaster m R.PGEN_CMD fun d => d.pgResume m false tag.val

/-- PGEN_START (R442): PGEN adopts START after a safety stop, checks it and continues towards the kept target. -/
def execPgenStart (m : Master) (tag : Fin 256) (s : State) : Host.Outcome State Fault Refusal :=
  onDev s fun e => e.asMaster m R.PGEN_CMD fun d => d.pgResume m true tag.val

/-- PGEN_CANCEL (R102): PGEN adopts CANCEL, discards the target and, when moving, plans a controlled stop. -/
def execPgenCancel (m : Master) (tag : Fin 256) (s : State) : Host.Outcome State Fault Refusal :=
  onDev s fun e => e.asMaster m R.PGEN_CMD fun d => d.pgCancel m tag.val

/-- PGEN_MODE (R90): PGEN adopts MODE and changes the motion mode when in IDLE or HELD. -/
def execPgenMode (m : Master) (code : Word) (tag : Fin 256) (s : State) : Host.Outcome State Fault Refusal :=
  onDev s fun e => e.asMaster m R.PGEN_CMD fun d => d.pgMode m code tag.val

/-- PGEN_UNKNOWN_OP (R96): A PGEN command with an unknown OP is rejected with code 0x1C. (DESIGN CHOICE, log 47) -/
def execPgenUnknownOp (m : Master) (op : Fin 16) (tag : Fin 256) (s : State) : Host.Outcome State Fault Refusal :=
  onDev s fun e => e.asMaster m R.PGEN_CMD fun d => d.pgUnknownRow m op.val tag.val

/-- TRIP_START (R100): The first tick in which every start condition holds becomes the start tick, and the plan starts from the fused position. -/
def execTripStart (s : State) : Host.Outcome State Fault Refusal :=
  onDev s fun e => e.tripStart

/-- START_TIMEOUT (R100): The start conditions have not all held within 0x2200:04, so PGEN goes to HELD with code 0x20 and event 0x1206. -/
def execStartTimeout (s : State) : Host.Outcome State Fault Refusal :=
  onDev s fun e => e.startTimeout

/-- TRIP_ARRIVAL (R101): The plan ends at the target, so PGEN reports code 0x01 and returns to IDLE. -/
def execTripArrival (s : State) : Host.Outcome State Fault Refusal :=
  onDev s fun e => e.tripArrival

/-- STOP_COMPLETE (R102): A planned stop reaches standstill, so PGEN enters HELD, or IDLE when no target is kept. -/
def execStopComplete (s : State) : Host.Outcome State Fault Refusal :=
  onDev s fun e => e.stopComplete

/-- RELEVEL_START (R106): The car has stood beyond the re-level threshold throughout the delay, so PGEN enters RELEVEL. -/
def execRelevelStart (s : State) : Host.Outcome State Fault Refusal :=
  onDev s fun e => e.relevelWatch.relevelStart

/-- DRIVE_STATUS_TIMEOUT (R108): No valid drive status has arrived within 0x2210:07, so PGEN reports 0x21 and requests STOP_IMMEDIATE. -/
def execDriveStatusTimeout (s : State) : Host.Outcome State Fault Refusal :=
  onDev s fun e => e.driveTimeout

/-- DRIVE_REFERENCE_RELEASE (R107): TPDO 9 with the staged reference is released at the first later tick that is a multiple of the period. -/
def execDriveReferenceRelease (s : State) : Host.Outcome State Fault Refusal :=
  onDev s fun e => e.driveRelease

/-- OVERRUN_STOP_REQUEST (R131): Consecutive overruns reach two or eight, so CENG requests STOP_CONTROLLED or STOP_IMMEDIATE. -/
def execOverrunStopRequest (n : Fin 16) (s : State) : Host.Outcome State Fault Refusal :=
  onDev s fun e => e.overrunStop n

/-- FOLLOWING_ERROR_WARN (R128): |e| above FE_WLIM holds for its time, so FEWARN is set and 0x1304 is logged. -/
def execFollowingErrorWarn (n : Fin 16) (s : State) : Host.Outcome State Fault Refusal :=
  onDev s fun e => e.feWarnRow n

/-- FOLLOWING_ERROR_STOP (R128): |e| above FE_SLIM holds for its time, so FESTOP is set and STOP_CONTROLLED is requested. -/
def execFollowingErrorStop (n : Fin 16) (s : State) : Host.Outcome State Fault Refusal :=
  onDev s fun e => e.feStopRow n

/-- SLOT_CFG_WRITE (R116): A write to SLOT[n].CFG is checked against the phase-4 budget and PHASE, and is applied or refused with CFGERR. -/
def execSlotCfgWrite (m : Master) (n : Fin 16) (val : Word) (s : State) : Host.Outcome State Fault Refusal :=
  onDev s fun e => e.wordWrite m (R.CENG_SLOT_CFG n.val) val

/-- BANKSEL_WRITE (R126): A write to CENG.BANKSEL requests a coefficient bank swap at each slot's next run. -/
def execBankselWrite (m : Master) (val : Word) (s : State) : Host.Outcome State Fault Refusal :=
  onDev s fun e => e.wordWrite m R.CENG_BANKSEL val

/-- BANK_SWAP (R127): At its first unheld run the slot swaps banks, with or without the bumpless step, or refuses a swap to limits with OUTMIN > OUTMAX. -/
def execBankSwap (n : Fin 16) (s : State) : Host.Outcome State Fault Refusal :=
  onDev s fun e => e.bankSwapRow n

end Sys2Proof.Machine
end

