-- ==== Sys2Proof/Machine/CmdNetwork.lean ====
section
/-! DEFINITION. The commands of the CAN ports, the dictionary and the service port (R313 to R338): each is one meaning over the shared operations. -/

namespace Sys2Proof.Machine

/-- NMT_START_REMOTE_NODE (R317): An NMT start command puts the port into Operational. -/
def execNmtStartRemoteNode (p : Fin 2) (node : Nat) (s : State) : Host.Outcome State Fault Refusal :=
  onDev s fun e => e.nmtStart p node

/-- NMT_STOP_REMOTE_NODE (R317): An NMT stop command puts the port into Stopped. -/
def execNmtStopRemoteNode (p : Fin 2) (node : Nat) (s : State) : Host.Outcome State Fault Refusal :=
  onDev s fun e => e.nmtStop p node

/-- NMT_ENTER_PRE_OPERATIONAL (R317): An NMT command puts the port into Pre-operational. -/
def execNmtEnterPreOperational (p : Fin 2) (node : Nat) (s : State) : Host.Outcome State Fault Refusal :=
  onDev s fun e => e.nmtPreOp p node

/-- NMT_RESET_COMMUNICATION (R317): An NMT reset-communication command restarts only that port. -/
def execNmtResetCommunication (p : Fin 2) (node : Nat) (s : State) : Host.Outcome State Fault Refusal :=
  onDev s fun e => e.nmtReset p node

/-- NMT_RESET_NODE (R317): An NMT reset-node command is treated as reset-communication. -/
def execNmtResetNode (p : Fin 2) (node : Nat) (s : State) : Host.Outcome State Fault Refusal :=
  onDev s fun e => e.nmtNode p node

/-- SDO_DOWNLOAD (R318): An SDO or USDO download completes and is passed to the dictionary as a write. -/
def execSdoDownload (p : Fin 2) (node : Nat) (idx : Nat) (sub : Nat) (bytes : List Byte) (s : State) : Host.Outcome State Fault Refusal :=
  onDev s fun e => e.sdoDownload p node idx sub bytes

/-- SDO_UPLOAD (R318): An SDO or USDO upload returns the applied value of an entry. -/
def execSdoUpload (p : Fin 2) (node : Nat) (idx : Nat) (sub : Nat) (s : State) : Host.Outcome State Fault Refusal :=
  onDev s fun e => e.sdoUpload p node idx sub

/-- RPDO (R319): A received PDO writes its mapped entries in order, or is dropped whole. -/
def execRpdo (n : Fin 16) (bytes : List Byte) (s : State) : Host.Outcome State Fault Refusal :=
  onDev s fun e => e.rpdo n bytes

/-- TPDO_SEND (R319): A TPDO is sent on a change or on its event timer, within its inhibit time. -/
def execTpdoSend (n : Fin 16) (s : State) : Host.Outcome State Fault Refusal :=
  onDev s fun e => e.tpdoSend n

/-- SRDO1_SEND (R322): Marten sends SRDO 1 every safeguard cycle time. -/
def execSrdo1Send (s : State) : Host.Outcome State Fault Refusal :=
  onDev s fun e => e.srdoSend

/-- SRDO2_RECEIVED (R322): An SRDO 2 pair is received and checked for the STO contradiction. -/
def execSrdo2Received (bytes : List Byte) (inv : List Byte) (s : State) : Host.Outcome State Fault Refusal :=
  onDev s fun e => e.srdoTake bytes inv

/-- SRDO2_INVALID (R322): SRDO 2 is incomplete, mismatched or missing in time, so Marten withholds the MC permits at standstill. -/
def execSrdo2Invalid (kind : Fin 3) (s : State) : Host.Outcome State Fault Refusal :=
  onDev s fun e => e.srdoInvalid kind.val

/-- BUS_OFF (R316): A CAN port goes bus-off and logs 0x5001. -/
def execBusOff (p : Fin 2) (tec : Nat) (s : State) : Host.Outcome State Fault Refusal :=
  onDev s fun e => e.busOff p tec

/-- BUS_OFF_RECOVERY (R316): After 128 occurrences of 11 recessive bits the port recovers and sends its boot-up message. -/
def execBusOffRecovery (p : Fin 2) (s : State) : Host.Outcome State Fault Refusal :=
  onDev s fun e => e.busOffEnd p

/-- ERROR_PASSIVE (R316): A port reaches error passive, so EPASS is set and 0x5002 is logged. -/
def execErrorPassive (p : Fin 2) (tec : Nat) (rec : Nat) (s : State) : Host.Outcome State Fault Refusal :=
  onDev s fun e => e.errorPassive p tec rec

/-- CANOPEN_HEARTBEAT (R317): Each active port sends its heartbeat at the 0x1017 interval. -/
def execCanopenHeartbeat (p : Fin 2) (s : State) : Host.Outcome State Fault Refusal :=
  onDev s fun e => e.heartbeat p

/-- EMERGENCY_MESSAGE (R330): An emergency message is sent on each active port for a qualifying event, within the inhibit time. -/
def execEmergencyMessage (p : Fin 2) (s : State) : Host.Outcome State Fault Refusal :=
  onDev s fun e => e.emcySend p

/-- DICTIONARY_WRITE (R324): A dictionary write is checked in order, then refused with an abort code or accepted and staged. -/
def execDictionaryWrite (c : Client) (idx : Nat) (sub : Nat) (bytes : List Byte) (s : State) : Host.Outcome State Fault Refusal :=
  onDev s fun e => (e.acceptWrite c idx sub bytes).2

/-- APPLY_FENCE (R328): A write to 0x2F00:01 sets a fence that holds the client's later writes. -/
def execApplyFence (c : Client) (val : Word) (s : State) : Host.Outcome State Fault Refusal :=
  onDev s fun e => (e.acceptWrite c 0x2F00 1 (leBytes 4 val.toNat)).2

/-- FENCE_APPLIED (R328): At the first sample point after all earlier writes are applied, the fence is applied and 0x2F00:02 is set. -/
def execFenceApplied (c : Client) (s : State) : Host.Outcome State Fault Refusal :=
  onDev s fun e => e.fenceApplied c

/-- STORE (R329): The signature write to 0x1010:01 stores every level 0 and 1 entry to flash. -/
def execStore (c : Client) (val : Word) (s : State) : Host.Outcome State Fault Refusal :=
  onDev s fun e => e.direct c 0x1010 1 (leBytes 4 val.toNat)

/-- RESTORE_DEFAULTS (R329): The signature write to 0x1011:01 restores the defaults at the next module reset. -/
def execRestoreDefaults (c : Client) (val : Word) (s : State) : Host.Outcome State Fault Refusal :=
  onDev s fun e => e.direct c 0x1011 1 (leBytes 4 val.toNat)

/-- COMMIT_PORT_SETTINGS (R337): A write to 0x2F01:01 commits the pending CAN port settings, after checks, and restarts changed ports. -/
def execCommitPortSettings (c : Client) (val : Bool) (s : State) : Host.Outcome State Fault Refusal :=
  onDev s fun e => e.direct c 0x2F01 1 (leBytes 1 (b2n val))

/-- SESSION_OPEN (R331): A TCP connection opens an FSP session, or is closed at once as the fifth. -/
def execSessionOpen (ip : Word) (s : State) : Host.Outcome State Fault Refusal :=
  onDev s fun e => e.sessionOpen ip

/-- SESSION_CLOSE (R331): An FSP session closes and 0x5040 is logged. -/
def execSessionClose (i : Fin 4) (s : State) : Host.Outcome State Fault Refusal :=
  onDev s fun e => e.sessionClose i

/-- FSP_READ_ENTRY (R332): FSP OP 0x01 returns the applied value of an entry. -/
def execFspReadEntry (i : Fin 4) (tag : Fin 256) (idx : Nat) (sub : Nat) (s : State) : Host.Outcome State Fault Refusal :=
  onDev s fun e => e.fspRead i tag.val idx sub

/-- FSP_WRITE_ENTRY (R332): FSP OP 0x02 writes one entry through the dictionary checks. -/
def execFspWriteEntry (i : Fin 4) (tag : Fin 256) (idx : Nat) (sub : Nat) (bytes : List Byte) (s : State) : Host.Outcome State Fault Refusal :=
  onDev s fun e => e.fspWrite i tag.val idx sub bytes

/-- FSP_BATCH (R332): FSP OP 0x03 accepts a batch of entries in order up to the first failure. -/
def execFspBatch (i : Fin 4) (tag : Fin 256) (bytes : List Byte) (s : State) : Host.Outcome State Fault Refusal :=
  onDev s fun e => e.fspBatch i tag.val bytes

/-- FSP_READ_EVENTS (R332): FSP OP 0x10 returns up to 64 event records, from the ring or the archive. -/
def execFspReadEvents (i : Fin 4) (tag : Fin 256) (first : Nat) (cnt : Nat) (s : State) : Host.Outcome State Fault Refusal :=
  onAll s fun q => fspEvents q i tag.val first cnt

/-- FSP_READ_FILE (R332): FSP OP 0x11 returns up to 4,096 bytes of a frozen window, a dump or Bear. -/
def execFspReadFile (i : Fin 4) (tag : Fin 256) (file : Nat) (offset : Nat) (s : State) : Host.Outcome State Fault Refusal :=
  onAll s fun q => fspFile q i tag.val file offset

/-- LOCAL_REQUEST (R334): A write to ODE.L[m].REQ starts a local dictionary read or write, by segments for DOMAIN entries. -/
def execLocalRequest (m : Master) (val : Word) (s : State) : Host.Outcome State Fault Refusal :=
  onDev s fun e => e.asMaster m (R.ODE_L_REQ m.val) fun d => (d.localRequest m val).answer m []

/-- ERROR_ACTIVE_RETURN (R316): A CAN port's error counters fall back below the error-passive limit, so EPASS clears and ERRCHG is raised. -/
def execErrorActiveReturn (p : Fin 2) (tec : Nat) (rec : Nat) (s : State) : Host.Outcome State Fault Refusal :=
  onDev s fun e => e.errorActive p tec rec

/-- ETHERNET_LINK_CHANGE (R331): The 100BASE-TX link of the service port comes up after auto-negotiation or goes down, which changes ETH.STATUS. -/
def execEthernetLinkChange (up : Bool) (full : Bool) (s : State) : Host.Outcome State Fault Refusal :=
  onDev s fun e => e.linkChange up full

end Sys2Proof.Machine
end

