-- ==== Sys2Proof/Machine/CmdOutputs.lean ====
section
/-! DEFINITION. The commands of the brake, contactor and STO outputs (R273 to R289): each is one meaning over the shared operations. -/

namespace Sys2Proof.Machine

/-- SEQ_CONTACT (R279): The drive enable is set, so the sequencer closes the main contactors. -/
def execSeqContact (s : State) : Host.Outcome State Fault Refusal :=
  onDev s fun e => e.seqContact

/-- SEQ_RELEASE (R279): After the MC settle time with TORQUE reported, the sequencer energises the brakes. -/
def execSeqRelease (s : State) : Host.Outcome State Fault Refusal :=
  onDev s fun e => e.seqRelease

/-- SEQ_RUN (R279): Every release switch shows released, so BRKREL is set and SEQ enters RUN. -/
def execSeqRun (s : State) : Host.Outcome State Fault Refusal :=
  onDev s fun e => e.seqRun

/-- SEQ_APPLY (R279): At standstill with PGEN idle or held, the brakes are de-energised. -/
def execSeqApply (s : State) : Host.Outcome State Fault Refusal :=
  onDev s fun e => e.seqApply

/-- SEQ_DISABLE (R279): After the apply delay with the brakes applied, the drive enable clears and the STO lines fall. -/
def execSeqDisable (s : State) : Host.Outcome State Fault Refusal :=
  onDev s fun e => e.seqDisable

/-- SEQ_OFF (R279): After the MC open delay the contactors open and SEQ returns to OFF. -/
def execSeqOff (s : State) : Host.Outcome State Fault Refusal :=
  onDev s fun e => e.seqOff

/-- ECONOMY_START (R278): The over-excitation time ends, so the brake high side starts economy PWM. -/
def execEconomyStart (b : Fin 2) (s : State) : Host.Outcome State Fault Refusal :=
  onDev s fun e => e.economyStart b

/-- OUTPUT_TEST_START (R280): Woodpecker starts a dark or bright test of the next switch 20 µs after a tick start. -/
def execOutputTestStart (rd : OutReading) (s : State) : Host.Outcome State Fault Refusal :=
  onDev s fun e => e.outputTestStart rd

/-- OUTPUT_TEST_END (R281): A switch test passes on an expected sample or fails at the end of its 300 µs window. -/
def execOutputTestEnd (off : Nat) (rd : OutReading) (others : List OutReading) (s : State) : Host.Outcome State Fault Refusal :=
  onDev s fun e => e.outputTestEnd off rd others

/-- TEST_OVERDUE (R283): A switch's test age passes the test interval, so 0x8022 is logged. -/
def execTestOverdue (i : Fin 10) (s : State) : Host.Outcome State Fault Refusal :=
  onDev s fun e => e.testOverdue i

/-- TEST_AGE_LIMIT (R283): A switch's test age reaches ten intervals, so Marten adds cause 0x44. -/
def execTestAgeLimit (i : Fin 10) (s : State) : Host.Outcome State Fault Refusal :=
  onDev s fun e => e.testAgeLimit i

/-- OUTPUT_OVERCURRENT (R277): A safety output current is held at its limit for 10 ms, so fault code 6 latches. -/
def execOutputOvercurrent (x : Fin 6) (s : State) : Host.Outcome State Fault Refusal :=
  onDev s fun e => e.outputOvercurrent x

/-- RELEASE_MONITOR_FAULT (R284): A brake release or MC mirror input differs from its expected reading for the monitoring time, so code 7 latches. -/
def execReleaseMonitorFault (x : Fin 4) (s : State) : Host.Outcome State Fault Refusal :=
  onDev s fun e => e.releaseMonitorFault x

/-- TORQUE_TEST_DUE (R285): The time since the last pass reaches 0x2715:01 hours, so the torque test falls due. -/
def execTorqueTestDue (s : State) : Host.Outcome State Fault Refusal :=
  onDev s fun e => e.torqueDue

/-- TORQUE_TEST_START (R285): At a quiet point with its conditions met, the static brake torque test starts. -/
def execTorqueTestStart (s : State) : Host.Outcome State Fault Refusal :=
  onDev s fun e => e.torqueStart

/-- TORQUE_TEST_STEP_END (R285): A brake's torque hold ends, so the step passes and the next brake or APPLY follows. -/
def execTorqueTestStepEnd (s : State) : Host.Outcome State Fault Refusal :=
  onDev s fun e => e.torqueStepEnd

/-- TORQUE_TEST_OVERDUE (R286): The test has not passed within twice its interval, so cause 0x44 is added. -/
def execTorqueTestOverdue (s : State) : Host.Outcome State Fault Refusal :=
  onDev s fun e => e.torqueOverdue

/-- ON_SITE_RESET_EDGE (R287): Both channels accept a valid RST_SITE edge, which releases LOCKOUT, activates a set, accepts a map or swaps a safety image. -/
def execOnSiteResetEdge (r : ResetEdge) (s : State) : Host.Outcome State Fault Refusal :=
  onAll s fun q => resetEdge q r

/-- STUCK_RESET (R288): A reset pad is active for 5 s, so 0x8026 is logged and both pads are ignored. -/
def execStuckReset (mask : Fin 4) (s : State) : Host.Outcome State Fault Refusal :=
  onDev s fun e => e.stuckReset mask

/-- RESET_PADS_DISAGREE (R288): The reset pads disagree for 500 ms, so 0x8027 is logged and both pads are ignored. -/
def execResetPadsDisagree (levels : Fin 4) (s : State) : Host.Outcome State Fault Refusal :=
  onDev s fun e => e.resetDisagree levels

/-- RESET_PADS_REARM (R288): Both reset pads have been inactive for 1 s, so they are accepted again. -/
def execResetPadsRearm (s : State) : Host.Outcome State Fault Refusal :=
  onDev s fun e => e.resetRearm

end Sys2Proof.Machine
end

