-- ==== Sys2Proof/Machine/CmdPosition.lean ====
section
/-! DEFINITION. The commands of the position sources and the latch units (R43 to R73): each is one meaning over the shared operations. -/

namespace Sys2Proof.Machine

/-- CNT_EDGE (R44): A filtered A or B edge on a counter channel is counted by MODE, or flagged ILLEGAL, and direction changes are flagged. -/
def execCntEdge (n : Fin 4) (a : Bool) (b : Bool) (ed : EdgeAt) (s : State) : Host.Outcome State Fault Refusal :=
  onDev s fun e => e.cntEdge n a b ed.held ed.off

/-- Z_EDGE (R48): A rising Z edge sets STATUS.ZSEEN. -/
def execZEdge (n : Fin 4) (ed : EdgeAt) (s : State) : Host.Outcome State Fault Refusal :=
  onDev s fun e => e.zEdge n ed.held ed.off

/-- LINE_FAULT (R47): A differential input stays below the fault threshold for 1 µs, so LINEFLT is set and 0x1002 is logged. -/
def execLineFault (src : Fin 6) (mask : Fin 8) (s : State) : Host.Outcome State Fault Refusal :=
  onDev s fun e => e.lineFault src mask.val

/-- STILL_TIMEOUT (R50): No count has been stamped within SPDCFG.STILL, so both speed estimates become 0 and STILL is set. -/
def execStillTimeout (n : Fin 4) (s : State) : Host.Outcome State Fault Refusal :=
  onDev s fun e => e.stillTimeout n

/-- ABS_FRAME_RECEIVED (R53): A complete BiSS C or SSI frame is checked for start bit, CRC, error bit and window, and is then used or counted invalid. -/
def execAbsFrameReceived (n : Fin 2) (fr : AbsFrame) (s : State) : Host.Outcome State Fault Refusal :=
  onDev s fun e => e.absFrame n fr

/-- ABS_FRAME_TIMEOUT (R57): The transfer window ends before the frame does, so TIMEOUT is set and the frame is invalid. -/
def execAbsFrameTimeout (n : Fin 2) (s : State) : Host.Outcome State Fault Refusal :=
  onDev s fun e => e.absTimeout n

/-- ABSLOST_ENTERED (R61): Eight consecutive ticks pass without an accepted reading, so fusion enters ABSLOST with O frozen. -/
def execAbslostEntered (s : State) : Host.Outcome State Fault Refusal :=
  onDev s fun e => e.abslostEntered

/-- ABSLOST_RECOVERY (R62): Sixteen consistent valid readings end ABSLOST, and O is re-aligned at once or at the rate limit. -/
def execAbslostRecovery (s : State) : Host.Outcome State Fault Refusal :=
  onDev s fun e => e.abslostRecovery

/-- INCLOST_ENTERED (R61): Illegal counts or line faults on CNT[0] put fusion into INCLOST. -/
def execInclostEntered (s : State) : Host.Outcome State Fault Refusal :=
  onDev s fun e => e.inclostEntered

/-- INCLOST_CLEARED (R61): A whole slow tick without ILLEGAL or LINEFLT ends INCLOST and re-seeds O. -/
def execInclostCleared (s : State) : Host.Outcome State Fault Refusal :=
  onDev s fun e => e.inclostCleared

/-- FUSION_INVALID (R63): Eight consecutive fusion misses set VALID to 0 until the next accepted reading re-seeds O. -/
def execFusionInvalid (s : State) : Host.Outcome State Fault Refusal :=
  onDev s fun e => e.fusionInvalid

/-- HALL_SECTOR_CHANGE (R64): A filtered Hall state change updates SECTOR, STAMP and PERIOD, or flags an illegal state or a skip. -/
def execHallSectorChange (h : Fin 2) (uvw : Fin 8) (ed : EdgeAt) (s : State) : Host.Outcome State Fault Refusal :=
  onDev s fun e => e.hallEdge h uvw ed.held ed.off

/-- EMU_OUTPUT_EDGE (R66): EMU issues one quadrature output edge from its backlog, at least 500 ns after the previous one. -/
def execEmuOutputEdge (off : Nat) (s : State) : Host.Outcome State Fault Refusal :=
  onDev s fun e => e.emuEdge off

/-- LATCH_CAPTURE (R71): An edge of a latch source is captured with TICK.NOW and the RAW count, subject to single or continuous mode. -/
def execLatchCapture (src : Fin 86) (rising : Bool) (ed : EdgeAt) (s : State) : Host.Outcome State Fault Refusal :=
  onDev s fun e => e.latCapture src.val rising ed.held ed.off

/-- LATCH_REPORT (R72): At 15 µs of the first tick containing a captured edge, the unit reports RAW, TS, POS, PVALID and DIR. -/
def execLatchReport (n : Fin 16) (s : State) : Host.Outcome State Fault Refusal :=
  onDev s fun e => e.latReport n

/-- LATCH_SOFTWARE_TRIGGER (R70): A write of CTRL.TRIG with SRC = 127 captures at the instant of the write. -/
def execLatchSoftwareTrigger (m : Master) (n : Fin 16) (off : Nat) (s : State) : Host.Outcome State Fault Refusal :=
  onDev s fun e => e.asMaster m (R.CMPL_LAT_CTRL n.val) fun d => ((d.at off).wordWrite m (R.CMPL_LAT_CTRL n.val) 1)

/-- LINE_FAULT_CLEARED (R47): The differential voltage of a counter line returns above the receiver threshold, so its present LINEFLT bit clears. -/
def execLineFaultCleared (n : Fin 4) (mask : Fin 8) (s : State) : Host.Outcome State Fault Refusal :=
  onDev s fun e => e.lineOk n mask.val

end Sys2Proof.Machine
end

