-- ==== Sys2Proof/Machine/CmdPower.lean ====
section
/-! DEFINITION. The commands of power, resets and the load measurement (R414 to R440): each is one meaning over the shared operations. -/

namespace Sys2Proof.Machine

/-- POWER_ON_RESET_RELEASE (R421): VIN holds at 18 V or above for 10 ms with the rails good, so the power-on reset releases and TICK starts. (DESIGN CHOICE, log 118) -/
def execPowerOnResetRelease (s : State) : Host.Outcome State Fault Refusal :=
  .next (let r := powerOn (s.dev, s.mem); { s with dev := r.1, mem := r.2 })

/-- POWER_FAIL (R423): VIN below 17 V for 20 µs declares power fail, which opens every output and saves the state from HOLD. -/
def execPowerFail (s : State) : Host.Outcome State Fault Refusal :=
  onAll s fun q => powerFail q

/-- POWER_FAIL_RESET (R423): At t0 + 50 ms, or with HOLD below 12 V, the module enters power-on reset. -/
def execPowerFailReset (s : State) : Host.Outcome State Fault Refusal :=
  onAll s fun q => powerFailReset q

/-- VIN_LOW (R423): VIN below 19.2 V for 10 ms logs 0x9002. -/
def execVinLow (mv : Nat) (s : State) : Host.Outcome State Fault Refusal :=
  onDev s fun e => e.vinLow mv

/-- VSAFE_CROSSING (R422): VSAFE falls below 18 V or is restored, which holds or frees the sequencer. -/
def execVsafeCrossing (mv : Nat) (s : State) : Host.Outcome State Fault Refusal :=
  onDev s fun e => e.vsafeCrossing mv

/-- NMRST (R429): nMRST held low for 10 µs resets the whole module. -/
def execNmrst (s : State) : Host.Outcome State Fault Refusal :=
  onAll s fun q => moduleReset q 2

/-- WARM_RESET (R425): An RSTREQ with KIND 1 resets the masters and CORE while keeping memory, TICK and AON. -/
def execWarmReset (m : Master) (key : Word) (s : State) : Host.Outcome State Fault Refusal :=
  onAll s fun q => busWrite q m R.SYS_RSTREQ (BitVec.ofNat 32 (key.toNat % 65536 * 65536 + 1))

/-- MODULE_RESET (R425): An RSTREQ with KIND 2 from master 5 resets the whole module as nMRST does. -/
def execModuleReset (m : Master) (key : Word) (s : State) : Host.Outcome State Fault Refusal :=
  onAll s fun q => busWrite q m R.SYS_RSTREQ (BitVec.ofNat 32 (key.toNat % 65536 * 65536 + 2))

/-- SAFE_DOMAIN_RESET (R425): An RSTREQ with KIND 3 from master 5 resets Marten. -/
def execSafeDomainReset (m : Master) (key : Word) (s : State) : Host.Outcome State Fault Refusal :=
  onAll s fun q => busWrite q m R.SYS_RSTREQ (BitVec.ofNat 32 (key.toNat % 65536 * 65536 + 3))

/-- APP_DOMAIN_RESET (R425): An RSTREQ with KIND 4 resets the Fox cores and their caches. -/
def execAppDomainReset (m : Master) (key : Word) (s : State) : Host.Outcome State Fault Refusal :=
  onAll s fun q => busWrite q m R.SYS_RSTREQ (BitVec.ofNat 32 (key.toNat % 65536 * 65536 + 4))

/-- CORE_DOMAIN_RESET (R425): An RSTREQ with KIND 5 from master 5 is carried out as a warm reset. -/
def execCoreDomainReset (m : Master) (key : Word) (s : State) : Host.Outcome State Fault Refusal :=
  onAll s fun q => busWrite q m R.SYS_RSTREQ (BitVec.ofNat 32 (key.toNat % 65536 * 65536 + 5))

/-- PARTNER_RESET_END (R425): Marten completes its boot checks and 8 verdicts follow, so Badger's cause 0x45 passes. -/
def execPartnerResetEnd (s : State) : Host.Outcome State Fault Refusal :=
  onDev s fun e => e.partnerResetEnd

/-- LOAD_CALIBRATE_ZERO (R435): A write of 1 to 0x2021:01 takes the zeros at the next slow tick. -/
def execLoadCalibrateZero (c : Client) (s : State) : Host.Outcome State Fault Refusal :=
  onDev s fun e => e.direct c 0x2021 1 [1]

/-- LOAD_CALIBRATE_SPAN (R435): A write of 2 to 0x2021:01 computes the spans from the test mass at the next slow tick, or refuses. -/
def execLoadCalibrateSpan (c : Client) (s : State) : Host.Outcome State Fault Refusal :=
  onDev s fun e => e.direct c 0x2021 1 [2]

/-- HOLD_CHARGED (R421): The HOLD capacitor reaches 16 V, which lets boot step 3 complete and the channels leave the boot HOLD. -/
def execHoldCharged (ms : Nat) (mv : Nat) (s : State) : Host.Outcome State Fault Refusal :=
  onAll s fun q => holdCharged q ms mv

end Sys2Proof.Machine
end

