-- ==== Sys2Proof/Machine/CmdRecords.lean ====
section
/-! DEFINITION. The commands of events, the flight recorder and telemetry (R373 to R393): each is one meaning over the shared operations. -/

namespace Sys2Proof.Machine

/-- EVENT_RECORD_WRITE (R376): Every 16 fabric cycles EVR takes one queued event and writes it as the next record. -/
def execEventRecordWrite (s : State) : Host.Outcome State Fault Refusal :=
  onAll s fun q => eventRecordWrite q

/-- ARCHIVE_BLOCK_WRITE (R379): A complete block of 4,096 records is appended to the flash archive. -/
def execArchiveBlockWrite (s : State) : Host.Outcome State Fault Refusal :=
  onAll s fun q => archiveBlock q

/-- RING_FILL_DONE (R374): EVR's zero fill of a DRAM region ends, so the held events are written. -/
def execRingFillDone (flight : Bool) (s : State) : Host.Outcome State Fault Refusal :=
  onAll s fun q => ringFill q flight

/-- FREEZE (R383): A write to 0x2802:01 or EVR.FREEZE, or a triggering event, freezes a flight-recorder window. -/
def execFreeze (m : Master) (tag : Word) (s : State) : Host.Outcome State Fault Refusal :=
  onDev s fun e => e.wordWrite m R.EVR_FREEZE tag

/-- WINDOW_COPY_START (R384): A frozen window reaches its end and its copy to flash starts. -/
def execWindowCopyStart (s : State) : Host.Outcome State Fault Refusal :=
  onDev s fun e => e.copyStart

/-- WINDOW_STORED (R384): A window copy completes, is marked stored in Bear and 0x0043 is logged. -/
def execWindowStored (s : State) : Host.Outcome State Fault Refusal :=
  onAll s fun q => windowStored q

/-- CURSOR_WRITE (R380): A write of EVR.CURSOR repositions the record window. -/
def execCursorWrite (m : Master) (high : Bool) (val : Word) (s : State) : Host.Outcome State Fault Refusal :=
  onDev s fun e => e.wordWrite m (if high then R.EVR_CURSOR_HI else R.EVR_CURSOR_LO) val

/-- FATAL_ERROR (R390): A master's fatal handler logs 0xF001, writes a dump and requests a warm reset. -/
def execFatalError (m : Master) (code : Word) (dump : List Byte) (s : State) : Host.Outcome State Fault Refusal :=
  onAll s fun q => fatalError q m code dump

/-- OPERATING_HOUR (R387): Each hour of VIN present increments the operating-hours counter. -/
def execOperatingHour (s : State) : Host.Outcome State Fault Refusal :=
  onDev s fun e => e.tally 1 1

/-- LIFE_RECOMPUTE (R389): Once per day TELE recomputes the predicted remaining life of each item. -/
def execLifeRecompute (s : State) : Host.Outcome State Fault Refusal :=
  onDev s fun e => e.lifeRecompute

end Sys2Proof.Machine
end

