-- ==== Sys2Proof/Machine/CmdRing.lean ====
section
/-! DEFINITION. The commands of the landing ring (R180 to R209): each is one meaning over the shared operations. -/

namespace Sys2Proof.Machine

/-- RING_FRAME_RECEIVED (R190): A returning ring frame is decoded and its slots, payload entries and tail are accepted or rejected. -/
def execRingFrameReceived (port : Fin 2) (bytes : List (Option Byte)) (endCyc : Nat) (s : State) : Host.Outcome State Fault Refusal :=
  onDev s fun e => e.ringFrame port bytes endCyc

/-- RING_RECEIVE_WINDOW_END (R184): The receive window of a cycle ends, so late frames set LATE and may trigger dual mode. -/
def execRingReceiveWindowEnd (s : State) : Host.Outcome State Fault Refusal :=
  onAll s fun q => ringClose q

/-- NODE_LOST (R191): An address is missing in 3 consecutive cycles, so PRESENT falls and 0x3001 is logged. -/
def execNodeLost (a : Nat) (s : State) : Host.Outcome State Fault Refusal :=
  onDev s fun e => e.nodeLost a

/-- NODE_REGAINED (R191): Two consecutive accepted slots with SEQ stepping by 1 set PRESENT again. -/
def execNodeRegained (a : Nat) (s : State) : Host.Outcome State Fault Refusal :=
  onDev s fun e => e.nodeRegained a

/-- NODE_COUNT_FAULT (R192): Three consecutive cycles with more nodes passed than slots accepted set HOPSFLT and open every masked lock bit. -/
def execNodeCountFault (s : State) : Host.Outcome State Fault Refusal :=
  onDev s fun e => e.nodeCountRow

/-- RING_SIDE_LOST (R200): A receive side carries no valid code group for 20 µs and is lost, so H is sent and the node wraps. -/
def execRingSideLost (p : Fin 2) (s : State) : Host.Outcome State Fault Refusal :=
  onDev s fun e => e.ringSide p true

/-- RING_SIDE_REGAINED (R200): A lost side carries valid groups for 10 ms and is regained. -/
def execRingSideRegained (p : Fin 2) (s : State) : Host.Outcome State Fault Refusal :=
  onDev s fun e => e.ringSide p false

/-- DUAL_MODE_LEAVE (R201): Sixteen consecutive clean cycles return LRING to single mode. -/
def execDualModeLeave (s : State) : Host.Outcome State Fault Refusal :=
  onDev s fun e => e.dualLeave

/-- PAYLOAD_ENTRY_DROPPED (R195): A transmit entry is not completed after 3 services and is dropped with 0x300A. -/
def execPayloadEntryDropped (a : Nat) (s : State) : Host.Outcome State Fault Refusal :=
  onAll s fun q => entryDrop a q

/-- ENUMERATE (R203): A write to 0x2403:01 or LRING.CTRL.ENUM starts an enumeration when presence and states permit. -/
def execEnumerate (c : Client) (s : State) : Host.Outcome State Fault Refusal :=
  onDev s fun e => e.direct c 0x2403 1 [1]

/-- ASSIGN_ADDRESS (R203): A write to 0x2403:03 runs an enumeration that assigns a new address to the node at a ring position. -/
def execAssignAddress (c : Client) (val : Word) (s : State) : Host.Outcome State Fault Refusal :=
  onDev s fun e => e.direct c 0x2403 3 (leBytes 4 val.toNat)

/-- ENUMERATION_END (R203): After 16 ENUM cycles the results are judged, the budget is checked, and LRING enters RUN or FAULT. -/
def execEnumerationEnd (s : State) : Host.Outcome State Fault Refusal :=
  onDev s fun e => e.enumEnd

/-- RING_ENABLE (R206): LRING.CTRL.EN becomes 1 and the ring enters SYNC. -/
def execRingEnable (s : State) : Host.Outcome State Fault Refusal :=
  onDev s fun e => e.ringEnable

/-- SYNC_END (R206): After five cycles of idle, LRING starts the enumeration. -/
def execSyncEnd (s : State) : Host.Outcome State Fault Refusal :=
  onDev s fun e => e.syncEnd

/-- RING_DISABLE (R206): EN becomes 0, so the transmit pairs go high impedance at the next cycle. -/
def execRingDisable (s : State) : Host.Outcome State Fault Refusal :=
  onDev s fun e => e.ringDisable

/-- BADGER_RING_CYCLE_CLOSE (R193): Badger closes a ring cycle when its frames end or 996 µs after the SD, and forms its lock vector and LVHASH. -/
def execBadgerRingCycleClose (s : State) : Host.Outcome State Fault Refusal :=
  onAll s fun q => badgerRingClose q

end Sys2Proof.Machine
end

