-- ==== Sys2Proof/Machine/CmdSafety.lean ====
section
/-! DEFINITION. The commands of the two safety channels and their parameters (R236 to R274): each is one meaning over the shared operations. -/

namespace Sys2Proof.Machine

/-- A_COMMIT (R241): Marten writes A_COMMIT and commits its view for the tagged tick. -/
def execACommit (m : Master) (val : Word) (s : State) : Host.Outcome State Fault Refusal :=
  onDev s fun e => e.wordWrite m R.XCMP_A_COMMIT val

/-- CROSS_COMPARISON_TRIP (R243): The fourth consecutive mismatched tick sets TRIP and drives both channels to STOP_IMMEDIATE. -/
def execCrossComparisonTrip (s : State) : Host.Outcome State Fault Refusal :=
  onDev s fun e => e.crossTrip

/-- VERDICT_MISSING (R244): Two tick starts pass without a verdict, so Badger enters STOP_IMMEDIATE with cause 0x22. -/
def execVerdictMissing (s : State) : Host.Outcome State Fault Refusal :=
  onDev s fun e => e.verdictRow

/-- TICK_PERIOD_FAULT (R37): Two consecutive tick periods fall out of range, so Badger enters STOP_IMMEDIATE. -/
def execTickPeriodFault (counts : Nat) (s : State) : Host.Outcome State Fault Refusal :=
  onDev s fun e => e.tickPeriodFault counts

/-- BADGER_REFERENCED (R238): Badger becomes referenced at a door-zone standstill or passage, and OB is set. -/
def execBadgerReferenced (s : State) : Host.Outcome State Fault Refusal :=
  onDev s fun e => e.badgerReferenced

/-- BADGER_RESYNC (R239): After a valid door-zone passage, Badger corrects OB by q or refuses with cause 0x23. -/
def execBadgerResync (s : State) : Host.Outcome State Fault Refusal :=
  onDev s fun e => e.badgerResync

/-- MARTEN_DEGRADED (R240): From the eighth invalid absolute reading, Marten takes PA from FUSE.POS and sets DEG. -/
def execMartenDegraded (s : State) : Host.Outcome State Fault Refusal :=
  onDev s fun e => e.martenDegraded

/-- STANDSTILL (R245): Speed stays below 10 mm/s for 50 ms, so the stop causes pass to their after-standstill states. -/
def execStandstill (ch : Chan) (s : State) : Host.Outcome State Fault Refusal :=
  onDev s fun e => e.standstillRow ch

/-- PAIR_DISCREPANCY (R259): The inputs of a safety pair disagree for 500 ms, so cause 0x17 is added. -/
def execPairDiscrepancy (ch : Chan) (pair : Fin 8) (s : State) : Host.Outcome State Fault Refusal :=
  onDev s fun e => e.pairRow ch pair

/-- DOOR_PERMIT_REMOVED (R257): The closing door's energy or its current limit breaches the SF-DOORKE ceiling, so Marten removes PERMIT. -/
def execDoorPermitRemoved (d : Fin 2) (s : State) : Host.Outcome State Fault Refusal :=
  onDev s fun e => e.doorPermitRemoved d

/-- DOOR_PERMIT_RETURN (R257): The door has stood still for 1 s with no breach, so PERMIT returns. -/
def execDoorPermitReturn (d : Fin 2) (s : State) : Host.Outcome State Fault Refusal :=
  onDev s fun e => e.doorPermitReturn d

/-- PARAMETER_CONFIRM (R262): A write to 0x2700:01 makes Marten check the pending set and transfer it to Badger for CRC comparison. -/
def execParameterConfirm (c : Client) (crc : Word) (s : State) : Host.Outcome State Fault Refusal :=
  onDev s fun e => e.direct c 0x2700 1 (leBytes 4 crc.toNat)

/-- PARAMETER_DISCARD (R262): A write to 0x2700:06 discards the pending parameter copy. -/
def execParameterDiscard (c : Client) (s : State) : Host.Outcome State Fault Refusal :=
  onDev s fun e => e.direct c 0x2700 6 [1]

/-- BPARAM_WRITE (R443): Master 5 writes the next four bytes of the pending set to Badger through XCMP.BPARAM. -/
def execBparamWrite (m : Master) (val : Word) (s : State) : Host.Outcome State Fault Refusal :=
  onDev s fun e => e.wordWrite m R.XCMP_BPARAM val

/-- BMAP_WRITE (R265): Master 5 writes the next four bytes of the candidate map to Badger through XCMP.BMAP. -/
def execBmapWrite (m : Master) (val : Word) (s : State) : Host.Outcome State Fault Refusal :=
  onDev s fun e => e.wordWrite m R.XCMP_BMAP val

/-- APERM_WRITE (R274): Marten writes its permits, and a withdrawn permit opens both switches of the output at once. -/
def execApermWrite (m : Master) (val : Word) (s : State) : Host.Outcome State Fault Refusal :=
  onDev s fun e => e.wordWrite m R.SOUT_APERM val

end Sys2Proof.Machine
end

