-- ==== Sys2Proof/Machine/CmdTick.lean ====
section
/-! DEFINITION. The commands of the tick and the accesses of a master (R8 to R42): each is one meaning over the shared operations. -/

namespace Sys2Proof.Machine

/-- SAMPLE_POINT (R22): At each tick start every block freezes its inputs and the tick chain runs on that snapshot from fusion through output commit, safety evaluation and cross-comparison. -/
def execSamplePoint (inp : SampleIn) (s : State) : Host.Outcome State Fault Refusal :=
  onAll s fun q => samplePoint q inp

/-- PHASE_MISS (R35): A phase producer reaches its deadline without a valid result, so its work is abandoned, consumers take the stale value, and TICK.MISS, MISSCNT and event 0x0010 record the miss. -/
def execPhaseMiss (p : Fin 9) (s : State) : Host.Outcome State Fault Refusal :=
  onDev s fun e => e.phaseMiss p

/-- RING_CYCLE_START (R184): At T(8n) LRING delivers the results of cycle n−1, snapshots the downlink content, fills the payload entries and sends the cycle's frame. -/
def execRingCycleStart (s : State) : Host.Outcome State Fault Refusal :=
  onAll s fun q => ringTick q

/-- SLOW_TICK (R29): At each slow tick start, ANA, TELE, the heartbeat, the offset calibration and the other slow-tick work run. -/
def execSlowTick (inp : SlowIn) (s : State) : Host.Outcome State Fault Refusal :=
  onDev s fun e => e.slowTick inp

/-- ALARM (R39): A TICK.ALARM reaches its offset in a selected tick, sets its flag and, in once mode, clears its EN. -/
def execAlarm (n : Fin 4) (s : State) : Host.Outcome State Fault Refusal :=
  onDev s fun e => e.alarm n

/-- READ_NOW_LO (R41): A read of TICK.NOW_LO returns the low time word and latches NOW_HI, NUM_LO and NUM_HI for the reading master. -/
def execReadNowLo (m : Master) (off : Nat) (s : State) : Host.Outcome State Fault Refusal :=
  onDev s fun e => e.readNowLo m off

/-- REGISTER_WRITE (R8): A write to a register that has no row of its own applies the fields its access codes permit, and logs 0xA011 for an RWP or RWI change refused for presence. -/
def execRegisterWrite (m : Master) (addr : Nat) (val : Word) (s : State) : Host.Outcome State Fault Refusal :=
  onAll s fun q => registerAccess q m addr val

/-- WRONG_WIDTH_ACCESS (R9): An 8-bit, 16-bit or misaligned access inside a block performs nothing, ends in a bus error and logs 0x7012. -/
def execWrongWidthAccess (m : Master) (addr : Nat) (width : Nat) (s : State) : Host.Outcome State Fault Refusal :=
  onDev s fun e => e.wrongWidthRow m addr width

/-- ACCESS_OUTSIDE_MAP (R17): An access to no mapped range ends in a bus error, logged in class 0x7. -/
def execAccessOutsideMap (m : Master) (addr : Nat) (s : State) : Host.Outcome State Fault Refusal :=
  onDev s fun e => e.outsideMapRow m addr

/-- ACCESS_OUTSIDE_RIGHTS (R18): An access outside the master's rights ends in a bus error, logged with the master and the address. -/
def execAccessOutsideRights (m : Master) (addr : Nat) (s : State) : Host.Outcome State Fault Refusal :=
  onDev s fun e => e.outsideRightsRow m addr

/-- NAND_LOW_POWER (R15): FLSH has been idle for 100 ms, so the NAND enters its low-power state. -/
def execNandLowPower (s : State) : Host.Outcome State Fault Refusal :=
  onDev s fun e => e.flashIdle

/-- LOCK_SET (R68): Master 5 sets the LOCK bit of a block (POSX, LRING or XCMP), which freezes its RWL fields until the next module reset. -/
def execLockSet (m : Master) (blk : LockBlock) (s : State) : Host.Outcome State Fault Refusal :=
  onDev s fun e => e.wordWrite m (lockAddr blk) 1

end Sys2Proof.Machine
end

