-- ==== Sys2Proof/Machine/Dispatch.lean ====
section
/-! DEFINITION. The dispatch: one arm per command, each a direct call of its meaning. -/

namespace Sys2Proof.Machine

def exec (i : Instr) (s : State) : Host.Outcome State Fault Refusal :=
  match i with
  | .samplePoint inp => Sys2Proof.Machine.execSamplePoint inp s
  | .phaseMiss p => Sys2Proof.Machine.execPhaseMiss p s
  | .ringCycleStart => Sys2Proof.Machine.execRingCycleStart s
  | .slowTick inp => Sys2Proof.Machine.execSlowTick inp s
  | .alarm n => Sys2Proof.Machine.execAlarm n s
  | .readNowLo m off => Sys2Proof.Machine.execReadNowLo m off s
  | .registerWrite m addr val => Sys2Proof.Machine.execRegisterWrite m addr val s
  | .wrongWidthAccess m addr width => Sys2Proof.Machine.execWrongWidthAccess m addr width s
  | .accessOutsideMap m addr => Sys2Proof.Machine.execAccessOutsideMap m addr s
  | .accessOutsideRights m addr => Sys2Proof.Machine.execAccessOutsideRights m addr s
  | .nandLowPower => Sys2Proof.Machine.execNandLowPower s
  | .lockSet m blk => Sys2Proof.Machine.execLockSet m blk s
  | .cntEdge n a b ed => Sys2Proof.Machine.execCntEdge n a b ed s
  | .zEdge n ed => Sys2Proof.Machine.execZEdge n ed s
  | .lineFault src mask => Sys2Proof.Machine.execLineFault src mask s
  | .stillTimeout n => Sys2Proof.Machine.execStillTimeout n s
  | .absFrameReceived n fr => Sys2Proof.Machine.execAbsFrameReceived n fr s
  | .absFrameTimeout n => Sys2Proof.Machine.execAbsFrameTimeout n s
  | .abslostEntered => Sys2Proof.Machine.execAbslostEntered s
  | .abslostRecovery => Sys2Proof.Machine.execAbslostRecovery s
  | .inclostEntered => Sys2Proof.Machine.execInclostEntered s
  | .inclostCleared => Sys2Proof.Machine.execInclostCleared s
  | .fusionInvalid => Sys2Proof.Machine.execFusionInvalid s
  | .hallSectorChange h uvw ed => Sys2Proof.Machine.execHallSectorChange h uvw ed s
  | .emuOutputEdge off => Sys2Proof.Machine.execEmuOutputEdge off s
  | .latchCapture src rising ed => Sys2Proof.Machine.execLatchCapture src rising ed s
  | .latchReport n => Sys2Proof.Machine.execLatchReport n s
  | .latchSoftwareTrigger m n off => Sys2Proof.Machine.execLatchSoftwareTrigger m n off s
  | .learningStart c => Sys2Proof.Machine.execLearningStart c s
  | .learningAbort c => Sys2Proof.Machine.execLearningAbort c s
  | .learningLegEnd => Sys2Proof.Machine.execLearningLegEnd s
  | .mapAccept c crc => Sys2Proof.Machine.execMapAccept c crc s
  | .pgenGo m target postgt earliest tag => Sys2Proof.Machine.execPgenGo m target postgt earliest tag s
  | .pgenStop m tag => Sys2Proof.Machine.execPgenStop m tag s
  | .pgenResume m tag => Sys2Proof.Machine.execPgenResume m tag s
  | .pgenStart m tag => Sys2Proof.Machine.execPgenStart m tag s
  | .pgenCancel m tag => Sys2Proof.Machine.execPgenCancel m tag s
  | .pgenMode m code tag => Sys2Proof.Machine.execPgenMode m code tag s
  | .pgenUnknownOp m op tag => Sys2Proof.Machine.execPgenUnknownOp m op tag s
  | .tripStart => Sys2Proof.Machine.execTripStart s
  | .startTimeout => Sys2Proof.Machine.execStartTimeout s
  | .tripArrival => Sys2Proof.Machine.execTripArrival s
  | .stopComplete => Sys2Proof.Machine.execStopComplete s
  | .relevelStart => Sys2Proof.Machine.execRelevelStart s
  | .driveStatusTimeout => Sys2Proof.Machine.execDriveStatusTimeout s
  | .driveReferenceRelease => Sys2Proof.Machine.execDriveReferenceRelease s
  | .overrunStopRequest n => Sys2Proof.Machine.execOverrunStopRequest n s
  | .followingErrorWarn n => Sys2Proof.Machine.execFollowingErrorWarn n s
  | .followingErrorStop n => Sys2Proof.Machine.execFollowingErrorStop n s
  | .slotCfgWrite m n val => Sys2Proof.Machine.execSlotCfgWrite m n val s
  | .bankselWrite m val => Sys2Proof.Machine.execBankselWrite m val s
  | .bankSwap n => Sys2Proof.Machine.execBankSwap n s
  | .carrierPeriodStart d adc => Sys2Proof.Machine.execCarrierPeriodStart d adc s
  | .bridgeFault d => Sys2Proof.Machine.execBridgeFault d s
  | .doorFaultClear m d val bflt => Sys2Proof.Machine.execDoorFaultClear m d val bflt s
  | .doorAlign m d => Sys2Proof.Machine.execDoorAlign m d s
  | .alignStepEnd d => Sys2Proof.Machine.execAlignStepEnd d s
  | .doorOpen m d tag => Sys2Proof.Machine.execDoorOpen m d tag s
  | .doorClose m d tag => Sys2Proof.Machine.execDoorClose m d tag s
  | .doorMoveto m d mtgt tag => Sys2Proof.Machine.execDoorMoveto m d mtgt tag s
  | .doorPause m d tag => Sys2Proof.Machine.execDoorPause m d tag s
  | .doorResume m d tag => Sys2Proof.Machine.execDoorResume m d tag s
  | .doorNudge m d tag => Sys2Proof.Machine.execDoorNudge m d tag s
  | .doorRelease m d tag => Sys2Proof.Machine.execDoorRelease m d tag s
  | .doorLearn m d tag => Sys2Proof.Machine.execDoorLearn m d tag s
  | .doorUnknownOp m d op tag => Sys2Proof.Machine.execDoorUnknownOp m d op tag s
  | .doorArrival d => Sys2Proof.Machine.execDoorArrival d s
  | .holdingReduction d => Sys2Proof.Machine.execHoldingReduction d s
  | .obstructionTrip d cause => Sys2Proof.Machine.execObstructionTrip d cause s
  | .reversalComplete d => Sys2Proof.Machine.execReversalComplete d s
  | .lightCurtainActive d => Sys2Proof.Machine.execLightCurtainActive d s
  | .doorZoneWrite m d val => Sys2Proof.Machine.execDoorZoneWrite m d val s
  | .doorPermitWrite m d val => Sys2Proof.Machine.execDoorPermitWrite m d val s
  | .doorLearnStepEnd d => Sys2Proof.Machine.execDoorLearnStepEnd d s
  | .ringFrameReceived port bytes endCyc => Sys2Proof.Machine.execRingFrameReceived port bytes endCyc s
  | .ringReceiveWindowEnd => Sys2Proof.Machine.execRingReceiveWindowEnd s
  | .nodeLost a => Sys2Proof.Machine.execNodeLost a s
  | .nodeRegained a => Sys2Proof.Machine.execNodeRegained a s
  | .nodeCountFault => Sys2Proof.Machine.execNodeCountFault s
  | .ringSideLost p => Sys2Proof.Machine.execRingSideLost p s
  | .ringSideRegained p => Sys2Proof.Machine.execRingSideRegained p s
  | .dualModeLeave => Sys2Proof.Machine.execDualModeLeave s
  | .payloadEntryDropped a => Sys2Proof.Machine.execPayloadEntryDropped a s
  | .enumerate c => Sys2Proof.Machine.execEnumerate c s
  | .assignAddress c val => Sys2Proof.Machine.execAssignAddress c val s
  | .enumerationEnd => Sys2Proof.Machine.execEnumerationEnd s
  | .ringEnable => Sys2Proof.Machine.execRingEnable s
  | .syncEnd => Sys2Proof.Machine.execSyncEnd s
  | .ringDisable => Sys2Proof.Machine.execRingDisable s
  | .badgerRingCycleClose => Sys2Proof.Machine.execBadgerRingCycleClose s
  | .bidCarCall m arg tag => Sys2Proof.Machine.execBidCarCall m arg tag s
  | .bidHallCall m arg tag => Sys2Proof.Machine.execBidHallCall m arg tag s
  | .bidDestinationCall m arg tag => Sys2Proof.Machine.execBidDestinationCall m arg tag s
  | .bidServed m arg tag => Sys2Proof.Machine.execBidServed m arg tag s
  | .bidClearCarCalls m arg tag => Sys2Proof.Machine.execBidClearCarCalls m arg tag s
  | .bidReleaseAll m tag => Sys2Proof.Machine.execBidReleaseAll m tag s
  | .bidUnknownOp m op tag => Sys2Proof.Machine.execBidUnknownOp m op tag s
  | .announce content => Sys2Proof.Machine.execAnnounce content s
  | .bid content => Sys2Proof.Machine.execBid content s
  | .award content => Sys2Proof.Machine.execAward content s
  | .heartbeat content => Sys2Proof.Machine.execHeartbeat content s
  | .groupRelease content => Sys2Proof.Machine.execGroupRelease content s
  | .groupServed content => Sys2Proof.Machine.execGroupServed content s
  | .accept content => Sys2Proof.Machine.execAccept content s
  | .backup content => Sys2Proof.Machine.execBackup content s
  | .backupReq content => Sys2Proof.Machine.execBackupReq content s
  | .bidEvaluation => Sys2Proof.Machine.execBidEvaluation s
  | .evaluationEnd us => Sys2Proof.Machine.execEvaluationEnd us s
  | .auctionDeadline id => Sys2Proof.Machine.execAuctionDeadline id s
  | .reannounceTimer id => Sys2Proof.Machine.execReannounceTimer id s
  | .reauctionTimer id => Sys2Proof.Machine.execReauctionTimer id s
  | .acceptTimeout id => Sys2Proof.Machine.execAcceptTimeout id s
  | .heartbeatLoss car => Sys2Proof.Machine.execHeartbeatLoss car s
  | .aCommit m val => Sys2Proof.Machine.execACommit m val s
  | .crossComparisonTrip => Sys2Proof.Machine.execCrossComparisonTrip s
  | .verdictMissing => Sys2Proof.Machine.execVerdictMissing s
  | .tickPeriodFault counts => Sys2Proof.Machine.execTickPeriodFault counts s
  | .badgerReferenced => Sys2Proof.Machine.execBadgerReferenced s
  | .badgerResync => Sys2Proof.Machine.execBadgerResync s
  | .martenDegraded => Sys2Proof.Machine.execMartenDegraded s
  | .standstill ch => Sys2Proof.Machine.execStandstill ch s
  | .pairDiscrepancy ch pair => Sys2Proof.Machine.execPairDiscrepancy ch pair s
  | .doorPermitRemoved d => Sys2Proof.Machine.execDoorPermitRemoved d s
  | .doorPermitReturn d => Sys2Proof.Machine.execDoorPermitReturn d s
  | .parameterConfirm c crc => Sys2Proof.Machine.execParameterConfirm c crc s
  | .parameterDiscard c => Sys2Proof.Machine.execParameterDiscard c s
  | .bparamWrite m val => Sys2Proof.Machine.execBparamWrite m val s
  | .bmapWrite m val => Sys2Proof.Machine.execBmapWrite m val s
  | .apermWrite m val => Sys2Proof.Machine.execApermWrite m val s
  | .seqContact => Sys2Proof.Machine.execSeqContact s
  | .seqRelease => Sys2Proof.Machine.execSeqRelease s
  | .seqRun => Sys2Proof.Machine.execSeqRun s
  | .seqApply => Sys2Proof.Machine.execSeqApply s
  | .seqDisable => Sys2Proof.Machine.execSeqDisable s
  | .seqOff => Sys2Proof.Machine.execSeqOff s
  | .economyStart b => Sys2Proof.Machine.execEconomyStart b s
  | .outputTestStart rd => Sys2Proof.Machine.execOutputTestStart rd s
  | .outputTestEnd off rd others => Sys2Proof.Machine.execOutputTestEnd off rd others s
  | .testOverdue n => Sys2Proof.Machine.execTestOverdue n s
  | .testAgeLimit n => Sys2Proof.Machine.execTestAgeLimit n s
  | .outputOvercurrent x => Sys2Proof.Machine.execOutputOvercurrent x s
  | .releaseMonitorFault x => Sys2Proof.Machine.execReleaseMonitorFault x s
  | .torqueTestDue => Sys2Proof.Machine.execTorqueTestDue s
  | .torqueTestStart => Sys2Proof.Machine.execTorqueTestStart s
  | .torqueTestStepEnd => Sys2Proof.Machine.execTorqueTestStepEnd s
  | .torqueTestOverdue => Sys2Proof.Machine.execTorqueTestOverdue s
  | .onSiteResetEdge r => Sys2Proof.Machine.execOnSiteResetEdge r s
  | .stuckReset mask => Sys2Proof.Machine.execStuckReset mask s
  | .resetPadsDisagree levels => Sys2Proof.Machine.execResetPadsDisagree levels s
  | .resetPadsRearm => Sys2Proof.Machine.execResetPadsRearm s
  | .inputLevelAccepted pin lvl ed => Sys2Proof.Machine.execInputLevelAccepted pin lvl ed s
  | .testPulseWindow t => Sys2Proof.Machine.execTestPulseWindow t s
  | .testPulseJudge t j => Sys2Proof.Machine.execTestPulseJudge t j s
  | .chainTapOrder => Sys2Proof.Machine.execChainTapOrder s
  | .outsetWrite m val => Sys2Proof.Machine.execOutsetWrite m val s
  | .outclrWrite m val => Sys2Proof.Machine.execOutclrWrite m val s
  | .thermalShutdown p ma off => Sys2Proof.Machine.execThermalShutdown p ma off s
  | .thermalRestart p => Sys2Proof.Machine.execThermalRestart p s
  | .openLoad p ma => Sys2Proof.Machine.execOpenLoad p ma s
  | .clearFault m val off => Sys2Proof.Machine.execClearFault m val off s
  | .fieldSupplyStateChange f st mv => Sys2Proof.Machine.execFieldSupplyStateChange f st mv s
  | .channelRemap m out n val => Sys2Proof.Machine.execChannelRemap m out n val s
  | .nmtStartRemoteNode p node => Sys2Proof.Machine.execNmtStartRemoteNode p node s
  | .nmtStopRemoteNode p node => Sys2Proof.Machine.execNmtStopRemoteNode p node s
  | .nmtEnterPreOperational p node => Sys2Proof.Machine.execNmtEnterPreOperational p node s
  | .nmtResetCommunication p node => Sys2Proof.Machine.execNmtResetCommunication p node s
  | .nmtResetNode p node => Sys2Proof.Machine.execNmtResetNode p node s
  | .sdoDownload p node idx sub bytes => Sys2Proof.Machine.execSdoDownload p node idx sub bytes s
  | .sdoUpload p node idx sub => Sys2Proof.Machine.execSdoUpload p node idx sub s
  | .rpdo n bytes => Sys2Proof.Machine.execRpdo n bytes s
  | .tpdoSend n => Sys2Proof.Machine.execTpdoSend n s
  | .srdo1Send => Sys2Proof.Machine.execSrdo1Send s
  | .srdo2Received bytes inv => Sys2Proof.Machine.execSrdo2Received bytes inv s
  | .srdo2Invalid kind => Sys2Proof.Machine.execSrdo2Invalid kind s
  | .busOff p tec => Sys2Proof.Machine.execBusOff p tec s
  | .busOffRecovery p => Sys2Proof.Machine.execBusOffRecovery p s
  | .errorPassive p tec rec => Sys2Proof.Machine.execErrorPassive p tec rec s
  | .canopenHeartbeat p => Sys2Proof.Machine.execCanopenHeartbeat p s
  | .emergencyMessage p => Sys2Proof.Machine.execEmergencyMessage p s
  | .dictionaryWrite c idx sub bytes => Sys2Proof.Machine.execDictionaryWrite c idx sub bytes s
  | .applyFence c val => Sys2Proof.Machine.execApplyFence c val s
  | .fenceApplied c => Sys2Proof.Machine.execFenceApplied c s
  | .store c val => Sys2Proof.Machine.execStore c val s
  | .restoreDefaults c val => Sys2Proof.Machine.execRestoreDefaults c val s
  | .commitPortSettings c val => Sys2Proof.Machine.execCommitPortSettings c val s
  | .sessionOpen ip => Sys2Proof.Machine.execSessionOpen ip s
  | .sessionClose n => Sys2Proof.Machine.execSessionClose n s
  | .fspReadEntry n tag idx sub => Sys2Proof.Machine.execFspReadEntry n tag idx sub s
  | .fspWriteEntry n tag idx sub bytes => Sys2Proof.Machine.execFspWriteEntry n tag idx sub bytes s
  | .fspBatch n tag bytes => Sys2Proof.Machine.execFspBatch n tag bytes s
  | .fspReadEvents n tag first cnt => Sys2Proof.Machine.execFspReadEvents n tag first cnt s
  | .fspReadFile n tag file offset => Sys2Proof.Machine.execFspReadFile n tag file offset s
  | .localRequest m val => Sys2Proof.Machine.execLocalRequest m val s
  | .memoryRead m addr len => Sys2Proof.Machine.execMemoryRead m addr len s
  | .memoryWrite m addr bytes => Sys2Proof.Machine.execMemoryWrite m addr bytes s
  | .flipArm m val => Sys2Proof.Machine.execFlipArm m val s
  | .antScrub addr => Sys2Proof.Machine.execAntScrub addr s
  | .weevilLine => Sys2Proof.Machine.execWeevilLine s
  | .weevilVisit => Sys2Proof.Machine.execWeevilVisit s
  | .fuseProgram m val => Sys2Proof.Machine.execFuseProgram m val s
  | .fuseProgramDone => Sys2Proof.Machine.execFuseProgramDone s
  | .pprRequest m val => Sys2Proof.Machine.execPprRequest m val s
  | .flashHealthRead life preeol => Sys2Proof.Machine.execFlashHealthRead life preeol s
  | .blockFenceWrite m blk val => Sys2Proof.Machine.execBlockFenceWrite m blk val s
  | .dmaStart m c => Sys2Proof.Machine.execDmaStart m c s
  | .dmaAbort m c => Sys2Proof.Machine.execDmaAbort m c s
  | .dmaDescriptorDone c => Sys2Proof.Machine.execDmaDescriptorDone c s
  | .mailboxSend m n val => Sys2Proof.Machine.execMailboxSend m n val s
  | .mailboxFencePost n => Sys2Proof.Machine.execMailboxFencePost n s
  | .mailboxTake m n => Sys2Proof.Machine.execMailboxTake m n s
  | .crossWait a b => Sys2Proof.Machine.execCrossWait a b s
  | .lockRead m l => Sys2Proof.Machine.execLockRead m l s
  | .lockRelease m l val => Sys2Proof.Machine.execLockRelease m l val s
  | .parkRequest m halted => Sys2Proof.Machine.execParkRequest m halted s
  | .parked => Sys2Proof.Machine.execParked s
  | .foxWake => Sys2Proof.Machine.execFoxWake s
  | .parkStart m val => Sys2Proof.Machine.execParkStart m val s
  | .eventRecordWrite => Sys2Proof.Machine.execEventRecordWrite s
  | .archiveBlockWrite => Sys2Proof.Machine.execArchiveBlockWrite s
  | .ringFillDone flight => Sys2Proof.Machine.execRingFillDone flight s
  | .freeze m tag => Sys2Proof.Machine.execFreeze m tag s
  | .windowCopyStart => Sys2Proof.Machine.execWindowCopyStart s
  | .windowStored => Sys2Proof.Machine.execWindowStored s
  | .cursorWrite m high val => Sys2Proof.Machine.execCursorWrite m high val s
  | .fatalError m code dump => Sys2Proof.Machine.execFatalError m code dump s
  | .operatingHour => Sys2Proof.Machine.execOperatingHour s
  | .lifeRecompute => Sys2Proof.Machine.execLifeRecompute s
  | .imageOpen n tag kind => Sys2Proof.Machine.execImageOpen n tag kind s
  | .imageData n tag offset bytes => Sys2Proof.Machine.execImageData n tag offset bytes s
  | .imageClose n tag => Sys2Proof.Machine.execImageClose n tag s
  | .boot => Sys2Proof.Machine.execBoot s
  | .handoverLoad m => Sys2Proof.Machine.execHandoverLoad m s
  | .candidateReady off => Sys2Proof.Machine.execCandidateReady off s
  | .handoverRequest m => Sys2Proof.Machine.execHandoverRequest m s
  | .handoverDiscard m => Sys2Proof.Machine.execHandoverDiscard m s
  | .handoverStart => Sys2Proof.Machine.execHandoverStart s
  | .handoverSnapshot => Sys2Proof.Machine.execHandoverSnapshot s
  | .handoverAuthority => Sys2Proof.Machine.execHandoverAuthority s
  | .confirm m val => Sys2Proof.Machine.execConfirm m val s
  | .handoverRevert fatal => Sys2Proof.Machine.execHandoverRevert fatal s
  | .keyInput l0 l1 => Sys2Proof.Machine.execKeyInput l0 l1 s
  | .sealInput closed => Sys2Proof.Machine.execSealInput closed s
  | .lidButtonPress => Sys2Proof.Machine.execLidButtonPress s
  | .lidButtonStuck => Sys2Proof.Machine.execLidButtonStuck s
  | .safeokWrite m val => Sys2Proof.Machine.execSafeokWrite m val s
  | .presenceTimeout => Sys2Proof.Machine.execPresenceTimeout s
  | .debugUnlock m val => Sys2Proof.Machine.execDebugUnlock m val s
  | .backupChunkSend => Sys2Proof.Machine.execBackupChunkSend s
  | .adopt c inst car => Sys2Proof.Machine.execAdopt c inst car s
  | .backupApplied => Sys2Proof.Machine.execBackupApplied s
  | .verificationStart c => Sys2Proof.Machine.execVerificationStart c s
  | .verificationEnd => Sys2Proof.Machine.execVerificationEnd s
  | .powerOnResetRelease => Sys2Proof.Machine.execPowerOnResetRelease s
  | .powerFail => Sys2Proof.Machine.execPowerFail s
  | .powerFailReset => Sys2Proof.Machine.execPowerFailReset s
  | .vinLow mv => Sys2Proof.Machine.execVinLow mv s
  | .vsafeCrossing mv => Sys2Proof.Machine.execVsafeCrossing mv s
  | .nmrst => Sys2Proof.Machine.execNmrst s
  | .warmReset m key => Sys2Proof.Machine.execWarmReset m key s
  | .moduleReset m key => Sys2Proof.Machine.execModuleReset m key s
  | .safeDomainReset m key => Sys2Proof.Machine.execSafeDomainReset m key s
  | .appDomainReset m key => Sys2Proof.Machine.execAppDomainReset m key s
  | .coreDomainReset m key => Sys2Proof.Machine.execCoreDomainReset m key s
  | .partnerResetEnd => Sys2Proof.Machine.execPartnerResetEnd s
  | .loadCalibrateZero c => Sys2Proof.Machine.execLoadCalibrateZero c s
  | .loadCalibrateSpan c => Sys2Proof.Machine.execLoadCalibrateSpan c s
  | .keyChannelsDisagree => Sys2Proof.Machine.execKeyChannelsDisagree s
  | .keyChannelsAgree => Sys2Proof.Machine.execKeyChannelsAgree s
  | .lidButtonRearm => Sys2Proof.Machine.execLidButtonRearm s
  | .lineFaultCleared n mask => Sys2Proof.Machine.execLineFaultCleared n mask s
  | .errorActiveReturn p tec rec => Sys2Proof.Machine.execErrorActiveReturn p tec rec s
  | .ethernetLinkChange up full => Sys2Proof.Machine.execEthernetLinkChange up full s
  | .holdCharged ms mv => Sys2Proof.Machine.execHoldCharged ms mv s

end Sys2Proof.Machine
end

