-- ==== Sys2Proof/Laws/Registers.lean ====
section
/-! SUPPORT. What the register operations can do: reading after writing (a register, a field), and what they leave alone. -/

namespace Sys2Proof.Machine

/-! ## Stores by key -/

theorem alGet_alSet_self {α : Type} (l : List (Nat × α)) (a : Nat) (x d : α) : alGet (alSet l a x) a d = x := by
  induction l with
  | nil => simp [alSet, alGet]
  | cons e t ih =>
    obtain ⟨k, v⟩ := e
    by_cases h : k = a <;> simp [alSet, alGet, h, ih]

theorem alGet_alSet_ne {α : Type} (l : List (Nat × α)) {a b : Nat} (h : a ≠ b) (x d : α) :
    alGet (alSet l a x) b d = alGet l b d := by
  induction l with
  | nil => simp [alSet, alGet, h]
  | cons e t ih =>
    obtain ⟨k, v⟩ := e
    by_cases hk : k = a
    · subst hk; simp [alSet, alGet, h]
    · by_cases hb : k = b
      · subst hb; simp [alSet, alGet, hk]
      · simp [alSet, alGet, hk, hb, ih]

/-! ## Registers -/

theorem Dev.rd_wr_self (s : Dev) (a : Nat) (v : Word) : (s.wr a v).rd a = v := alGet_alSet_self ..

theorem Dev.rd_wr_ne (s : Dev) {a b : Nat} (h : a ≠ b) (v : Word) : (s.wr a v).rd b = s.rd b := alGet_alSet_ne _ h ..

theorem Dev.rd_setFld_ne (s : Dev) {f : Fld} {b : Nat} (h : f.addr ≠ b) (v : Nat) : (s.setFld f v).rd b = s.rd b := rd_wr_ne s h _

theorem Dev.rd_setFlag_ne (s : Dev) {f : Fld} {b : Nat} (h : f.addr ≠ b) (v : Bool) : (s.setFlag f v).rd b = s.rd b := rd_wr_ne s h _

theorem Dev.rd_setBit_ne (s : Dev) {a b : Nat} (h : a ≠ b) (i : Nat) : (s.setBit a i).rd b = s.rd b := rd_wr_ne s h _

theorem Dev.rd_clrBit_ne (s : Dev) {a b : Nat} (h : a ≠ b) (i : Nat) : (s.clrBit a i).rd b = s.rd b := rd_wr_ne s h _

theorem Dev.rd_satInc_ne (s : Dev) {f : Fld} {b : Nat} (h : f.addr ≠ b) : (s.satInc f).rd b = s.rd b := by
  unfold Dev.satInc
  split
  · exact rd_wr_ne s h _
  · rfl

/-! ## Fields of a word -/

/-- The bits of a number above and below a field, with another field value between them. -/
theorem fieldSwap (w lo wd v : Nat) :
    w - w / 2 ^ lo % 2 ^ wd * 2 ^ lo + v % 2 ^ wd * 2 ^ lo = (w / 2 ^ lo / 2 ^ wd * 2 ^ wd + v % 2 ^ wd) * 2 ^ lo + w % 2 ^ lo := by
  have h1 := Nat.div_add_mod w (2 ^ lo)
  have h2 := Nat.div_add_mod (w / 2 ^ lo) (2 ^ wd)
  generalize 2 ^ lo = p at *
  generalize 2 ^ wd = q at *
  generalize w / p = x at *
  generalize x / q = y at *
  generalize x % q = z at *
  generalize v % q = u at *
  generalize w % p = r at *
  subst h1 h2
  have e : p * (q * y + z) + r = z * p + (y * q * p + r) := by ring
  rw [e, Nat.add_sub_cancel_left]
  ring

theorem fieldSwap_lt {w lo wd v n : Nat} (hw : w < 2 ^ n) (h : lo + wd ≤ n) :
    (w / 2 ^ lo / 2 ^ wd * 2 ^ wd + v % 2 ^ wd) * 2 ^ lo + w % 2 ^ lo < 2 ^ n := by
  have hp : (2 : Nat) ^ n = 2 ^ (n - (lo + wd)) * 2 ^ wd * 2 ^ lo := by
    rw [← Nat.pow_add, ← Nat.pow_add]; congr 1; omega
  have hy : w / 2 ^ lo / 2 ^ wd < 2 ^ (n - (lo + wd)) := by
    rw [Nat.div_div_eq_div_mul, Nat.div_lt_iff_lt_mul (by positivity)]
    calc w < 2 ^ n := hw
      _ = _ := by rw [hp]; ring
  have hr : w % 2 ^ lo < 2 ^ lo := Nat.mod_lt _ (by positivity)
  have hu : v % 2 ^ wd < 2 ^ wd := Nat.mod_lt _ (by positivity)
  rw [hp]
  generalize w / 2 ^ lo / 2 ^ wd = y at *
  generalize v % 2 ^ wd = u at *
  generalize w % 2 ^ lo = r at *
  generalize 2 ^ (n - (lo + wd)) = k at *
  generalize 2 ^ lo = p at *
  generalize 2 ^ wd = q at *
  have a1 : (y + 1) * q * p ≤ k * q * p := Nat.mul_le_mul_right _ (Nat.mul_le_mul_right _ hy)
  have a2 : (u + 1) * p ≤ q * p := Nat.mul_le_mul_right _ hu
  nlinarith

theorem fldOf_putFld (w : Word) (f : Fld) (v : Nat) (h : f.lo + f.width ≤ 32) : fldOf (putFld w f v) f = v % 2 ^ f.width := by
  unfold putFld
  unfold fldOf
  rw [fieldSwap, BitVec.toNat_ofNat, Nat.mod_eq_of_lt (fieldSwap_lt w.isLt h)]
  have hr : w.toNat % 2 ^ f.lo < 2 ^ f.lo := Nat.mod_lt _ (by positivity)
  rw [Nat.add_comm, Nat.add_mul_div_right _ _ (by positivity), Nat.div_eq_of_lt hr, Nat.zero_add, Nat.add_comm,
    Nat.add_mul_mod_self_right, Nat.mod_mod]

/-- A field above another one keeps its value. -/
theorem fldOf_putFld_above (w : Word) (f g : Fld) (v : Nat) (h : f.lo + f.width ≤ 32) (hg : f.lo + f.width ≤ g.lo) :
    fldOf (putFld w f v) g = fldOf w g := by
  unfold putFld
  unfold fldOf
  rw [fieldSwap, BitVec.toNat_ofNat, Nat.mod_eq_of_lt (fieldSwap_lt w.isLt h)]
  obtain ⟨k, hk⟩ := Nat.exists_eq_add_of_le hg
  have key : ∀ x : Nat, x / 2 ^ g.lo = x / 2 ^ f.lo / 2 ^ f.width / 2 ^ k := fun x => by
    rw [Nat.div_div_eq_div_mul, Nat.div_div_eq_div_mul, hk, Nat.pow_add, Nat.pow_add, Nat.mul_assoc]
  have hr : w.toNat % 2 ^ f.lo < 2 ^ f.lo := Nat.mod_lt _ (by positivity)
  have hu : v % 2 ^ f.width < 2 ^ f.width := Nat.mod_lt _ (by positivity)
  rw [key, key, Nat.add_comm, Nat.add_mul_div_right _ _ (by positivity), Nat.div_eq_of_lt hr, Nat.zero_add,
    Nat.add_comm (_ * _), Nat.add_mul_div_right _ _ (by positivity), Nat.div_eq_of_lt hu, Nat.zero_add]

/-- A field below another one keeps its value. -/
theorem fldOf_putFld_below (w : Word) (f g : Fld) (v : Nat) (h : f.lo + f.width ≤ 32) (hg : g.lo + g.width ≤ f.lo) :
    fldOf (putFld w f v) g = fldOf w g := by
  unfold putFld
  unfold fldOf
  rw [fieldSwap, BitVec.toNat_ofNat, Nat.mod_eq_of_lt (fieldSwap_lt w.isLt h)]
  obtain ⟨k, hk⟩ := Nat.exists_eq_add_of_le hg
  have e : ∀ x : Nat, x / 2 ^ g.lo % 2 ^ g.width = x % 2 ^ f.lo / 2 ^ g.lo % 2 ^ g.width := fun x => by
    rw [hk, Nat.pow_add, Nat.pow_add, Nat.mul_assoc, Nat.mod_mul_right_div_self, Nat.mod_mul_right_mod]
  rw [e, e w.toNat]
  congr 2
  rw [Nat.mul_comm, Nat.mul_add_mod, Nat.mod_mod]

theorem Dev.fld_setFld (s : Dev) (f : Fld) (v : Nat) (h : f.lo + f.width ≤ 32) : (s.setFld f v).fld f = v % 2 ^ f.width := by
  unfold Dev.fld Dev.setFld
  rw [rd_wr_self]
  exact fldOf_putFld _ _ _ h

theorem Dev.fld_setFld_addr (s : Dev) {f g : Fld} (v : Nat) (h : f.addr ≠ g.addr) : (s.setFld f v).fld g = s.fld g :=
  congrArg (fldOf · g) (rd_setFld_ne s h v)

theorem Dev.fld_setFld_above (s : Dev) {f g : Fld} (v : Nat) (ha : f.addr = g.addr) (h : f.lo + f.width ≤ 32)
    (hg : f.lo + f.width ≤ g.lo) : (s.setFld f v).fld g = s.fld g := by
  unfold Dev.fld Dev.setFld
  rw [← ha, rd_wr_self]
  exact fldOf_putFld_above _ _ _ _ h hg

theorem Dev.fld_setFld_below (s : Dev) {f g : Fld} (v : Nat) (ha : f.addr = g.addr) (h : f.lo + f.width ≤ 32)
    (hg : g.lo + g.width ≤ f.lo) : (s.setFld f v).fld g = s.fld g := by
  unfold Dev.fld Dev.setFld
  rw [← ha, rd_wr_self]
  exact fldOf_putFld_below _ _ _ _ h hg

/-- A flag that has been set reads as it was set. -/
theorem Dev.flag_setFlag (s : Dev) (f : Fld) (b : Bool) (h : f.lo + f.width ≤ 32) (h1 : f.width ≠ 0) : (s.setFlag f b).flag f = b := by
  unfold Dev.flag Dev.setFlag
  rw [fld_setFld s f _ h]
  have : 2 ^ f.width = 2 * 2 ^ (f.width - 1) := by rw [← Nat.pow_succ']; congr 1; omega
  have : 1 ≤ 2 ^ (f.width - 1) := Nat.one_le_two_pow
  cases b
  · simp [b2n]
  · simp only [b2n, if_true, decide_eq_true_eq]; exact Nat.mod_eq_of_lt (by omega)

/-! ## Single bits, and reading after any write -/

theorem bitN_eq (w : Word) (i : Nat) : bitN w.toNat i = w.getLsbD i := by
  rw [BitVec.getLsbD, Nat.testBit_eq_decide_div_mod_eq]; rfl

theorem bitN_or_self (w : Word) (i : Nat) (h : i < 32) : bitN (w ||| BitVec.ofNat 32 (2 ^ i)).toNat i = true := by
  rw [bitN_eq, BitVec.getLsbD_or, BitVec.getLsbD_ofNat, Nat.testBit_two_pow_self]; simp [h]

theorem Dev.rd_setBit_self (s : Dev) (a i : Nat) (h : i < 32) : bitN ((s.setBit a i).rd a).toNat i = true := by
  unfold Dev.setBit; rw [Dev.rd_wr_self]; exact bitN_or_self _ _ h

theorem Dev.bitN_setBit_of (s : Dev) (a i b j : Nat) (h : bitN (s.rd b).toNat j = true): bitN ((s.setBit a i).rd b).toNat j = true := by
  by_cases e : a = b
  · subst e
    unfold Dev.setBit; rw [Dev.rd_wr_self]
    rw [bitN_eq] at *
    rw [BitVec.getLsbD_or, h]; rfl
  · rw [Dev.rd_setBit_ne s e]; exact h

theorem Dev.fld_satInc (s : Dev) (f : Fld) (h : f.lo + f.width ≤ 32) : (s.satInc f).fld f = min (s.fld f + 1) (2 ^ f.width - 1) := by
  have hl : s.fld f < 2 ^ f.width := Nat.mod_lt _ (by positivity)
  unfold Dev.satInc
  split
  · rename_i h1; rw [Dev.fld_setFld _ _ _ h, Nat.mod_eq_of_lt h1]; omega
  · omega

theorem Dev.rd_wr_if (s : Dev) (a : Nat) (v : Word) (b : Nat) : (s.wr a v).rd b = if a = b then v else s.rd b := by
  split
  · rename_i h; rw [← h]; exact Dev.rd_wr_self ..
  · rename_i h; exact Dev.rd_wr_ne s h v

theorem Dev.rd_setFld_if (s : Dev) (f : Fld) (b : Nat) (v : Nat) : (s.setFld f v).rd b = if f.addr = b then putFld (s.rd f.addr) f v else s.rd b := by
  split
  · rename_i h; rw [← h]; exact Dev.rd_wr_self ..
  · rename_i h; exact Dev.rd_setFld_ne s h v

theorem Dev.rd_setFlag_if (s : Dev) (f : Fld) (b : Nat) (v : Bool) : (s.setFlag f v).rd b = if f.addr = b then putFld (s.rd f.addr) f (b2n v) else s.rd b := Dev.rd_setFld_if ..

theorem Dev.rd_setBit_if (s : Dev) (a i : Nat) (b : Nat) : (s.setBit a i).rd b = if a = b then s.rd a ||| BitVec.ofNat 32 (2 ^ i) else s.rd b := by
  split
  · rename_i h; rw [← h]; exact Dev.rd_wr_self ..
  · rename_i h; exact Dev.rd_setBit_ne s h i

theorem Dev.fld_setFld_if (s : Dev) (f g : Fld) (v : Nat) : (s.setFld f v).fld g = if f.addr = g.addr then fldOf (putFld (s.rd f.addr) f v) g else s.fld g := by
  unfold Dev.fld; rw [Dev.rd_setFld_if]; split <;> rfl

/-! ## Fields apart -/

/-- Two fields share no bit, and the first lies in its word. -/
def Fld.Apart (f g : Fld) : Prop := f.addr ≠ g.addr ∨ (f.lo ≤ f.hi ∧ f.hi < 32 ∧ (f.hi < g.lo ∨ g.hi < f.lo ∧ g.lo ≤ g.hi))

theorem Dev.fld_setFld_apart (s : Dev) {f g : Fld} (v : Nat) (h : f.Apart g) : (s.setFld f v).fld g = s.fld g := by
  by_cases ha : f.addr = g.addr
  · obtain ⟨h1, h2, h3 | h3⟩ := h.resolve_left (not_not_intro ha)
    · exact fld_setFld_above s v ha (by unfold Fld.width; omega) (by unfold Fld.width; omega)
    · exact fld_setFld_below s v ha (by unfold Fld.width; omega) (by unfold Fld.width; omega)
  · exact fld_setFld_addr s v ha

theorem Dev.flag_setFlag_apart (s : Dev) {f g : Fld} (b : Bool) (h : f.Apart g) : (s.setFlag f b).flag g = s.flag g := by
  unfold Dev.flag Dev.setFlag; rw [fld_setFld_apart s _ h]

theorem Dev.fld_setFlag_apart (s : Dev) {f g : Fld} (b : Bool) (h : f.Apart g) : (s.setFlag f b).fld g = s.fld g :=
  fld_setFld_apart s _ h

theorem Dev.flag_setFld_apart (s : Dev) {f g : Fld} (v : Nat) (h : f.Apart g) : (s.setFld f v).flag g = s.flag g := by
  unfold Dev.flag; rw [fld_setFld_apart s _ h]

theorem Dev.fld_satInc_apart (s : Dev) {f g : Fld} (h : f.Apart g) : (s.satInc f).fld g = s.fld g := by
  unfold Dev.satInc
  split
  · exact fld_setFld_apart s _ h
  · rfl

theorem Dev.fld_setBit_ne (s : Dev) {a : Nat} {g : Fld} (i : Nat) (h : a ≠ g.addr) : (s.setBit a i).fld g = s.fld g :=
  congrArg (fldOf · g) (rd_setBit_ne s h i)

theorem Dev.fld_wr_ne (s : Dev) {a : Nat} {g : Fld} (v : Word) (h : a ≠ g.addr) : (s.wr a v).fld g = s.fld g :=
  congrArg (fldOf · g) (rd_wr_ne s h v)

end Sys2Proof.Machine
end

