-- ==== Sys2Proof/Safety.lean ====
section
/-! DEFINITION. What counts as a safe run of the module, and the words in which the claims are stated: a command completes with
what a predicate says of the module, and what it leaves unchanged. -/

namespace Sys2Proof

/-- A run of n steps ends neither in a fault nor in a refusal. -/
def safeRun (n : Nat) (s : Machine.State) : Prop := ∃ t, core.run n s = .next t

end Sys2Proof

namespace Sys2Proof.Machine

/-- The command answers a next state whose module satisfies `P`; memory and the queue are as before. -/
def Completes (i : Instr) (s : State) (P : Dev → Prop) : Prop :=
  ∃ t, exec i s = .next t ∧ t.mem = s.mem ∧ t.pending = s.pending ∧ P t.dev

/-- The command answers a next state whose module and memories satisfy `P`; the queue is as before. -/
def CompletesAll (i : Instr) (s : State) (P : Dev → MemSys → Prop) : Prop :=
  ∃ t, exec i s = .next t ∧ t.pending = s.pending ∧ P t.dev t.mem

/-- The command is an accepted dictionary write of the client `c`: it is staged behind the writes that apply no later (R326, R327), beside
its record in the presence log (R406) and the count in ODE.STATUS nothing else changes yet, and the application that the next sample point
gives it, on the module as it stands, satisfies `P`. -/
def CompletesStaged (i : Instr) (s : State) (c : Client) (idx sub : Nat) (bytes : List Byte) (P : Dev → Prop) : Prop :=
  Completes i s fun d =>
    d.ode = { s.dev.ode with staged := stageInto { client := c, at_ := s.dev.now, idx := idx, sub := sub, bytes := bytes } s.dev.ode.staged } ∧
    d = { s.dev with ode := d.ode, nv := { s.dev.nv with presLog := d.nv.presLog }, regs := d.regs } ∧
    (∀ a, a ≠ R.ODE_STATUS → d.rd a = s.dev.rd a) ∧ P (s.dev.applyEntry c idx sub bytes)

/-- The parts of the module: one for each field of Dev. -/
inductive Part where
  | now | regs | force | od | odPend | bus | latch | fresh | missRun | missTick | begun | alarmDue | alarmSet | posx
  | evr | cmpl | pgen | ceng | doors | motion | ring | bid | chA | chB | marten | badger | sout | io | can
  | errHist | ode | mbox | pres | boot | ana | memc | nv | inReset
  deriving DecidableEq, Repr

/-- Two modules agree on a part. -/
def Part.Same (s t : Dev) : Part → Prop
  | .now => t.now = s.now
  | .regs => t.regs = s.regs
  | .force => t.force = s.force
  | .od => t.od = s.od
  | .odPend => t.odPend = s.odPend
  | .bus => t.bus = s.bus
  | .latch => t.latch = s.latch
  | .fresh => t.fresh = s.fresh
  | .missRun => t.missRun = s.missRun
  | .missTick => t.missTick = s.missTick
  | .begun => t.begun = s.begun
  | .alarmDue => t.alarmDue = s.alarmDue
  | .alarmSet => t.alarmSet = s.alarmSet
  | .posx => t.posx = s.posx
  | .evr => t.evr = s.evr
  | .cmpl => t.cmpl = s.cmpl
  | .pgen => t.pgen = s.pgen
  | .ceng => t.ceng = s.ceng
  | .doors => t.doors = s.doors
  | .motion => t.motion = s.motion
  | .ring => t.ring = s.ring
  | .bid => t.bid = s.bid
  | .chA => t.chA = s.chA
  | .chB => t.chB = s.chB
  | .marten => t.marten = s.marten
  | .badger => t.badger = s.badger
  | .sout => t.sout = s.sout
  | .io => t.io = s.io
  | .can => t.can = s.can
  | .errHist => t.errHist = s.errHist
  | .ode => t.ode = s.ode
  | .mbox => t.mbox = s.mbox
  | .pres => t.pres = s.pres
  | .boot => t.boot = s.boot
  | .ana => t.ana = s.ana
  | .memc => t.memc = s.memc
  | .nv => t.nv = s.nv
  | .inReset => t.inReset = s.inReset

/-- The address lies in the register space of block `b` (R14). -/
def inBlock (b a : Nat) : Bool := a / 0x10000 = 0x4000 + b

/-- The parts that an event report may change: the registers (of EVR), EVR, Bear, the emergency messages with the error
history, and the dictionary values (0x2802). -/
def reportParts : List Part := [.regs, .evr, .nv, .can, .errHist, .od]

/-- The parts that the report of an event outside the classes 0x8 and 0xF may change: no safety log, no window. -/
def noticeParts : List Part := [.regs, .evr, .can, .errHist]

/-- What a command leaves alone: every part that `ps` does not name, and every register that `touch` does not name. -/
def Dev.Frame (ps : List Part) (touch : Nat → Bool) (s t : Dev) : Prop :=
  (∀ p, p ∉ ps → p.Same s t) ∧ ∀ a, touch a = false → t.rd a = s.rd a

end Sys2Proof.Machine
end

