-- ==== Sys2Proof/Laws/Frame.lean ====
section
/-! SUPPORT. Frames: how what one operation leaves alone carries over to what several leave alone. -/

namespace Sys2Proof.Machine

theorem Part.Same.refl (s : Dev) (p : Part) : p.Same s s := by cases p <;> exact rfl

theorem Part.Same.trans {s t u : Dev} {p : Part} (h1 : p.Same s t) (h2 : p.Same t u) : p.Same s u := by
  cases p <;> exact Eq.trans h2 h1

theorem Dev.Frame.refl {ps : List Part} {touch : Nat → Bool} (s : Dev) : Dev.Frame ps touch s s := ⟨fun p _ => .refl s p, fun _ _ => rfl⟩

theorem Dev.Frame.trans {ps : List Part} {touch : Nat → Bool} {s t u : Dev} (h1 : Dev.Frame ps touch s t) (h2 : Dev.Frame ps touch t u) :
    Dev.Frame ps touch s u := ⟨fun p h => (h1.1 p h).trans (h2.1 p h), fun a h => (h2.2 a h).trans (h1.2 a h)⟩

theorem Dev.Frame.mono {ps qs : List Part} {touch tch : Nat → Bool} {s t : Dev} (h : Dev.Frame ps touch s t) (hp : ∀ p ∈ ps, p ∈ qs)
    (ht : ∀ a, touch a = true → tch a = true) : Dev.Frame qs tch s t :=
  ⟨fun p hq => h.1 p fun hm => hq (hp p hm),
   fun a ha => h.2 a (by cases hta : touch a with | false => rfl | true => rw [ht a hta] at ha; cases ha)⟩

/-- A change of parts other than the registers. -/
theorem Dev.Frame.of_part {ps : List Part} {touch : Nat → Bool} {s t : Dev} (h : ∀ p : Part, p.Same s t ∨ p ∈ ps) (hr : t.regs = s.regs) :
    Dev.Frame ps touch s t := ⟨fun p hp => (h p).resolve_right hp, fun a _ => by unfold Dev.rd; rw [hr]⟩

theorem Dev.Frame.of_wr {ps : List Part} {touch : Nat → Bool} (s : Dev) {a : Nat} (v : Word) (hp : .regs ∈ ps) (ht : touch a = true) :
    Dev.Frame ps touch s (s.wr a v) := by
  refine ⟨fun p h => ?_, fun b hb => Dev.rd_wr_ne s (fun e => by rw [← e, ht] at hb; cases hb) v⟩
  cases p <;> first | exact rfl | exact absurd hp h

theorem Dev.Frame.of_setFld {ps : List Part} {touch : Nat → Bool} (s : Dev) {f : Fld} (v : Nat) (hp : .regs ∈ ps) (ht : touch f.addr = true) :
    Dev.Frame ps touch s (s.setFld f v) := Dev.Frame.of_wr s _ hp ht

theorem Dev.Frame.of_setFlag {ps : List Part} {touch : Nat → Bool} (s : Dev) {f : Fld} (b : Bool) (hp : .regs ∈ ps) (ht : touch f.addr = true) :
    Dev.Frame ps touch s (s.setFlag f b) := Dev.Frame.of_wr s _ hp ht

theorem Dev.Frame.of_setBit {ps : List Part} {touch : Nat → Bool} (s : Dev) {a : Nat} (i : Nat) (hp : .regs ∈ ps) (ht : touch a = true) :
    Dev.Frame ps touch s (s.setBit a i) := Dev.Frame.of_wr s _ hp ht

theorem Dev.Frame.of_clrBit {ps : List Part} {touch : Nat → Bool} (s : Dev) {a : Nat} (i : Nat) (hp : .regs ∈ ps) (ht : touch a = true) :
    Dev.Frame ps touch s (s.clrBit a i) := Dev.Frame.of_wr s _ hp ht

theorem Dev.Frame.of_satInc {ps : List Part} {touch : Nat → Bool} (s : Dev) {f : Fld} (hp : .regs ∈ ps) (ht : touch f.addr = true) :
    Dev.Frame ps touch s (s.satInc f) := by
  unfold Dev.satInc
  split
  · exact Dev.Frame.of_wr s _ hp ht
  · exact Dev.Frame.refl s

theorem Dev.Frame.of_ite {ps : List Part} {touch : Nat → Bool} {s t u : Dev} {c : Prop} [Decidable c] (h1 : Dev.Frame ps touch s t)
    (h2 : Dev.Frame ps touch s u) : Dev.Frame ps touch s (if c then t else u) := by
  split
  · exact h1
  · exact h2

theorem Dev.Frame.drop_now {ps : List Part} {touch : Nat → Bool} {s t : Dev} (h : Dev.Frame (.now :: ps) touch s t) (hn : t.now = s.now) :
    Dev.Frame ps touch s t := ⟨fun p hp => by
      by_cases e : p = .now
      · subst e; exact hn
      · exact h.1 p (by simp [e, hp]), h.2⟩

end Sys2Proof.Machine
end

