-- ==== Sys2Proof/Laws/State.lean ====
section
/-! SUPPORT. What an update of one part of the module leaves alone: the other parts, and all registers (for every part but the
registers themselves). The named updates of Ops (a register word, a dictionary value, an answer of the bus) follow. -/

namespace Sys2Proof.Machine

theorem Dev.Frame.with_now {ps : List Part} {touch : Nat → Bool} (s : Dev) (x : Nat) (h : .now ∈ ps) :
    Dev.Frame ps touch s { s with now := x } :=
  ⟨fun p hp => by cases p <;> first | exact rfl | exact absurd h hp, fun _ _ => rfl⟩

@[simp] theorem Dev.rd_with_now (s : Dev) (x : Nat) (a : Nat) : ({ s with now := x } : Dev).rd a = s.rd a := rfl

@[simp] theorem Dev.fld_with_now (s : Dev) (x : Nat) (f : Fld) : ({ s with now := x } : Dev).fld f = s.fld f := rfl

theorem Dev.Frame.with_force {ps : List Part} {touch : Nat → Bool} (s : Dev) (x : List (Nat × Word)) (h : .force ∈ ps) :
    Dev.Frame ps touch s { s with force := x } :=
  ⟨fun p hp => by cases p <;> first | exact rfl | exact absurd h hp, fun _ _ => rfl⟩

@[simp] theorem Dev.rd_with_force (s : Dev) (x : List (Nat × Word)) (a : Nat) : ({ s with force := x } : Dev).rd a = s.rd a := rfl

@[simp] theorem Dev.fld_with_force (s : Dev) (x : List (Nat × Word)) (f : Fld) : ({ s with force := x } : Dev).fld f = s.fld f := rfl

theorem Dev.Frame.with_od {ps : List Part} {touch : Nat → Bool} (s : Dev) (x : List (Nat × Nat)) (h : .od ∈ ps) :
    Dev.Frame ps touch s { s with od := x } :=
  ⟨fun p hp => by cases p <;> first | exact rfl | exact absurd h hp, fun _ _ => rfl⟩

@[simp] theorem Dev.rd_with_od (s : Dev) (x : List (Nat × Nat)) (a : Nat) : ({ s with od := x } : Dev).rd a = s.rd a := rfl

@[simp] theorem Dev.fld_with_od (s : Dev) (x : List (Nat × Nat)) (f : Fld) : ({ s with od := x } : Dev).fld f = s.fld f := rfl

theorem Dev.Frame.with_odPend {ps : List Part} {touch : Nat → Bool} (s : Dev) (x : List (Nat × Nat)) (h : .odPend ∈ ps) :
    Dev.Frame ps touch s { s with odPend := x } :=
  ⟨fun p hp => by cases p <;> first | exact rfl | exact absurd h hp, fun _ _ => rfl⟩

@[simp] theorem Dev.rd_with_odPend (s : Dev) (x : List (Nat × Nat)) (a : Nat) : ({ s with odPend := x } : Dev).rd a = s.rd a := rfl

@[simp] theorem Dev.fld_with_odPend (s : Dev) (x : List (Nat × Nat)) (f : Fld) : ({ s with odPend := x } : Dev).fld f = s.fld f := rfl

theorem Dev.Frame.with_bus {ps : List Part} {touch : Nat → Bool} (s : Dev) (x : Vector BusResp 11) (h : .bus ∈ ps) :
    Dev.Frame ps touch s { s with bus := x } :=
  ⟨fun p hp => by cases p <;> first | exact rfl | exact absurd h hp, fun _ _ => rfl⟩

@[simp] theorem Dev.rd_with_bus (s : Dev) (x : Vector BusResp 11) (a : Nat) : ({ s with bus := x } : Dev).rd a = s.rd a := rfl

@[simp] theorem Dev.fld_with_bus (s : Dev) (x : Vector BusResp 11) (f : Fld) : ({ s with bus := x } : Dev).fld f = s.fld f := rfl

theorem Dev.Frame.with_latch {ps : List Part} {touch : Nat → Bool} (s : Dev) (x : Vector NowLatch 11) (h : .latch ∈ ps) :
    Dev.Frame ps touch s { s with latch := x } :=
  ⟨fun p hp => by cases p <;> first | exact rfl | exact absurd h hp, fun _ _ => rfl⟩

@[simp] theorem Dev.rd_with_latch (s : Dev) (x : Vector NowLatch 11) (a : Nat) : ({ s with latch := x } : Dev).rd a = s.rd a := rfl

@[simp] theorem Dev.fld_with_latch (s : Dev) (x : Vector NowLatch 11) (f : Fld) : ({ s with latch := x } : Dev).fld f = s.fld f := rfl

theorem Dev.Frame.with_fresh {ps : List Part} {touch : Nat → Bool} (s : Dev) (x : Nat) (h : .fresh ∈ ps) :
    Dev.Frame ps touch s { s with fresh := x } :=
  ⟨fun p hp => by cases p <;> first | exact rfl | exact absurd h hp, fun _ _ => rfl⟩

@[simp] theorem Dev.rd_with_fresh (s : Dev) (x : Nat) (a : Nat) : ({ s with fresh := x } : Dev).rd a = s.rd a := rfl

@[simp] theorem Dev.fld_with_fresh (s : Dev) (x : Nat) (f : Fld) : ({ s with fresh := x } : Dev).fld f = s.fld f := rfl

theorem Dev.Frame.with_missRun {ps : List Part} {touch : Nat → Bool} (s : Dev) (x : Vector Nat 9) (h : .missRun ∈ ps) :
    Dev.Frame ps touch s { s with missRun := x } :=
  ⟨fun p hp => by cases p <;> first | exact rfl | exact absurd h hp, fun _ _ => rfl⟩

@[simp] theorem Dev.rd_with_missRun (s : Dev) (x : Vector Nat 9) (a : Nat) : ({ s with missRun := x } : Dev).rd a = s.rd a := rfl

@[simp] theorem Dev.fld_with_missRun (s : Dev) (x : Vector Nat 9) (f : Fld) : ({ s with missRun := x } : Dev).fld f = s.fld f := rfl

theorem Dev.Frame.with_missTick {ps : List Part} {touch : Nat → Bool} (s : Dev) (x : Vector Nat 9) (h : .missTick ∈ ps) :
    Dev.Frame ps touch s { s with missTick := x } :=
  ⟨fun p hp => by cases p <;> first | exact rfl | exact absurd h hp, fun _ _ => rfl⟩

theorem Dev.Frame.with_begun {ps : List Part} {touch : Nat → Bool} (s : Dev) (x : Bool) (h : .begun ∈ ps) :
    Dev.Frame ps touch s { s with begun := x } :=
  ⟨fun p hp => by cases p <;> first | exact rfl | exact absurd h hp, fun _ _ => rfl⟩

@[simp] theorem Dev.rd_with_missTick (s : Dev) (x : Vector Nat 9) (a : Nat) : ({ s with missTick := x } : Dev).rd a = s.rd a := rfl

@[simp] theorem Dev.rd_with_begun (s : Dev) (x : Bool) (a : Nat) : ({ s with begun := x } : Dev).rd a = s.rd a := rfl

@[simp] theorem Dev.fld_with_missTick (s : Dev) (x : Vector Nat 9) (f : Fld) : ({ s with missTick := x } : Dev).fld f = s.fld f := rfl

@[simp] theorem Dev.fld_with_begun (s : Dev) (x : Bool) (f : Fld) : ({ s with begun := x } : Dev).fld f = s.fld f := rfl

theorem Dev.Frame.with_alarmDue {ps : List Part} {touch : Nat → Bool} (s : Dev) (x : Vector Bool 4) (h : .alarmDue ∈ ps) :
    Dev.Frame ps touch s { s with alarmDue := x } :=
  ⟨fun p hp => by cases p <;> first | exact rfl | exact absurd h hp, fun _ _ => rfl⟩

@[simp] theorem Dev.rd_with_alarmDue (s : Dev) (x : Vector Bool 4) (a : Nat) : ({ s with alarmDue := x } : Dev).rd a = s.rd a := rfl

@[simp] theorem Dev.fld_with_alarmDue (s : Dev) (x : Vector Bool 4) (f : Fld) : ({ s with alarmDue := x } : Dev).fld f = s.fld f := rfl

theorem Dev.Frame.with_alarmSet {ps : List Part} {touch : Nat → Bool} (s : Dev) (x : Vector Bool 4) (h : .alarmSet ∈ ps) :
    Dev.Frame ps touch s { s with alarmSet := x } :=
  ⟨fun p hp => by cases p <;> first | exact rfl | exact absurd h hp, fun _ _ => rfl⟩

@[simp] theorem Dev.rd_with_alarmSet (s : Dev) (x : Vector Bool 4) (a : Nat) : ({ s with alarmSet := x } : Dev).rd a = s.rd a := rfl

@[simp] theorem Dev.fld_with_alarmSet (s : Dev) (x : Vector Bool 4) (f : Fld) : ({ s with alarmSet := x } : Dev).fld f = s.fld f := rfl

theorem Dev.Frame.with_posx {ps : List Part} {touch : Nat → Bool} (s : Dev) (x : PosxSt) (h : .posx ∈ ps) :
    Dev.Frame ps touch s { s with posx := x } :=
  ⟨fun p hp => by cases p <;> first | exact rfl | exact absurd h hp, fun _ _ => rfl⟩

@[simp] theorem Dev.rd_with_posx (s : Dev) (x : PosxSt) (a : Nat) : ({ s with posx := x } : Dev).rd a = s.rd a := rfl

@[simp] theorem Dev.fld_with_posx (s : Dev) (x : PosxSt) (f : Fld) : ({ s with posx := x } : Dev).fld f = s.fld f := rfl

theorem Dev.Frame.with_evr {ps : List Part} {touch : Nat → Bool} (s : Dev) (x : EvrSt) (h : .evr ∈ ps) :
    Dev.Frame ps touch s { s with evr := x } :=
  ⟨fun p hp => by cases p <;> first | exact rfl | exact absurd h hp, fun _ _ => rfl⟩

@[simp] theorem Dev.rd_with_evr (s : Dev) (x : EvrSt) (a : Nat) : ({ s with evr := x } : Dev).rd a = s.rd a := rfl

@[simp] theorem Dev.fld_with_evr (s : Dev) (x : EvrSt) (f : Fld) : ({ s with evr := x } : Dev).fld f = s.fld f := rfl

theorem Dev.Frame.with_cmpl {ps : List Part} {touch : Nat → Bool} (s : Dev) (x : CmplSt) (h : .cmpl ∈ ps) :
    Dev.Frame ps touch s { s with cmpl := x } :=
  ⟨fun p hp => by cases p <;> first | exact rfl | exact absurd h hp, fun _ _ => rfl⟩

@[simp] theorem Dev.rd_with_cmpl (s : Dev) (x : CmplSt) (a : Nat) : ({ s with cmpl := x } : Dev).rd a = s.rd a := rfl

@[simp] theorem Dev.fld_with_cmpl (s : Dev) (x : CmplSt) (f : Fld) : ({ s with cmpl := x } : Dev).fld f = s.fld f := rfl

theorem Dev.Frame.with_pgen {ps : List Part} {touch : Nat → Bool} (s : Dev) (x : PgenSt) (h : .pgen ∈ ps) :
    Dev.Frame ps touch s { s with pgen := x } :=
  ⟨fun p hp => by cases p <;> first | exact rfl | exact absurd h hp, fun _ _ => rfl⟩

@[simp] theorem Dev.rd_with_pgen (s : Dev) (x : PgenSt) (a : Nat) : ({ s with pgen := x } : Dev).rd a = s.rd a := rfl

@[simp] theorem Dev.fld_with_pgen (s : Dev) (x : PgenSt) (f : Fld) : ({ s with pgen := x } : Dev).fld f = s.fld f := rfl

theorem Dev.Frame.with_ceng {ps : List Part} {touch : Nat → Bool} (s : Dev) (x : CengSt) (h : .ceng ∈ ps) :
    Dev.Frame ps touch s { s with ceng := x } :=
  ⟨fun p hp => by cases p <;> first | exact rfl | exact absurd h hp, fun _ _ => rfl⟩

@[simp] theorem Dev.rd_with_ceng (s : Dev) (x : CengSt) (a : Nat) : ({ s with ceng := x } : Dev).rd a = s.rd a := rfl

@[simp] theorem Dev.fld_with_ceng (s : Dev) (x : CengSt) (f : Fld) : ({ s with ceng := x } : Dev).fld f = s.fld f := rfl

theorem Dev.Frame.with_doors {ps : List Part} {touch : Nat → Bool} (s : Dev) (x : Vector DoorSt 2) (h : .doors ∈ ps) :
    Dev.Frame ps touch s { s with doors := x } :=
  ⟨fun p hp => by cases p <;> first | exact rfl | exact absurd h hp, fun _ _ => rfl⟩

@[simp] theorem Dev.rd_with_doors (s : Dev) (x : Vector DoorSt 2) (a : Nat) : ({ s with doors := x } : Dev).rd a = s.rd a := rfl

@[simp] theorem Dev.fld_with_doors (s : Dev) (x : Vector DoorSt 2) (f : Fld) : ({ s with doors := x } : Dev).fld f = s.fld f := rfl

theorem Dev.Frame.with_motion {ps : List Part} {touch : Nat → Bool} (s : Dev) (x : Vector MotionSt 2) (h : .motion ∈ ps) :
    Dev.Frame ps touch s { s with motion := x } :=
  ⟨fun p hp => by cases p <;> first | exact rfl | exact absurd h hp, fun _ _ => rfl⟩

@[simp] theorem Dev.rd_with_motion (s : Dev) (x : Vector MotionSt 2) (a : Nat) : ({ s with motion := x } : Dev).rd a = s.rd a := rfl

@[simp] theorem Dev.fld_with_motion (s : Dev) (x : Vector MotionSt 2) (f : Fld) : ({ s with motion := x } : Dev).fld f = s.fld f := rfl

theorem Dev.Frame.with_ring {ps : List Part} {touch : Nat → Bool} (s : Dev) (x : RingSt) (h : .ring ∈ ps) :
    Dev.Frame ps touch s { s with ring := x } :=
  ⟨fun p hp => by cases p <;> first | exact rfl | exact absurd h hp, fun _ _ => rfl⟩

@[simp] theorem Dev.rd_with_ring (s : Dev) (x : RingSt) (a : Nat) : ({ s with ring := x } : Dev).rd a = s.rd a := rfl

@[simp] theorem Dev.fld_with_ring (s : Dev) (x : RingSt) (f : Fld) : ({ s with ring := x } : Dev).fld f = s.fld f := rfl

theorem Dev.Frame.with_bid {ps : List Part} {touch : Nat → Bool} (s : Dev) (x : BidSt) (h : .bid ∈ ps) :
    Dev.Frame ps touch s { s with bid := x } :=
  ⟨fun p hp => by cases p <;> first | exact rfl | exact absurd h hp, fun _ _ => rfl⟩

@[simp] theorem Dev.rd_with_bid (s : Dev) (x : BidSt) (a : Nat) : ({ s with bid := x } : Dev).rd a = s.rd a := rfl

@[simp] theorem Dev.fld_with_bid (s : Dev) (x : BidSt) (f : Fld) : ({ s with bid := x } : Dev).fld f = s.fld f := rfl

theorem Dev.Frame.with_chA {ps : List Part} {touch : Nat → Bool} (s : Dev) (x : ChanSt) (h : .chA ∈ ps) :
    Dev.Frame ps touch s { s with chA := x } :=
  ⟨fun p hp => by cases p <;> first | exact rfl | exact absurd h hp, fun _ _ => rfl⟩

@[simp] theorem Dev.rd_with_chA (s : Dev) (x : ChanSt) (a : Nat) : ({ s with chA := x } : Dev).rd a = s.rd a := rfl

@[simp] theorem Dev.fld_with_chA (s : Dev) (x : ChanSt) (f : Fld) : ({ s with chA := x } : Dev).fld f = s.fld f := rfl

theorem Dev.Frame.with_chB {ps : List Part} {touch : Nat → Bool} (s : Dev) (x : ChanSt) (h : .chB ∈ ps) :
    Dev.Frame ps touch s { s with chB := x } :=
  ⟨fun p hp => by cases p <;> first | exact rfl | exact absurd h hp, fun _ _ => rfl⟩

@[simp] theorem Dev.rd_with_chB (s : Dev) (x : ChanSt) (a : Nat) : ({ s with chB := x } : Dev).rd a = s.rd a := rfl

@[simp] theorem Dev.fld_with_chB (s : Dev) (x : ChanSt) (f : Fld) : ({ s with chB := x } : Dev).fld f = s.fld f := rfl

theorem Dev.Frame.with_marten {ps : List Part} {touch : Nat → Bool} (s : Dev) (x : MartenSt) (h : .marten ∈ ps) :
    Dev.Frame ps touch s { s with marten := x } :=
  ⟨fun p hp => by cases p <;> first | exact rfl | exact absurd h hp, fun _ _ => rfl⟩

@[simp] theorem Dev.rd_with_marten (s : Dev) (x : MartenSt) (a : Nat) : ({ s with marten := x } : Dev).rd a = s.rd a := rfl

@[simp] theorem Dev.fld_with_marten (s : Dev) (x : MartenSt) (f : Fld) : ({ s with marten := x } : Dev).fld f = s.fld f := rfl

theorem Dev.Frame.with_badger {ps : List Part} {touch : Nat → Bool} (s : Dev) (x : BadgerSt) (h : .badger ∈ ps) :
    Dev.Frame ps touch s { s with badger := x } :=
  ⟨fun p hp => by cases p <;> first | exact rfl | exact absurd h hp, fun _ _ => rfl⟩

@[simp] theorem Dev.rd_with_badger (s : Dev) (x : BadgerSt) (a : Nat) : ({ s with badger := x } : Dev).rd a = s.rd a := rfl

@[simp] theorem Dev.fld_with_badger (s : Dev) (x : BadgerSt) (f : Fld) : ({ s with badger := x } : Dev).fld f = s.fld f := rfl

theorem Dev.Frame.with_sout {ps : List Part} {touch : Nat → Bool} (s : Dev) (x : SoutSt) (h : .sout ∈ ps) :
    Dev.Frame ps touch s { s with sout := x } :=
  ⟨fun p hp => by cases p <;> first | exact rfl | exact absurd h hp, fun _ _ => rfl⟩

@[simp] theorem Dev.rd_with_sout (s : Dev) (x : SoutSt) (a : Nat) : ({ s with sout := x } : Dev).rd a = s.rd a := rfl

@[simp] theorem Dev.fld_with_sout (s : Dev) (x : SoutSt) (f : Fld) : ({ s with sout := x } : Dev).fld f = s.fld f := rfl

theorem Dev.Frame.with_io {ps : List Part} {touch : Nat → Bool} (s : Dev) (x : IoSt) (h : .io ∈ ps) :
    Dev.Frame ps touch s { s with io := x } :=
  ⟨fun p hp => by cases p <;> first | exact rfl | exact absurd h hp, fun _ _ => rfl⟩

@[simp] theorem Dev.rd_with_io (s : Dev) (x : IoSt) (a : Nat) : ({ s with io := x } : Dev).rd a = s.rd a := rfl

@[simp] theorem Dev.fld_with_io (s : Dev) (x : IoSt) (f : Fld) : ({ s with io := x } : Dev).fld f = s.fld f := rfl

theorem Dev.Frame.with_can {ps : List Part} {touch : Nat → Bool} (s : Dev) (x : Vector CanPort 2) (h : .can ∈ ps) :
    Dev.Frame ps touch s { s with can := x } :=
  ⟨fun p hp => by cases p <;> first | exact rfl | exact absurd h hp, fun _ _ => rfl⟩

@[simp] theorem Dev.rd_with_can (s : Dev) (x : Vector CanPort 2) (a : Nat) : ({ s with can := x } : Dev).rd a = s.rd a := rfl

@[simp] theorem Dev.fld_with_can (s : Dev) (x : Vector CanPort 2) (f : Fld) : ({ s with can := x } : Dev).fld f = s.fld f := rfl

theorem Dev.Frame.with_errHist {ps : List Part} {touch : Nat → Bool} (s : Dev) (x : List Nat) (h : .errHist ∈ ps) :
    Dev.Frame ps touch s { s with errHist := x } :=
  ⟨fun p hp => by cases p <;> first | exact rfl | exact absurd h hp, fun _ _ => rfl⟩

@[simp] theorem Dev.rd_with_errHist (s : Dev) (x : List Nat) (a : Nat) : ({ s with errHist := x } : Dev).rd a = s.rd a := rfl

@[simp] theorem Dev.fld_with_errHist (s : Dev) (x : List Nat) (f : Fld) : ({ s with errHist := x } : Dev).fld f = s.fld f := rfl

theorem Dev.Frame.with_ode {ps : List Part} {touch : Nat → Bool} (s : Dev) (x : OdeSt) (h : .ode ∈ ps) :
    Dev.Frame ps touch s { s with ode := x } :=
  ⟨fun p hp => by cases p <;> first | exact rfl | exact absurd h hp, fun _ _ => rfl⟩

@[simp] theorem Dev.rd_with_ode (s : Dev) (x : OdeSt) (a : Nat) : ({ s with ode := x } : Dev).rd a = s.rd a := rfl

@[simp] theorem Dev.fld_with_ode (s : Dev) (x : OdeSt) (f : Fld) : ({ s with ode := x } : Dev).fld f = s.fld f := rfl

theorem Dev.Frame.with_mbox {ps : List Part} {touch : Nat → Bool} (s : Dev) (x : MboxSt) (h : .mbox ∈ ps) :
    Dev.Frame ps touch s { s with mbox := x } :=
  ⟨fun p hp => by cases p <;> first | exact rfl | exact absurd h hp, fun _ _ => rfl⟩

@[simp] theorem Dev.rd_with_mbox (s : Dev) (x : MboxSt) (a : Nat) : ({ s with mbox := x } : Dev).rd a = s.rd a := rfl

@[simp] theorem Dev.fld_with_mbox (s : Dev) (x : MboxSt) (f : Fld) : ({ s with mbox := x } : Dev).fld f = s.fld f := rfl

theorem Dev.Frame.with_pres {ps : List Part} {touch : Nat → Bool} (s : Dev) (x : PresSt) (h : .pres ∈ ps) :
    Dev.Frame ps touch s { s with pres := x } :=
  ⟨fun p hp => by cases p <;> first | exact rfl | exact absurd h hp, fun _ _ => rfl⟩

@[simp] theorem Dev.rd_with_pres (s : Dev) (x : PresSt) (a : Nat) : ({ s with pres := x } : Dev).rd a = s.rd a := rfl

@[simp] theorem Dev.fld_with_pres (s : Dev) (x : PresSt) (f : Fld) : ({ s with pres := x } : Dev).fld f = s.fld f := rfl

theorem Dev.Frame.with_boot {ps : List Part} {touch : Nat → Bool} (s : Dev) (x : BootSt) (h : .boot ∈ ps) :
    Dev.Frame ps touch s { s with boot := x } :=
  ⟨fun p hp => by cases p <;> first | exact rfl | exact absurd h hp, fun _ _ => rfl⟩

@[simp] theorem Dev.rd_with_boot (s : Dev) (x : BootSt) (a : Nat) : ({ s with boot := x } : Dev).rd a = s.rd a := rfl

@[simp] theorem Dev.fld_with_boot (s : Dev) (x : BootSt) (f : Fld) : ({ s with boot := x } : Dev).fld f = s.fld f := rfl

theorem Dev.Frame.with_ana {ps : List Part} {touch : Nat → Bool} (s : Dev) (x : LoadSt) (h : .ana ∈ ps) :
    Dev.Frame ps touch s { s with ana := x } :=
  ⟨fun p hp => by cases p <;> first | exact rfl | exact absurd h hp, fun _ _ => rfl⟩

@[simp] theorem Dev.rd_with_ana (s : Dev) (x : LoadSt) (a : Nat) : ({ s with ana := x } : Dev).rd a = s.rd a := rfl

@[simp] theorem Dev.fld_with_ana (s : Dev) (x : LoadSt) (f : Fld) : ({ s with ana := x } : Dev).fld f = s.fld f := rfl

theorem Dev.Frame.with_memc {ps : List Part} {touch : Nat → Bool} (s : Dev) (x : MemcSt) (h : .memc ∈ ps) :
    Dev.Frame ps touch s { s with memc := x } :=
  ⟨fun p hp => by cases p <;> first | exact rfl | exact absurd h hp, fun _ _ => rfl⟩

@[simp] theorem Dev.rd_with_memc (s : Dev) (x : MemcSt) (a : Nat) : ({ s with memc := x } : Dev).rd a = s.rd a := rfl

@[simp] theorem Dev.fld_with_memc (s : Dev) (x : MemcSt) (f : Fld) : ({ s with memc := x } : Dev).fld f = s.fld f := rfl

theorem Dev.Frame.with_nv {ps : List Part} {touch : Nat → Bool} (s : Dev) (x : NonVol) (h : .nv ∈ ps) :
    Dev.Frame ps touch s { s with nv := x } :=
  ⟨fun p hp => by cases p <;> first | exact rfl | exact absurd h hp, fun _ _ => rfl⟩

@[simp] theorem Dev.rd_with_nv (s : Dev) (x : NonVol) (a : Nat) : ({ s with nv := x } : Dev).rd a = s.rd a := rfl

@[simp] theorem Dev.fld_with_nv (s : Dev) (x : NonVol) (f : Fld) : ({ s with nv := x } : Dev).fld f = s.fld f := rfl

theorem Dev.Frame.with_inReset {ps : List Part} {touch : Nat → Bool} (s : Dev) (x : Bool) (h : .inReset ∈ ps) :
    Dev.Frame ps touch s { s with inReset := x } :=
  ⟨fun p hp => by cases p <;> first | exact rfl | exact absurd h hp, fun _ _ => rfl⟩

@[simp] theorem Dev.rd_with_inReset (s : Dev) (x : Bool) (a : Nat) : ({ s with inReset := x } : Dev).rd a = s.rd a := rfl

@[simp] theorem Dev.fld_with_inReset (s : Dev) (x : Bool) (f : Fld) : ({ s with inReset := x } : Dev).fld f = s.fld f := rfl

/-! ## The named updates -/

@[simp] theorem Dev.wr_now (s : Dev) (a : Nat) (v : Word) : (s.wr a v).now = s.now := rfl
@[simp] theorem Dev.wr_force (s : Dev) (a : Nat) (v : Word) : (s.wr a v).force = s.force := rfl
@[simp] theorem Dev.wr_od (s : Dev) (a : Nat) (v : Word) : (s.wr a v).od = s.od := rfl
@[simp] theorem Dev.wr_odPend (s : Dev) (a : Nat) (v : Word) : (s.wr a v).odPend = s.odPend := rfl
@[simp] theorem Dev.wr_bus (s : Dev) (a : Nat) (v : Word) : (s.wr a v).bus = s.bus := rfl
@[simp] theorem Dev.wr_latch (s : Dev) (a : Nat) (v : Word) : (s.wr a v).latch = s.latch := rfl
@[simp] theorem Dev.wr_fresh (s : Dev) (a : Nat) (v : Word) : (s.wr a v).fresh = s.fresh := rfl
@[simp] theorem Dev.wr_missRun (s : Dev) (a : Nat) (v : Word) : (s.wr a v).missRun = s.missRun := rfl
@[simp] theorem Dev.wr_missTick (s : Dev) (a : Nat) (v : Word) : (s.wr a v).missTick = s.missTick := rfl
@[simp] theorem Dev.wr_begun (s : Dev) (a : Nat) (v : Word) : (s.wr a v).begun = s.begun := rfl
@[simp] theorem Dev.wr_alarmDue (s : Dev) (a : Nat) (v : Word) : (s.wr a v).alarmDue = s.alarmDue := rfl
@[simp] theorem Dev.wr_alarmSet (s : Dev) (a : Nat) (v : Word) : (s.wr a v).alarmSet = s.alarmSet := rfl
@[simp] theorem Dev.wr_posx (s : Dev) (a : Nat) (v : Word) : (s.wr a v).posx = s.posx := rfl
@[simp] theorem Dev.wr_evr (s : Dev) (a : Nat) (v : Word) : (s.wr a v).evr = s.evr := rfl
@[simp] theorem Dev.wr_cmpl (s : Dev) (a : Nat) (v : Word) : (s.wr a v).cmpl = s.cmpl := rfl
@[simp] theorem Dev.wr_pgen (s : Dev) (a : Nat) (v : Word) : (s.wr a v).pgen = s.pgen := rfl
@[simp] theorem Dev.wr_ceng (s : Dev) (a : Nat) (v : Word) : (s.wr a v).ceng = s.ceng := rfl
@[simp] theorem Dev.wr_doors (s : Dev) (a : Nat) (v : Word) : (s.wr a v).doors = s.doors := rfl
@[simp] theorem Dev.wr_motion (s : Dev) (a : Nat) (v : Word) : (s.wr a v).motion = s.motion := rfl
@[simp] theorem Dev.wr_ring (s : Dev) (a : Nat) (v : Word) : (s.wr a v).ring = s.ring := rfl
@[simp] theorem Dev.wr_bid (s : Dev) (a : Nat) (v : Word) : (s.wr a v).bid = s.bid := rfl
@[simp] theorem Dev.wr_chA (s : Dev) (a : Nat) (v : Word) : (s.wr a v).chA = s.chA := rfl
@[simp] theorem Dev.wr_chB (s : Dev) (a : Nat) (v : Word) : (s.wr a v).chB = s.chB := rfl
@[simp] theorem Dev.wr_marten (s : Dev) (a : Nat) (v : Word) : (s.wr a v).marten = s.marten := rfl
@[simp] theorem Dev.wr_badger (s : Dev) (a : Nat) (v : Word) : (s.wr a v).badger = s.badger := rfl
@[simp] theorem Dev.wr_sout (s : Dev) (a : Nat) (v : Word) : (s.wr a v).sout = s.sout := rfl
@[simp] theorem Dev.wr_io (s : Dev) (a : Nat) (v : Word) : (s.wr a v).io = s.io := rfl
@[simp] theorem Dev.wr_can (s : Dev) (a : Nat) (v : Word) : (s.wr a v).can = s.can := rfl
@[simp] theorem Dev.wr_errHist (s : Dev) (a : Nat) (v : Word) : (s.wr a v).errHist = s.errHist := rfl
@[simp] theorem Dev.wr_ode (s : Dev) (a : Nat) (v : Word) : (s.wr a v).ode = s.ode := rfl
@[simp] theorem Dev.wr_mbox (s : Dev) (a : Nat) (v : Word) : (s.wr a v).mbox = s.mbox := rfl
@[simp] theorem Dev.wr_pres (s : Dev) (a : Nat) (v : Word) : (s.wr a v).pres = s.pres := rfl
@[simp] theorem Dev.wr_boot (s : Dev) (a : Nat) (v : Word) : (s.wr a v).boot = s.boot := rfl
@[simp] theorem Dev.wr_ana (s : Dev) (a : Nat) (v : Word) : (s.wr a v).ana = s.ana := rfl
@[simp] theorem Dev.wr_memc (s : Dev) (a : Nat) (v : Word) : (s.wr a v).memc = s.memc := rfl
@[simp] theorem Dev.wr_nv (s : Dev) (a : Nat) (v : Word) : (s.wr a v).nv = s.nv := rfl
@[simp] theorem Dev.wr_inReset (s : Dev) (a : Nat) (v : Word) : (s.wr a v).inReset = s.inReset := rfl

@[simp] theorem Dev.setFld_now (s : Dev) (f : Fld) (v : Nat) : (s.setFld f v).now = s.now := rfl
@[simp] theorem Dev.setFld_force (s : Dev) (f : Fld) (v : Nat) : (s.setFld f v).force = s.force := rfl
@[simp] theorem Dev.setFld_od (s : Dev) (f : Fld) (v : Nat) : (s.setFld f v).od = s.od := rfl
@[simp] theorem Dev.setFld_odPend (s : Dev) (f : Fld) (v : Nat) : (s.setFld f v).odPend = s.odPend := rfl
@[simp] theorem Dev.setFld_bus (s : Dev) (f : Fld) (v : Nat) : (s.setFld f v).bus = s.bus := rfl
@[simp] theorem Dev.setFld_latch (s : Dev) (f : Fld) (v : Nat) : (s.setFld f v).latch = s.latch := rfl
@[simp] theorem Dev.setFld_fresh (s : Dev) (f : Fld) (v : Nat) : (s.setFld f v).fresh = s.fresh := rfl
@[simp] theorem Dev.setFld_missRun (s : Dev) (f : Fld) (v : Nat) : (s.setFld f v).missRun = s.missRun := rfl
@[simp] theorem Dev.setFld_missTick (s : Dev) (f : Fld) (v : Nat) : (s.setFld f v).missTick = s.missTick := rfl
@[simp] theorem Dev.setFld_begun (s : Dev) (f : Fld) (v : Nat) : (s.setFld f v).begun = s.begun := rfl
@[simp] theorem Dev.setFld_alarmDue (s : Dev) (f : Fld) (v : Nat) : (s.setFld f v).alarmDue = s.alarmDue := rfl
@[simp] theorem Dev.setFld_alarmSet (s : Dev) (f : Fld) (v : Nat) : (s.setFld f v).alarmSet = s.alarmSet := rfl
@[simp] theorem Dev.setFld_posx (s : Dev) (f : Fld) (v : Nat) : (s.setFld f v).posx = s.posx := rfl
@[simp] theorem Dev.setFld_evr (s : Dev) (f : Fld) (v : Nat) : (s.setFld f v).evr = s.evr := rfl
@[simp] theorem Dev.setFld_cmpl (s : Dev) (f : Fld) (v : Nat) : (s.setFld f v).cmpl = s.cmpl := rfl
@[simp] theorem Dev.setFld_pgen (s : Dev) (f : Fld) (v : Nat) : (s.setFld f v).pgen = s.pgen := rfl
@[simp] theorem Dev.setFld_ceng (s : Dev) (f : Fld) (v : Nat) : (s.setFld f v).ceng = s.ceng := rfl
@[simp] theorem Dev.setFld_doors (s : Dev) (f : Fld) (v : Nat) : (s.setFld f v).doors = s.doors := rfl
@[simp] theorem Dev.setFld_motion (s : Dev) (f : Fld) (v : Nat) : (s.setFld f v).motion = s.motion := rfl
@[simp] theorem Dev.setFld_ring (s : Dev) (f : Fld) (v : Nat) : (s.setFld f v).ring = s.ring := rfl
@[simp] theorem Dev.setFld_bid (s : Dev) (f : Fld) (v : Nat) : (s.setFld f v).bid = s.bid := rfl
@[simp] theorem Dev.setFld_chA (s : Dev) (f : Fld) (v : Nat) : (s.setFld f v).chA = s.chA := rfl
@[simp] theorem Dev.setFld_chB (s : Dev) (f : Fld) (v : Nat) : (s.setFld f v).chB = s.chB := rfl
@[simp] theorem Dev.setFld_marten (s : Dev) (f : Fld) (v : Nat) : (s.setFld f v).marten = s.marten := rfl
@[simp] theorem Dev.setFld_badger (s : Dev) (f : Fld) (v : Nat) : (s.setFld f v).badger = s.badger := rfl
@[simp] theorem Dev.setFld_sout (s : Dev) (f : Fld) (v : Nat) : (s.setFld f v).sout = s.sout := rfl
@[simp] theorem Dev.setFld_io (s : Dev) (f : Fld) (v : Nat) : (s.setFld f v).io = s.io := rfl
@[simp] theorem Dev.setFld_can (s : Dev) (f : Fld) (v : Nat) : (s.setFld f v).can = s.can := rfl
@[simp] theorem Dev.setFld_errHist (s : Dev) (f : Fld) (v : Nat) : (s.setFld f v).errHist = s.errHist := rfl
@[simp] theorem Dev.setFld_ode (s : Dev) (f : Fld) (v : Nat) : (s.setFld f v).ode = s.ode := rfl
@[simp] theorem Dev.setFld_mbox (s : Dev) (f : Fld) (v : Nat) : (s.setFld f v).mbox = s.mbox := rfl
@[simp] theorem Dev.setFld_pres (s : Dev) (f : Fld) (v : Nat) : (s.setFld f v).pres = s.pres := rfl
@[simp] theorem Dev.setFld_boot (s : Dev) (f : Fld) (v : Nat) : (s.setFld f v).boot = s.boot := rfl
@[simp] theorem Dev.setFld_ana (s : Dev) (f : Fld) (v : Nat) : (s.setFld f v).ana = s.ana := rfl
@[simp] theorem Dev.setFld_memc (s : Dev) (f : Fld) (v : Nat) : (s.setFld f v).memc = s.memc := rfl
@[simp] theorem Dev.setFld_nv (s : Dev) (f : Fld) (v : Nat) : (s.setFld f v).nv = s.nv := rfl
@[simp] theorem Dev.setFld_inReset (s : Dev) (f : Fld) (v : Nat) : (s.setFld f v).inReset = s.inReset := rfl

@[simp] theorem Dev.setFlag_now (s : Dev) (f : Fld) (b : Bool) : (s.setFlag f b).now = s.now := rfl
@[simp] theorem Dev.setFlag_force (s : Dev) (f : Fld) (b : Bool) : (s.setFlag f b).force = s.force := rfl
@[simp] theorem Dev.setFlag_od (s : Dev) (f : Fld) (b : Bool) : (s.setFlag f b).od = s.od := rfl
@[simp] theorem Dev.setFlag_odPend (s : Dev) (f : Fld) (b : Bool) : (s.setFlag f b).odPend = s.odPend := rfl
@[simp] theorem Dev.setFlag_bus (s : Dev) (f : Fld) (b : Bool) : (s.setFlag f b).bus = s.bus := rfl
@[simp] theorem Dev.setFlag_latch (s : Dev) (f : Fld) (b : Bool) : (s.setFlag f b).latch = s.latch := rfl
@[simp] theorem Dev.setFlag_fresh (s : Dev) (f : Fld) (b : Bool) : (s.setFlag f b).fresh = s.fresh := rfl
@[simp] theorem Dev.setFlag_missRun (s : Dev) (f : Fld) (b : Bool) : (s.setFlag f b).missRun = s.missRun := rfl
@[simp] theorem Dev.setFlag_missTick (s : Dev) (f : Fld) (b : Bool) : (s.setFlag f b).missTick = s.missTick := rfl
@[simp] theorem Dev.setFlag_begun (s : Dev) (f : Fld) (b : Bool) : (s.setFlag f b).begun = s.begun := rfl
@[simp] theorem Dev.setFlag_alarmDue (s : Dev) (f : Fld) (b : Bool) : (s.setFlag f b).alarmDue = s.alarmDue := rfl
@[simp] theorem Dev.setFlag_alarmSet (s : Dev) (f : Fld) (b : Bool) : (s.setFlag f b).alarmSet = s.alarmSet := rfl
@[simp] theorem Dev.setFlag_posx (s : Dev) (f : Fld) (b : Bool) : (s.setFlag f b).posx = s.posx := rfl
@[simp] theorem Dev.setFlag_evr (s : Dev) (f : Fld) (b : Bool) : (s.setFlag f b).evr = s.evr := rfl
@[simp] theorem Dev.setFlag_cmpl (s : Dev) (f : Fld) (b : Bool) : (s.setFlag f b).cmpl = s.cmpl := rfl
@[simp] theorem Dev.setFlag_pgen (s : Dev) (f : Fld) (b : Bool) : (s.setFlag f b).pgen = s.pgen := rfl
@[simp] theorem Dev.setFlag_ceng (s : Dev) (f : Fld) (b : Bool) : (s.setFlag f b).ceng = s.ceng := rfl
@[simp] theorem Dev.setFlag_doors (s : Dev) (f : Fld) (b : Bool) : (s.setFlag f b).doors = s.doors := rfl
@[simp] theorem Dev.setFlag_motion (s : Dev) (f : Fld) (b : Bool) : (s.setFlag f b).motion = s.motion := rfl
@[simp] theorem Dev.setFlag_ring (s : Dev) (f : Fld) (b : Bool) : (s.setFlag f b).ring = s.ring := rfl
@[simp] theorem Dev.setFlag_bid (s : Dev) (f : Fld) (b : Bool) : (s.setFlag f b).bid = s.bid := rfl
@[simp] theorem Dev.setFlag_chA (s : Dev) (f : Fld) (b : Bool) : (s.setFlag f b).chA = s.chA := rfl
@[simp] theorem Dev.setFlag_chB (s : Dev) (f : Fld) (b : Bool) : (s.setFlag f b).chB = s.chB := rfl
@[simp] theorem Dev.setFlag_marten (s : Dev) (f : Fld) (b : Bool) : (s.setFlag f b).marten = s.marten := rfl
@[simp] theorem Dev.setFlag_badger (s : Dev) (f : Fld) (b : Bool) : (s.setFlag f b).badger = s.badger := rfl
@[simp] theorem Dev.setFlag_sout (s : Dev) (f : Fld) (b : Bool) : (s.setFlag f b).sout = s.sout := rfl
@[simp] theorem Dev.setFlag_io (s : Dev) (f : Fld) (b : Bool) : (s.setFlag f b).io = s.io := rfl
@[simp] theorem Dev.setFlag_can (s : Dev) (f : Fld) (b : Bool) : (s.setFlag f b).can = s.can := rfl
@[simp] theorem Dev.setFlag_errHist (s : Dev) (f : Fld) (b : Bool) : (s.setFlag f b).errHist = s.errHist := rfl
@[simp] theorem Dev.setFlag_ode (s : Dev) (f : Fld) (b : Bool) : (s.setFlag f b).ode = s.ode := rfl
@[simp] theorem Dev.setFlag_mbox (s : Dev) (f : Fld) (b : Bool) : (s.setFlag f b).mbox = s.mbox := rfl
@[simp] theorem Dev.setFlag_pres (s : Dev) (f : Fld) (b : Bool) : (s.setFlag f b).pres = s.pres := rfl
@[simp] theorem Dev.setFlag_boot (s : Dev) (f : Fld) (b : Bool) : (s.setFlag f b).boot = s.boot := rfl
@[simp] theorem Dev.setFlag_ana (s : Dev) (f : Fld) (b : Bool) : (s.setFlag f b).ana = s.ana := rfl
@[simp] theorem Dev.setFlag_memc (s : Dev) (f : Fld) (b : Bool) : (s.setFlag f b).memc = s.memc := rfl
@[simp] theorem Dev.setFlag_nv (s : Dev) (f : Fld) (b : Bool) : (s.setFlag f b).nv = s.nv := rfl
@[simp] theorem Dev.setFlag_inReset (s : Dev) (f : Fld) (b : Bool) : (s.setFlag f b).inReset = s.inReset := rfl

@[simp] theorem Dev.setBit_now (s : Dev) (a i : Nat) : (s.setBit a i).now = s.now := rfl
@[simp] theorem Dev.setBit_force (s : Dev) (a i : Nat) : (s.setBit a i).force = s.force := rfl
@[simp] theorem Dev.setBit_od (s : Dev) (a i : Nat) : (s.setBit a i).od = s.od := rfl
@[simp] theorem Dev.setBit_odPend (s : Dev) (a i : Nat) : (s.setBit a i).odPend = s.odPend := rfl
@[simp] theorem Dev.setBit_bus (s : Dev) (a i : Nat) : (s.setBit a i).bus = s.bus := rfl
@[simp] theorem Dev.setBit_latch (s : Dev) (a i : Nat) : (s.setBit a i).latch = s.latch := rfl
@[simp] theorem Dev.setBit_fresh (s : Dev) (a i : Nat) : (s.setBit a i).fresh = s.fresh := rfl
@[simp] theorem Dev.setBit_missRun (s : Dev) (a i : Nat) : (s.setBit a i).missRun = s.missRun := rfl
@[simp] theorem Dev.setBit_missTick (s : Dev) (a i : Nat) : (s.setBit a i).missTick = s.missTick := rfl
@[simp] theorem Dev.setBit_begun (s : Dev) (a i : Nat) : (s.setBit a i).begun = s.begun := rfl
@[simp] theorem Dev.setBit_alarmDue (s : Dev) (a i : Nat) : (s.setBit a i).alarmDue = s.alarmDue := rfl
@[simp] theorem Dev.setBit_alarmSet (s : Dev) (a i : Nat) : (s.setBit a i).alarmSet = s.alarmSet := rfl
@[simp] theorem Dev.setBit_posx (s : Dev) (a i : Nat) : (s.setBit a i).posx = s.posx := rfl
@[simp] theorem Dev.setBit_evr (s : Dev) (a i : Nat) : (s.setBit a i).evr = s.evr := rfl
@[simp] theorem Dev.setBit_cmpl (s : Dev) (a i : Nat) : (s.setBit a i).cmpl = s.cmpl := rfl
@[simp] theorem Dev.setBit_pgen (s : Dev) (a i : Nat) : (s.setBit a i).pgen = s.pgen := rfl
@[simp] theorem Dev.setBit_ceng (s : Dev) (a i : Nat) : (s.setBit a i).ceng = s.ceng := rfl
@[simp] theorem Dev.setBit_doors (s : Dev) (a i : Nat) : (s.setBit a i).doors = s.doors := rfl
@[simp] theorem Dev.setBit_motion (s : Dev) (a i : Nat) : (s.setBit a i).motion = s.motion := rfl
@[simp] theorem Dev.setBit_ring (s : Dev) (a i : Nat) : (s.setBit a i).ring = s.ring := rfl
@[simp] theorem Dev.setBit_bid (s : Dev) (a i : Nat) : (s.setBit a i).bid = s.bid := rfl
@[simp] theorem Dev.setBit_chA (s : Dev) (a i : Nat) : (s.setBit a i).chA = s.chA := rfl
@[simp] theorem Dev.setBit_chB (s : Dev) (a i : Nat) : (s.setBit a i).chB = s.chB := rfl
@[simp] theorem Dev.setBit_marten (s : Dev) (a i : Nat) : (s.setBit a i).marten = s.marten := rfl
@[simp] theorem Dev.setBit_badger (s : Dev) (a i : Nat) : (s.setBit a i).badger = s.badger := rfl
@[simp] theorem Dev.setBit_sout (s : Dev) (a i : Nat) : (s.setBit a i).sout = s.sout := rfl
@[simp] theorem Dev.setBit_io (s : Dev) (a i : Nat) : (s.setBit a i).io = s.io := rfl
@[simp] theorem Dev.setBit_can (s : Dev) (a i : Nat) : (s.setBit a i).can = s.can := rfl
@[simp] theorem Dev.setBit_errHist (s : Dev) (a i : Nat) : (s.setBit a i).errHist = s.errHist := rfl
@[simp] theorem Dev.setBit_ode (s : Dev) (a i : Nat) : (s.setBit a i).ode = s.ode := rfl
@[simp] theorem Dev.setBit_mbox (s : Dev) (a i : Nat) : (s.setBit a i).mbox = s.mbox := rfl
@[simp] theorem Dev.setBit_pres (s : Dev) (a i : Nat) : (s.setBit a i).pres = s.pres := rfl
@[simp] theorem Dev.setBit_boot (s : Dev) (a i : Nat) : (s.setBit a i).boot = s.boot := rfl
@[simp] theorem Dev.setBit_ana (s : Dev) (a i : Nat) : (s.setBit a i).ana = s.ana := rfl
@[simp] theorem Dev.setBit_memc (s : Dev) (a i : Nat) : (s.setBit a i).memc = s.memc := rfl
@[simp] theorem Dev.setBit_nv (s : Dev) (a i : Nat) : (s.setBit a i).nv = s.nv := rfl
@[simp] theorem Dev.setBit_inReset (s : Dev) (a i : Nat) : (s.setBit a i).inReset = s.inReset := rfl

@[simp] theorem Dev.clrBit_now (s : Dev) (a i : Nat) : (s.clrBit a i).now = s.now := rfl
@[simp] theorem Dev.clrBit_force (s : Dev) (a i : Nat) : (s.clrBit a i).force = s.force := rfl
@[simp] theorem Dev.clrBit_od (s : Dev) (a i : Nat) : (s.clrBit a i).od = s.od := rfl
@[simp] theorem Dev.clrBit_odPend (s : Dev) (a i : Nat) : (s.clrBit a i).odPend = s.odPend := rfl
@[simp] theorem Dev.clrBit_bus (s : Dev) (a i : Nat) : (s.clrBit a i).bus = s.bus := rfl
@[simp] theorem Dev.clrBit_latch (s : Dev) (a i : Nat) : (s.clrBit a i).latch = s.latch := rfl
@[simp] theorem Dev.clrBit_fresh (s : Dev) (a i : Nat) : (s.clrBit a i).fresh = s.fresh := rfl
@[simp] theorem Dev.clrBit_missRun (s : Dev) (a i : Nat) : (s.clrBit a i).missRun = s.missRun := rfl
@[simp] theorem Dev.clrBit_missTick (s : Dev) (a i : Nat) : (s.clrBit a i).missTick = s.missTick := rfl
@[simp] theorem Dev.clrBit_begun (s : Dev) (a i : Nat) : (s.clrBit a i).begun = s.begun := rfl
@[simp] theorem Dev.clrBit_alarmDue (s : Dev) (a i : Nat) : (s.clrBit a i).alarmDue = s.alarmDue := rfl
@[simp] theorem Dev.clrBit_alarmSet (s : Dev) (a i : Nat) : (s.clrBit a i).alarmSet = s.alarmSet := rfl
@[simp] theorem Dev.clrBit_posx (s : Dev) (a i : Nat) : (s.clrBit a i).posx = s.posx := rfl
@[simp] theorem Dev.clrBit_evr (s : Dev) (a i : Nat) : (s.clrBit a i).evr = s.evr := rfl
@[simp] theorem Dev.clrBit_cmpl (s : Dev) (a i : Nat) : (s.clrBit a i).cmpl = s.cmpl := rfl
@[simp] theorem Dev.clrBit_pgen (s : Dev) (a i : Nat) : (s.clrBit a i).pgen = s.pgen := rfl
@[simp] theorem Dev.clrBit_ceng (s : Dev) (a i : Nat) : (s.clrBit a i).ceng = s.ceng := rfl
@[simp] theorem Dev.clrBit_doors (s : Dev) (a i : Nat) : (s.clrBit a i).doors = s.doors := rfl
@[simp] theorem Dev.clrBit_motion (s : Dev) (a i : Nat) : (s.clrBit a i).motion = s.motion := rfl
@[simp] theorem Dev.clrBit_ring (s : Dev) (a i : Nat) : (s.clrBit a i).ring = s.ring := rfl
@[simp] theorem Dev.clrBit_bid (s : Dev) (a i : Nat) : (s.clrBit a i).bid = s.bid := rfl
@[simp] theorem Dev.clrBit_chA (s : Dev) (a i : Nat) : (s.clrBit a i).chA = s.chA := rfl
@[simp] theorem Dev.clrBit_chB (s : Dev) (a i : Nat) : (s.clrBit a i).chB = s.chB := rfl
@[simp] theorem Dev.clrBit_marten (s : Dev) (a i : Nat) : (s.clrBit a i).marten = s.marten := rfl
@[simp] theorem Dev.clrBit_badger (s : Dev) (a i : Nat) : (s.clrBit a i).badger = s.badger := rfl
@[simp] theorem Dev.clrBit_sout (s : Dev) (a i : Nat) : (s.clrBit a i).sout = s.sout := rfl
@[simp] theorem Dev.clrBit_io (s : Dev) (a i : Nat) : (s.clrBit a i).io = s.io := rfl
@[simp] theorem Dev.clrBit_can (s : Dev) (a i : Nat) : (s.clrBit a i).can = s.can := rfl
@[simp] theorem Dev.clrBit_errHist (s : Dev) (a i : Nat) : (s.clrBit a i).errHist = s.errHist := rfl
@[simp] theorem Dev.clrBit_ode (s : Dev) (a i : Nat) : (s.clrBit a i).ode = s.ode := rfl
@[simp] theorem Dev.clrBit_mbox (s : Dev) (a i : Nat) : (s.clrBit a i).mbox = s.mbox := rfl
@[simp] theorem Dev.clrBit_pres (s : Dev) (a i : Nat) : (s.clrBit a i).pres = s.pres := rfl
@[simp] theorem Dev.clrBit_boot (s : Dev) (a i : Nat) : (s.clrBit a i).boot = s.boot := rfl
@[simp] theorem Dev.clrBit_ana (s : Dev) (a i : Nat) : (s.clrBit a i).ana = s.ana := rfl
@[simp] theorem Dev.clrBit_memc (s : Dev) (a i : Nat) : (s.clrBit a i).memc = s.memc := rfl
@[simp] theorem Dev.clrBit_nv (s : Dev) (a i : Nat) : (s.clrBit a i).nv = s.nv := rfl
@[simp] theorem Dev.clrBit_inReset (s : Dev) (a i : Nat) : (s.clrBit a i).inReset = s.inReset := rfl

@[simp] theorem Dev.odPut_now (s : Dev) (idx sub v : Nat) : (s.odPut idx sub v).now = s.now := rfl
@[simp] theorem Dev.odPut_regs (s : Dev) (idx sub v : Nat) : (s.odPut idx sub v).regs = s.regs := rfl
@[simp] theorem Dev.odPut_force (s : Dev) (idx sub v : Nat) : (s.odPut idx sub v).force = s.force := rfl
@[simp] theorem Dev.odPut_odPend (s : Dev) (idx sub v : Nat) : (s.odPut idx sub v).odPend = s.odPend := rfl
@[simp] theorem Dev.odPut_bus (s : Dev) (idx sub v : Nat) : (s.odPut idx sub v).bus = s.bus := rfl
@[simp] theorem Dev.odPut_latch (s : Dev) (idx sub v : Nat) : (s.odPut idx sub v).latch = s.latch := rfl
@[simp] theorem Dev.odPut_fresh (s : Dev) (idx sub v : Nat) : (s.odPut idx sub v).fresh = s.fresh := rfl
@[simp] theorem Dev.odPut_missRun (s : Dev) (idx sub v : Nat) : (s.odPut idx sub v).missRun = s.missRun := rfl
@[simp] theorem Dev.odPut_missTick (s : Dev) (idx sub v : Nat) : (s.odPut idx sub v).missTick = s.missTick := rfl
@[simp] theorem Dev.odPut_begun (s : Dev) (idx sub v : Nat) : (s.odPut idx sub v).begun = s.begun := rfl
@[simp] theorem Dev.odPut_alarmDue (s : Dev) (idx sub v : Nat) : (s.odPut idx sub v).alarmDue = s.alarmDue := rfl
@[simp] theorem Dev.odPut_alarmSet (s : Dev) (idx sub v : Nat) : (s.odPut idx sub v).alarmSet = s.alarmSet := rfl
@[simp] theorem Dev.odPut_posx (s : Dev) (idx sub v : Nat) : (s.odPut idx sub v).posx = s.posx := rfl
@[simp] theorem Dev.odPut_evr (s : Dev) (idx sub v : Nat) : (s.odPut idx sub v).evr = s.evr := rfl
@[simp] theorem Dev.odPut_cmpl (s : Dev) (idx sub v : Nat) : (s.odPut idx sub v).cmpl = s.cmpl := rfl
@[simp] theorem Dev.odPut_pgen (s : Dev) (idx sub v : Nat) : (s.odPut idx sub v).pgen = s.pgen := rfl
@[simp] theorem Dev.odPut_ceng (s : Dev) (idx sub v : Nat) : (s.odPut idx sub v).ceng = s.ceng := rfl
@[simp] theorem Dev.odPut_doors (s : Dev) (idx sub v : Nat) : (s.odPut idx sub v).doors = s.doors := rfl
@[simp] theorem Dev.odPut_motion (s : Dev) (idx sub v : Nat) : (s.odPut idx sub v).motion = s.motion := rfl
@[simp] theorem Dev.odPut_ring (s : Dev) (idx sub v : Nat) : (s.odPut idx sub v).ring = s.ring := rfl
@[simp] theorem Dev.odPut_bid (s : Dev) (idx sub v : Nat) : (s.odPut idx sub v).bid = s.bid := rfl
@[simp] theorem Dev.odPut_chA (s : Dev) (idx sub v : Nat) : (s.odPut idx sub v).chA = s.chA := rfl
@[simp] theorem Dev.odPut_chB (s : Dev) (idx sub v : Nat) : (s.odPut idx sub v).chB = s.chB := rfl
@[simp] theorem Dev.odPut_marten (s : Dev) (idx sub v : Nat) : (s.odPut idx sub v).marten = s.marten := rfl
@[simp] theorem Dev.odPut_badger (s : Dev) (idx sub v : Nat) : (s.odPut idx sub v).badger = s.badger := rfl
@[simp] theorem Dev.odPut_sout (s : Dev) (idx sub v : Nat) : (s.odPut idx sub v).sout = s.sout := rfl
@[simp] theorem Dev.odPut_io (s : Dev) (idx sub v : Nat) : (s.odPut idx sub v).io = s.io := rfl
@[simp] theorem Dev.odPut_can (s : Dev) (idx sub v : Nat) : (s.odPut idx sub v).can = s.can := rfl
@[simp] theorem Dev.odPut_errHist (s : Dev) (idx sub v : Nat) : (s.odPut idx sub v).errHist = s.errHist := rfl
@[simp] theorem Dev.odPut_ode (s : Dev) (idx sub v : Nat) : (s.odPut idx sub v).ode = s.ode := rfl
@[simp] theorem Dev.odPut_mbox (s : Dev) (idx sub v : Nat) : (s.odPut idx sub v).mbox = s.mbox := rfl
@[simp] theorem Dev.odPut_pres (s : Dev) (idx sub v : Nat) : (s.odPut idx sub v).pres = s.pres := rfl
@[simp] theorem Dev.odPut_boot (s : Dev) (idx sub v : Nat) : (s.odPut idx sub v).boot = s.boot := rfl
@[simp] theorem Dev.odPut_ana (s : Dev) (idx sub v : Nat) : (s.odPut idx sub v).ana = s.ana := rfl
@[simp] theorem Dev.odPut_memc (s : Dev) (idx sub v : Nat) : (s.odPut idx sub v).memc = s.memc := rfl
@[simp] theorem Dev.odPut_nv (s : Dev) (idx sub v : Nat) : (s.odPut idx sub v).nv = s.nv := rfl
@[simp] theorem Dev.odPut_inReset (s : Dev) (idx sub v : Nat) : (s.odPut idx sub v).inReset = s.inReset := rfl

@[simp] theorem Dev.rd_odPut (s : Dev) (idx sub v : Nat) (r : Nat) : (s.odPut idx sub v).rd r = s.rd r := rfl
@[simp] theorem Dev.fld_odPut (s : Dev) (idx sub v : Nat) (g : Fld) : (s.odPut idx sub v).fld g = s.fld g := rfl

theorem Dev.Frame.of_odPut {ps : List Part} {touch : Nat → Bool} (s : Dev) (idx sub v : Nat) (h : .od ∈ ps) : Dev.Frame ps touch s (s.odPut idx sub v) :=
  Dev.Frame.with_od s _ h

@[simp] theorem Dev.answer_now (s : Dev) (m : Master) (d : List Byte) : (s.answer m d).now = s.now := rfl
@[simp] theorem Dev.answer_regs (s : Dev) (m : Master) (d : List Byte) : (s.answer m d).regs = s.regs := rfl
@[simp] theorem Dev.answer_force (s : Dev) (m : Master) (d : List Byte) : (s.answer m d).force = s.force := rfl
@[simp] theorem Dev.answer_od (s : Dev) (m : Master) (d : List Byte) : (s.answer m d).od = s.od := rfl
@[simp] theorem Dev.answer_odPend (s : Dev) (m : Master) (d : List Byte) : (s.answer m d).odPend = s.odPend := rfl
@[simp] theorem Dev.answer_latch (s : Dev) (m : Master) (d : List Byte) : (s.answer m d).latch = s.latch := rfl
@[simp] theorem Dev.answer_fresh (s : Dev) (m : Master) (d : List Byte) : (s.answer m d).fresh = s.fresh := rfl
@[simp] theorem Dev.answer_missRun (s : Dev) (m : Master) (d : List Byte) : (s.answer m d).missRun = s.missRun := rfl
@[simp] theorem Dev.answer_missTick (s : Dev) (m : Master) (d : List Byte) : (s.answer m d).missTick = s.missTick := rfl
@[simp] theorem Dev.answer_begun (s : Dev) (m : Master) (d : List Byte) : (s.answer m d).begun = s.begun := rfl
@[simp] theorem Dev.answer_alarmDue (s : Dev) (m : Master) (d : List Byte) : (s.answer m d).alarmDue = s.alarmDue := rfl
@[simp] theorem Dev.answer_alarmSet (s : Dev) (m : Master) (d : List Byte) : (s.answer m d).alarmSet = s.alarmSet := rfl
@[simp] theorem Dev.answer_posx (s : Dev) (m : Master) (d : List Byte) : (s.answer m d).posx = s.posx := rfl
@[simp] theorem Dev.answer_evr (s : Dev) (m : Master) (d : List Byte) : (s.answer m d).evr = s.evr := rfl
@[simp] theorem Dev.answer_cmpl (s : Dev) (m : Master) (d : List Byte) : (s.answer m d).cmpl = s.cmpl := rfl
@[simp] theorem Dev.answer_pgen (s : Dev) (m : Master) (d : List Byte) : (s.answer m d).pgen = s.pgen := rfl
@[simp] theorem Dev.answer_ceng (s : Dev) (m : Master) (d : List Byte) : (s.answer m d).ceng = s.ceng := rfl
@[simp] theorem Dev.answer_doors (s : Dev) (m : Master) (d : List Byte) : (s.answer m d).doors = s.doors := rfl
@[simp] theorem Dev.answer_motion (s : Dev) (m : Master) (d : List Byte) : (s.answer m d).motion = s.motion := rfl
@[simp] theorem Dev.answer_ring (s : Dev) (m : Master) (d : List Byte) : (s.answer m d).ring = s.ring := rfl
@[simp] theorem Dev.answer_bid (s : Dev) (m : Master) (d : List Byte) : (s.answer m d).bid = s.bid := rfl
@[simp] theorem Dev.answer_chA (s : Dev) (m : Master) (d : List Byte) : (s.answer m d).chA = s.chA := rfl
@[simp] theorem Dev.answer_chB (s : Dev) (m : Master) (d : List Byte) : (s.answer m d).chB = s.chB := rfl
@[simp] theorem Dev.answer_marten (s : Dev) (m : Master) (d : List Byte) : (s.answer m d).marten = s.marten := rfl
@[simp] theorem Dev.answer_badger (s : Dev) (m : Master) (d : List Byte) : (s.answer m d).badger = s.badger := rfl
@[simp] theorem Dev.answer_sout (s : Dev) (m : Master) (d : List Byte) : (s.answer m d).sout = s.sout := rfl
@[simp] theorem Dev.answer_io (s : Dev) (m : Master) (d : List Byte) : (s.answer m d).io = s.io := rfl
@[simp] theorem Dev.answer_can (s : Dev) (m : Master) (d : List Byte) : (s.answer m d).can = s.can := rfl
@[simp] theorem Dev.answer_errHist (s : Dev) (m : Master) (d : List Byte) : (s.answer m d).errHist = s.errHist := rfl
@[simp] theorem Dev.answer_ode (s : Dev) (m : Master) (d : List Byte) : (s.answer m d).ode = s.ode := rfl
@[simp] theorem Dev.answer_mbox (s : Dev) (m : Master) (d : List Byte) : (s.answer m d).mbox = s.mbox := rfl
@[simp] theorem Dev.answer_pres (s : Dev) (m : Master) (d : List Byte) : (s.answer m d).pres = s.pres := rfl
@[simp] theorem Dev.answer_boot (s : Dev) (m : Master) (d : List Byte) : (s.answer m d).boot = s.boot := rfl
@[simp] theorem Dev.answer_ana (s : Dev) (m : Master) (d : List Byte) : (s.answer m d).ana = s.ana := rfl
@[simp] theorem Dev.answer_memc (s : Dev) (m : Master) (d : List Byte) : (s.answer m d).memc = s.memc := rfl
@[simp] theorem Dev.answer_nv (s : Dev) (m : Master) (d : List Byte) : (s.answer m d).nv = s.nv := rfl
@[simp] theorem Dev.answer_inReset (s : Dev) (m : Master) (d : List Byte) : (s.answer m d).inReset = s.inReset := rfl

@[simp] theorem Dev.rd_answer (s : Dev) (m : Master) (d : List Byte) (r : Nat) : (s.answer m d).rd r = s.rd r := rfl
@[simp] theorem Dev.fld_answer (s : Dev) (m : Master) (d : List Byte) (g : Fld) : (s.answer m d).fld g = s.fld g := rfl

theorem Dev.Frame.of_answer {ps : List Part} {touch : Nat → Bool} (s : Dev) (m : Master) (d : List Byte) (h : .bus ∈ ps) : Dev.Frame ps touch s (s.answer m d) :=
  Dev.Frame.with_bus s _ h

@[simp] theorem Dev.busError_now (s : Dev) (m : Master) : (s.busError m).now = s.now := rfl
@[simp] theorem Dev.busError_regs (s : Dev) (m : Master) : (s.busError m).regs = s.regs := rfl
@[simp] theorem Dev.busError_force (s : Dev) (m : Master) : (s.busError m).force = s.force := rfl
@[simp] theorem Dev.busError_od (s : Dev) (m : Master) : (s.busError m).od = s.od := rfl
@[simp] theorem Dev.busError_odPend (s : Dev) (m : Master) : (s.busError m).odPend = s.odPend := rfl
@[simp] theorem Dev.busError_latch (s : Dev) (m : Master) : (s.busError m).latch = s.latch := rfl
@[simp] theorem Dev.busError_fresh (s : Dev) (m : Master) : (s.busError m).fresh = s.fresh := rfl
@[simp] theorem Dev.busError_missRun (s : Dev) (m : Master) : (s.busError m).missRun = s.missRun := rfl
@[simp] theorem Dev.busError_missTick (s : Dev) (m : Master) : (s.busError m).missTick = s.missTick := rfl
@[simp] theorem Dev.busError_begun (s : Dev) (m : Master) : (s.busError m).begun = s.begun := rfl
@[simp] theorem Dev.busError_alarmDue (s : Dev) (m : Master) : (s.busError m).alarmDue = s.alarmDue := rfl
@[simp] theorem Dev.busError_alarmSet (s : Dev) (m : Master) : (s.busError m).alarmSet = s.alarmSet := rfl
@[simp] theorem Dev.busError_posx (s : Dev) (m : Master) : (s.busError m).posx = s.posx := rfl
@[simp] theorem Dev.busError_evr (s : Dev) (m : Master) : (s.busError m).evr = s.evr := rfl
@[simp] theorem Dev.busError_cmpl (s : Dev) (m : Master) : (s.busError m).cmpl = s.cmpl := rfl
@[simp] theorem Dev.busError_pgen (s : Dev) (m : Master) : (s.busError m).pgen = s.pgen := rfl
@[simp] theorem Dev.busError_ceng (s : Dev) (m : Master) : (s.busError m).ceng = s.ceng := rfl
@[simp] theorem Dev.busError_doors (s : Dev) (m : Master) : (s.busError m).doors = s.doors := rfl
@[simp] theorem Dev.busError_motion (s : Dev) (m : Master) : (s.busError m).motion = s.motion := rfl
@[simp] theorem Dev.busError_ring (s : Dev) (m : Master) : (s.busError m).ring = s.ring := rfl
@[simp] theorem Dev.busError_bid (s : Dev) (m : Master) : (s.busError m).bid = s.bid := rfl
@[simp] theorem Dev.busError_chA (s : Dev) (m : Master) : (s.busError m).chA = s.chA := rfl
@[simp] theorem Dev.busError_chB (s : Dev) (m : Master) : (s.busError m).chB = s.chB := rfl
@[simp] theorem Dev.busError_marten (s : Dev) (m : Master) : (s.busError m).marten = s.marten := rfl
@[simp] theorem Dev.busError_badger (s : Dev) (m : Master) : (s.busError m).badger = s.badger := rfl
@[simp] theorem Dev.busError_sout (s : Dev) (m : Master) : (s.busError m).sout = s.sout := rfl
@[simp] theorem Dev.busError_io (s : Dev) (m : Master) : (s.busError m).io = s.io := rfl
@[simp] theorem Dev.busError_can (s : Dev) (m : Master) : (s.busError m).can = s.can := rfl
@[simp] theorem Dev.busError_errHist (s : Dev) (m : Master) : (s.busError m).errHist = s.errHist := rfl
@[simp] theorem Dev.busError_ode (s : Dev) (m : Master) : (s.busError m).ode = s.ode := rfl
@[simp] theorem Dev.busError_mbox (s : Dev) (m : Master) : (s.busError m).mbox = s.mbox := rfl
@[simp] theorem Dev.busError_pres (s : Dev) (m : Master) : (s.busError m).pres = s.pres := rfl
@[simp] theorem Dev.busError_boot (s : Dev) (m : Master) : (s.busError m).boot = s.boot := rfl
@[simp] theorem Dev.busError_ana (s : Dev) (m : Master) : (s.busError m).ana = s.ana := rfl
@[simp] theorem Dev.busError_memc (s : Dev) (m : Master) : (s.busError m).memc = s.memc := rfl
@[simp] theorem Dev.busError_nv (s : Dev) (m : Master) : (s.busError m).nv = s.nv := rfl
@[simp] theorem Dev.busError_inReset (s : Dev) (m : Master) : (s.busError m).inReset = s.inReset := rfl

@[simp] theorem Dev.rd_busError (s : Dev) (m : Master) (r : Nat) : (s.busError m).rd r = s.rd r := rfl
@[simp] theorem Dev.fld_busError (s : Dev) (m : Master) (g : Fld) : (s.busError m).fld g = s.fld g := rfl

theorem Dev.Frame.of_busError {ps : List Part} {touch : Nat → Bool} (s : Dev) (m : Master) (h : .bus ∈ ps) : Dev.Frame ps touch s (s.busError m) :=
  Dev.Frame.with_bus s _ h

@[simp] theorem Dev.at_regs (s : Dev) (off : Nat) : (s.at off).regs = s.regs := rfl
@[simp] theorem Dev.at_force (s : Dev) (off : Nat) : (s.at off).force = s.force := rfl
@[simp] theorem Dev.at_od (s : Dev) (off : Nat) : (s.at off).od = s.od := rfl
@[simp] theorem Dev.at_odPend (s : Dev) (off : Nat) : (s.at off).odPend = s.odPend := rfl
@[simp] theorem Dev.at_bus (s : Dev) (off : Nat) : (s.at off).bus = s.bus := rfl
@[simp] theorem Dev.at_latch (s : Dev) (off : Nat) : (s.at off).latch = s.latch := rfl
@[simp] theorem Dev.at_fresh (s : Dev) (off : Nat) : (s.at off).fresh = s.fresh := rfl
@[simp] theorem Dev.at_missRun (s : Dev) (off : Nat) : (s.at off).missRun = s.missRun := rfl
@[simp] theorem Dev.at_missTick (s : Dev) (off : Nat) : (s.at off).missTick = s.missTick := rfl
@[simp] theorem Dev.at_begun (s : Dev) (off : Nat) : (s.at off).begun = s.begun := rfl
@[simp] theorem Dev.at_alarmDue (s : Dev) (off : Nat) : (s.at off).alarmDue = s.alarmDue := rfl
@[simp] theorem Dev.at_alarmSet (s : Dev) (off : Nat) : (s.at off).alarmSet = s.alarmSet := rfl
@[simp] theorem Dev.at_posx (s : Dev) (off : Nat) : (s.at off).posx = s.posx := rfl
@[simp] theorem Dev.at_evr (s : Dev) (off : Nat) : (s.at off).evr = s.evr := rfl
@[simp] theorem Dev.at_cmpl (s : Dev) (off : Nat) : (s.at off).cmpl = s.cmpl := rfl
@[simp] theorem Dev.at_pgen (s : Dev) (off : Nat) : (s.at off).pgen = s.pgen := rfl
@[simp] theorem Dev.at_ceng (s : Dev) (off : Nat) : (s.at off).ceng = s.ceng := rfl
@[simp] theorem Dev.at_doors (s : Dev) (off : Nat) : (s.at off).doors = s.doors := rfl
@[simp] theorem Dev.at_motion (s : Dev) (off : Nat) : (s.at off).motion = s.motion := rfl
@[simp] theorem Dev.at_ring (s : Dev) (off : Nat) : (s.at off).ring = s.ring := rfl
@[simp] theorem Dev.at_bid (s : Dev) (off : Nat) : (s.at off).bid = s.bid := rfl
@[simp] theorem Dev.at_chA (s : Dev) (off : Nat) : (s.at off).chA = s.chA := rfl
@[simp] theorem Dev.at_chB (s : Dev) (off : Nat) : (s.at off).chB = s.chB := rfl
@[simp] theorem Dev.at_marten (s : Dev) (off : Nat) : (s.at off).marten = s.marten := rfl
@[simp] theorem Dev.at_badger (s : Dev) (off : Nat) : (s.at off).badger = s.badger := rfl
@[simp] theorem Dev.at_sout (s : Dev) (off : Nat) : (s.at off).sout = s.sout := rfl
@[simp] theorem Dev.at_io (s : Dev) (off : Nat) : (s.at off).io = s.io := rfl
@[simp] theorem Dev.at_can (s : Dev) (off : Nat) : (s.at off).can = s.can := rfl
@[simp] theorem Dev.at_errHist (s : Dev) (off : Nat) : (s.at off).errHist = s.errHist := rfl
@[simp] theorem Dev.at_ode (s : Dev) (off : Nat) : (s.at off).ode = s.ode := rfl
@[simp] theorem Dev.at_mbox (s : Dev) (off : Nat) : (s.at off).mbox = s.mbox := rfl
@[simp] theorem Dev.at_pres (s : Dev) (off : Nat) : (s.at off).pres = s.pres := rfl
@[simp] theorem Dev.at_boot (s : Dev) (off : Nat) : (s.at off).boot = s.boot := rfl
@[simp] theorem Dev.at_ana (s : Dev) (off : Nat) : (s.at off).ana = s.ana := rfl
@[simp] theorem Dev.at_memc (s : Dev) (off : Nat) : (s.at off).memc = s.memc := rfl
@[simp] theorem Dev.at_nv (s : Dev) (off : Nat) : (s.at off).nv = s.nv := rfl
@[simp] theorem Dev.at_inReset (s : Dev) (off : Nat) : (s.at off).inReset = s.inReset := rfl

@[simp] theorem Dev.rd_at (s : Dev) (off : Nat) (r : Nat) : (s.at off).rd r = s.rd r := rfl
@[simp] theorem Dev.fld_at (s : Dev) (off : Nat) (g : Fld) : (s.at off).fld g = s.fld g := rfl

theorem Dev.Frame.of_at {ps : List Part} {touch : Nat → Bool} (s : Dev) (off : Nat) (h : .now ∈ ps) : Dev.Frame ps touch s (s.at off) :=
  Dev.Frame.with_now s _ h

end Sys2Proof.Machine
end

