-- ==== Sys2Proof/Laws/Events.lean ====
section
/-! SUPPORT. What reporting an event can do (R375 to R383, R330): the registers of EVR, its queues and windows, Bear's safety
log, the entry 0x2802:02, and the emergency messages; everything else of the module stays. -/

namespace Sys2Proof.Machine

/-- What a report can change. -/
abbrev Dev.Reports (s t : Dev) : Prop := Dev.Frame reportParts (inBlock 19) s t

theorem Dev.Reports.of_evr (s : Dev) (e : EvrSt) : s.Reports { s with evr := e } := Dev.Frame.with_evr s e (by decide)

theorem Dev.Reports.of_nv (s : Dev) (n : NonVol) : s.Reports { s with nv := n } := Dev.Frame.with_nv s n (by decide)

theorem Dev.Reports.of_odPut (s : Dev) (idx sub v : Nat) : s.Reports (s.odPut idx sub v) := Dev.Frame.of_odPut s idx sub v (by decide)

theorem Dev.Reports.of_wr (s : Dev) (a : Nat) (v : Word) (h : inBlock 19 a = true) : s.Reports (s.wr a v) :=
  Dev.Frame.of_wr s v (by decide) h

theorem Dev.Reports.of_satInc (s : Dev) (f : Fld) (h : inBlock 19 f.addr = true) : s.Reports (s.satInc f) :=
  Dev.Frame.of_satInc s (by decide) h

theorem Dev.evPut_reports (s : Dev) (e : EvRec) : s.Reports (s.evPut e) := by
  unfold Dev.evPut
  by_cases h : s.evRoom (evSafety e.code) = true
  · simp only [h, if_true]
    exact Dev.Reports.of_evr s _
  · simp only [h]
    exact ((Dev.Reports.of_satInc s F.EVR_LOST_COUNT (by decide)).trans (Dev.Reports.of_wr _ _ _ (by decide))).trans (Dev.Reports.of_evr _ _)

theorem Dev.logCore_reports (s : Dev) (src code p1 p2 p3 : Nat) : s.Reports (s.logCore src code p1 p2 p3) := by
  unfold Dev.logCore
  dsimp only
  split
  · split
    · exact evPut_reports ..
    · exact (evPut_reports ..).trans (Dev.Reports.of_nv _ _)
  · split
    · exact (Dev.Reports.of_evr s _).trans (evPut_reports ..)
    · split
      · exact (Dev.Reports.of_evr s _).trans (evPut_reports ..)
      · exact (Dev.Reports.of_evr s _).trans (Dev.Reports.of_satInc _ _ (by decide))

theorem Dev.freezeAt_reports (s : Dev) (kind t : Nat) (tag : Word) : s.Reports (s.freezeAt kind t tag) := by
  have hop (e : EvrSt) (n : NonVol) (v : Nat) (k w : Nat) :
      s.Reports (((({ s with evr := e, nv := n } : Dev).setFld F.EVR_STATUS_PENDING v).setFlag F.EVR_IRQ_FROZEN true).odPut 0x2802 2 k |>.logCore 0 0x0042 k kind w) :=
    ((((Dev.Reports.of_evr s e).trans (Dev.Reports.of_nv _ n)).trans (Dev.Reports.of_wr _ _ _ (by decide))).trans (Dev.Reports.of_wr _ _ _ (by decide))).trans
      ((Dev.Reports.of_odPut _ _ _ _).trans (logCore_reports ..))
  unfold Dev.freezeAt
  dsimp only
  split
  · split
    · exact Dev.Reports.of_evr s _
    · split
      · exact logCore_reports ..
      · exact hop ..
  · exact hop ..

theorem Dev.emcy_reports (s : Dev) (err code p1 : Nat) : s.Reports (s.emcy err code p1) :=
  ⟨fun p hp => by cases p <;> first | exact rfl | exact absurd (by decide) hp, fun _ _ => rfl⟩

theorem Dev.logBy_reports (s : Dev) (src code p1 p2 p3 : Nat) : s.Reports (s.logBy src code p1 p2 p3) := by
  have h1 := logCore_reports s src code p1 p2 p3
  have h2 : s.Reports (if code = 0x8001 ∧ (p2 = 2 ∨ p2 = 3) then (s.logCore src code p1 p2 p3).freezeAt 0 s.tick 0
      else if evClass code = 15 then (s.logCore src code p1 p2 p3).freezeAt 1 s.tick 0 else s.logCore src code p1 p2 p3) := by
    split
    · exact h1.trans (freezeAt_reports ..)
    · split
      · exact h1.trans (freezeAt_reports ..)
      · exact h1
  unfold Dev.logBy
  dsimp only
  split
  · exact h2.trans (emcy_reports ..)
  · exact h2

theorem Dev.log_reports (s : Dev) (code p1 p2 p3 : Nat) : s.Reports (s.log code p1 p2 p3) := logBy_reports ..

theorem Dev.logE_reports (s : Dev) (code p1 p2 p3 : Nat) : s.Reports (s.logE code p1 p2 p3) := by
  unfold Dev.logE
  dsimp only
  split
  · exact logBy_reports ..
  · exact (logBy_reports ..).trans (emcy_reports ..)

/-- What a report outside the classes 0x8 and 0xF can change. -/
abbrev Dev.Notices (s t : Dev) : Prop := Dev.Frame noticeParts (inBlock 19) s t

theorem Dev.evPut_notices (s : Dev) (e : EvRec) : s.Notices (s.evPut e) := by
  unfold Dev.evPut
  by_cases h : s.evRoom (evSafety e.code) = true
  · simp only [h, if_true]
    exact Dev.Frame.with_evr s _ (by decide)
  · simp only [h]
    exact ((Dev.Frame.of_satInc s (f := F.EVR_LOST_COUNT) (by decide) (by decide)).trans (Dev.Frame.of_wr _ _ (by decide) (by decide))).trans
      (Dev.Frame.with_evr _ _ (by decide))

/-- The class of the code is neither 0x8 nor 0xF. -/
def quietCode (code : Nat) : Prop := evClass code ≠ 8 ∧ evClass code ≠ 15

theorem Dev.logCore_notices (s : Dev) {src code p1 p2 p3 : Nat} (h : quietCode code) : s.Notices (s.logCore src code p1 p2 p3) := by
  have he (e : EvrSt) : s.Notices { s with evr := e } := Dev.Frame.with_evr s e (by decide)
  unfold Dev.logCore
  dsimp only
  split
  · rename_i hc
    have h10 : evClass code = 10 := by
      rcases hc with c | c | c
      · exact absurd c h.1
      · exact c
      · exact absurd c h.2
    rw [if_pos h10]
    exact evPut_notices ..
  · split
    · exact (he _).trans (evPut_notices ..)
    · split
      · exact (he _).trans (evPut_notices ..)
      · exact (he _).trans (Dev.Frame.of_satInc _ (by decide) (by decide))

theorem Dev.emcy_notices (s : Dev) (err code p1 : Nat) : s.Notices (s.emcy err code p1) :=
  ⟨fun p hp => by cases p <;> first | exact rfl | exact absurd (by decide) hp, fun _ _ => rfl⟩

theorem Dev.logBy_notices (s : Dev) {src code p1 p2 p3 : Nat} (h : quietCode code) : s.Notices (s.logBy src code p1 p2 p3) := by
  have hc : ¬ (code = 0x8001 ∧ (p2 = 2 ∨ p2 = 3)) := fun e => h.1 (by rw [e.1]; rfl)
  unfold Dev.logBy
  dsimp only
  rw [if_neg hc, if_neg h.2]
  split
  · exact (logCore_notices s h).trans (emcy_notices ..)
  · exact logCore_notices s h

theorem Dev.log_notices (s : Dev) {code p1 p2 p3 : Nat} (h : quietCode code) : s.Notices (s.log code p1 p2 p3) := logBy_notices s h

theorem Dev.logE_notices (s : Dev) {code p1 p2 p3 : Nat} (h : quietCode code) : s.Notices (s.logE code p1 p2 p3) := by
  unfold Dev.logE
  dsimp only
  split
  · exact logBy_notices s h
  · exact (logBy_notices s h).trans (emcy_notices ..)

/-- A register outside EVR reads the same after an event. -/
theorem Dev.rd_log (s : Dev) (code p1 p2 p3 : Nat) {a : Nat} (h : inBlock 19 a = false) :
    (s.log code p1 p2 p3).rd a = s.rd a := (log_reports ..).2 a h

theorem Dev.rd_logBy (s : Dev) (src code p1 p2 p3 : Nat) {a : Nat} (h : inBlock 19 a = false) :
    (s.logBy src code p1 p2 p3).rd a = s.rd a := (logBy_reports ..).2 a h

theorem Dev.rd_logE (s : Dev) (code p1 p2 p3 : Nat) {a : Nat} (h : inBlock 19 a = false) :
    (s.logE code p1 p2 p3).rd a = s.rd a := (logE_reports ..).2 a h

theorem Dev.fld_log (s : Dev) (code p1 p2 p3 : Nat) {f : Fld} (h : inBlock 19 f.addr = false) :
    (s.log code p1 p2 p3).fld f = s.fld f := congrArg (fldOf · f) (rd_log s code p1 p2 p3 h)

theorem Dev.flag_log (s : Dev) (code p1 p2 p3 : Nat) {f : Fld} (h : inBlock 19 f.addr = false) :
    (s.log code p1 p2 p3).flag f = s.flag f := by unfold Dev.flag; rw [fld_log s _ _ _ _ h]

end Sys2Proof.Machine
end

