-- ==== Sys2Proof/Laws/Access.lean ====
section
/-! SUPPORT. What a register write can do (R7 to R10): each bit by the access code of its field, the presence log, the answer of
the bus. -/

namespace Sys2Proof.Machine

theorem mask_bit (hi lo i : Nat) (h : i < 32) : (BitVec.ofNat 32 (bitMask hi lo)).getLsbD i = (decide (lo ≤ i) && decide (i ≤ hi)) := by
  unfold bitMask
  rw [BitVec.getLsbD_ofNat, Nat.testBit_mul_two_pow, Nat.testBit_two_pow_sub_one]
  by_cases h1 : lo ≤ i <;> by_cases h2 : i ≤ hi <;> simp [h1, h2] <;> omega

/-- What a run does to a bit it covers. -/
def Dev.runBit (s : Dev) (a : Nat) (acc : Acc) (v o : Bool) : Bool :=
  match acc with
          | .rw => v
          | .w1c => o && !v
          | .w1s => o || v
          | .rwp => if 1 ≤ s.level then v else o
          | .rwi => if s.level = 2 then v else o
          | .rwl => if s.locked a then o else v
          | .rwF => if s.mayWrite a .rwF then v else o
          | .ro => o
          | .wo => o

theorem Dev.putRun_bit (s : Dev) (a : Nat) (val old : Word) (b : BitRun) (i : Nat) (hi32 : i < 32) :
   (s.putRun a val old b).getLsbD i = if b.lo ≤ i ∧ i ≤ b.hi then s.runBit a b.acc (val.getLsbD i) (old.getLsbD i) else old.getLsbD i := by
  obtain ⟨hi, lo, acc⟩ := b
  have hm := mask_bit hi lo i hi32
  unfold Dev.putRun
  by_cases h : lo ≤ i ∧ i ≤ hi
  · obtain ⟨h1, h2⟩ := h
    simp only [h1, h2, decide_true, Bool.and_self] at hm
    cases acc <;> simp only [Dev.mayWrite, Dev.runBit, decide_eq_true_eq, if_true, Bool.not_eq_true', Bool.false_eq_true, if_false, h1, h2, and_self] <;> (try split) <;> simp_all [BitVec.getLsbD_or, BitVec.getLsbD_and, BitVec.getLsbD_not]
  · have : (decide (lo ≤ i) && decide (i ≤ hi)) = false := by
      rw [← Bool.decide_and]; simp only [h, decide_false]
    rw [this] at hm
    rw [if_neg h]
    cases acc <;> (try simp only []) <;> split <;> simp_all [BitVec.getLsbD_or, BitVec.getLsbD_and, BitVec.getLsbD_not]

theorem Dev.foldRuns_bit (s : Dev) (a : Nat) (val : Word) (i : Nat) (hi : i < 32) (l : List BitRun) (hp : l.Pairwise (fun x y => x.hi < y.lo ∨ y.hi < x.lo)) (old : Word) :
    (∀ b ∈ l, b.lo ≤ i → i ≤ b.hi → (l.foldl (s.putRun a val) old).getLsbD i = s.runBit a b.acc (val.getLsbD i) (old.getLsbD i)) ∧
    ((∀ b ∈ l, i < b.lo ∨ b.hi < i) → (l.foldl (s.putRun a val) old).getLsbD i = old.getLsbD i) := by
  induction l generalizing old with
  | nil => simp
  | cons x t ih =>
    rw [List.pairwise_cons] at hp
    have ih := ih hp.2 (s.putRun a val old x)
    have hx := Dev.putRun_bit s a val old x i hi
    constructor
    · intro b hb h1 h2
      rw [List.foldl_cons]
      rcases List.mem_cons.mp hb with e | e
      · subst e
        rw [if_pos ⟨h1, h2⟩] at hx
        rw [ih.2 (fun y hy => by have := hp.1 y hy; omega), hx]
      · have := hp.1 b e
        rw [if_neg (by omega)] at hx
        rw [ih.1 b e h1 h2, hx]
    · intro h
      rw [List.foldl_cons, ih.2 (fun y hy => h y (List.mem_cons_of_mem _ hy)), hx, if_neg (by have := h x List.mem_cons_self; omega)]

theorem Dev.presLog_nv (s : Dev) (k p o n : Nat) : ∃ v, s.presLog k p o n = { s with nv := v } := ⟨_, rfl⟩

theorem Dev.presWrite_cases (s : Dev) (a : Nat) (v : Word) (d : Dev) : ∃ nv, s.presWrite a v d = { d with nv := nv } := by
  unfold Dev.presWrite
  generalize regDesc? a = r
  cases r with
  | none => exact ⟨d.nv, rfl⟩
  | some r =>
    simp only
    split
    · exact ⟨_, rfl⟩
    · exact ⟨d.nv, rfl⟩

theorem Dev.presWrite_rd (s : Dev) (a : Nat) (v : Word) (d : Dev) (x : Nat) : (s.presWrite a v d).rd x = d.rd x := by
  obtain ⟨nv, h⟩ := Dev.presWrite_cases s a v d
  rw [h, Dev.rd_with_nv]

theorem Dev.presWrite_frame (ps tch) (s : Dev) (a : Nat) (v : Word) (d : Dev) (hp : .nv ∈ ps) : Dev.Frame ps tch d (s.presWrite a v d) := by
  obtain ⟨nv, h⟩ := Dev.presWrite_cases s a v d
  rw [h]; exact Dev.Frame.with_nv _ _ hp

theorem ofLe_leBytes4 (v : Word) : BitVec.ofNat 32 (ofLe (List.take 4 (leBytes 4 v.toNat))) = v := by
  simp only [leBytes, List.take_succ_cons, List.take_zero, ofLe, BitVec.toNat_ofNat]
  apply BitVec.eq_of_toNat_eq
  rw [BitVec.toNat_ofNat]
  have := v.isLt
  omega

theorem Dev.plainWrite_frame (s : Dev) (m a v) : Dev.Frame reportParts (fun x => x = a || inBlock 19 x) s (s.plainWrite m a v) := by
  unfold Dev.plainWrite
  split
  · exact .refl _
  · split
    · exact .refl _
    · dsimp only
      split
      · exact (Dev.Frame.of_wr _ _ (by decide) (by simp)).trans ((Dev.logBy_reports ..).mono (by simp) (by intro a h; simp [h]))
      · exact (Dev.Frame.of_wr _ _ (by decide) (by simp))

theorem Dev.plainWrite_rd (s : Dev) (m a v r) (hr : regDesc? a = some r) (h19 : inBlock 19 a = false) :
   (s.plainWrite m a v).rd a = if r.m5 ∧ m ≠ 5 then s.rd a else s.written a r v := by
  unfold Dev.plainWrite
  rw [hr]
  dsimp only
  by_cases h5 : r.m5 = true ∧ m ≠ 5
  · simp only [if_pos h5]
  · simp only [if_neg h5]
    split
    · rw [Dev.rd_logBy _ _ _ _ _ _ h19, Dev.rd_wr_self]
    · rw [Dev.rd_wr_self]

theorem Dev.blockWrite_plain (s : Dev) (m a v) (h : blockNo a ∈ [0, 10, 11, 21, 23, 24]) : s.blockWrite m a v = s.plainWrite m a v := by
  unfold Dev.blockWrite
  simp only [List.mem_cons, List.not_mem_nil, or_false] at h
  rcases h with h | h | h | h | h | h <;> rw [h] <;> rfl

/-- No field of the register needs presence. -/
def noPresence (a : Nat) : Bool :=
  match regDesc? a with
  | some d => d.bits.all fun b => b.acc != .rwp && b.acc != .rwi
  | none => true

theorem maskOf_zero (l : List BitRun) (p : Acc → Bool) (h : ∀ b ∈ l, p b.acc = false) (m : Nat) :
    l.foldl (fun m b => if p b.acc then m + bitMask b.hi b.lo else m) m = m := by
  induction l generalizing m with
  | nil => rfl
  | cons x t ih =>
    rw [List.foldl_cons, h x List.mem_cons_self]
    exact ih (fun b hb => h b (List.mem_cons_of_mem _ hb)) m

theorem Dev.presWrite_id (s : Dev) (a : Nat) (v : Word) (d : Dev) (h : noPresence a = true) : s.presWrite a v d = d := by
  unfold Dev.presWrite noPresence at *
  revert h
  generalize regDesc? a = r
  intro h
  cases r with
  | none => rfl
  | some r =>
    simp only [List.all_eq_true, Bool.and_eq_true, bne_iff_ne] at h ⊢
    rw [if_neg]
    rintro ⟨h1, -⟩
    apply h1
    have key : ∀ p : Acc → Bool, (∀ c, p c = true → c = .rwp ∨ c = .rwi) → r.maskOf p = 0 := fun p hp =>
      maskOf_zero r.bits p (fun b hb => by
        cases hb2 : p b.acc with
        | false => rfl
        | true => rcases hp _ hb2 with e | e <;> simp [e] at h <;> exact absurd e (by have := h b hb; simp_all)) 0
    apply key
    intro c; cases c <;> simp

/-- A word write to a register without presence fields is the block's write and the answer of the bus. -/
theorem Dev.wordWrite_eq (s : Dev) (m : Master) (a : Nat) (v : Word) (hm : s.mayUse m a = true) (hd : a ≠ R.PRES_DEBUG) (hp : noPresence a = true) :
    s.wordWrite m a v = (s.blockWrite m a v).answer m [] := by
  unfold Dev.wordWrite Dev.asMaster Dev.loggedWrite
  rw [if_pos hm]
  dsimp only
  rw [if_neg hd, Dev.presWrite_id _ _ _ _ hp]

end Sys2Proof.Machine
end

