-- ==== Sys2Proof/Laws/Exec.lean ====
section
/-! SUPPORT. Running a meaning: outside power-on reset its effect happens, and the command completes. -/

namespace Sys2Proof.Machine

theorem onDev_next (s : State) (f : Dev → Dev) (h : s.dev.inReset = false) : onDev s f = .next { s with dev := f s.dev } := by
  unfold onDev; simp [h]

theorem onAll_next (s : State) (f : Dev × MemSys → Dev × MemSys) (h : s.dev.inReset = false) :
    onAll s f = .next { s with dev := (f (s.dev, s.mem)).1, mem := (f (s.dev, s.mem)).2 } := by
  unfold onAll; simp [h]

theorem completes_onDev {i : Instr} {s : State} {P : Dev → Prop} (f : Dev → Dev) (h : s.dev.inReset = false)
   (he : exec i s = onDev s f) (hp : P (f s.dev)) : Completes i s P :=
  ⟨_, he.trans (onDev_next s f h), rfl, rfl, hp⟩

theorem completes_onAll {i : Instr} {s : State} {P : Dev → MemSys → Prop} (f : Dev × MemSys → Dev × MemSys) (h : s.dev.inReset = false)
   (he : exec i s = onAll s f) (hp : P (f (s.dev, s.mem)).1 (f (s.dev, s.mem)).2) : CompletesAll i s P :=
  ⟨_, he.trans (onAll_next s f h), rfl, hp⟩

end Sys2Proof.Machine
end

