-- ==== Sys2Proof/Certificates/Slice0/Obligations.lean ====
section
/-! DEFINITION. The statements for the provers: what the commands of each family do, what they leave alone, and what every step keeps. -/

open Sys2Proof Sys2Proof.Machine

/-! ## The queue, the tick and the accesses of a master -/

/-- A step runs the command at the front of the queue with the queue's rest; with an empty queue the module idles (the model's queue, log
entries 14 and 117). -/
def Obligations.StepRunsFrontCommand : Prop :=
  ∀ s : State, (s.pending = [] → step s = .next s) ∧
    ∀ (c : Instr) (rest : List Instr), s.pending = c :: rest → step s = exec c { s with pending := rest }

/-- Every command answers a next state, in every state of the module, and leaves the waiting commands as they are: nothing of the table
stops the model. -/
def Obligations.EveryCommandCompletes : Prop :=
  ∀ (i : Instr) (s : State), ∃ t, exec i s = .next t ∧ t.pending = s.pending

/-- A sample point starts the next tick: its number is one more and TICK.NOW stands at T(k) = k × 125,000 ns (R29, R31). The first one
after reset is that of tick 0: the tick number stays, and tick 0 has begun (log 14). A phase missed in the tick that the next sample point
starts sets its bit in TICK.MISS, counts in TICK.MISSCNT (which saturates) and raises MISS in both interrupt registers (R35, R39); of the
rest of the module only the run of misses and the records of EVR change. A phase that has missed that tick already changes nothing. An
alarm that is due, with an offset that its own tick reaches, sets its flag in both interrupt registers, is due no more, and in once mode
clears its EN unless ALARM has been written since the sample point (R39, R40). An offset of 124,998 or 124,999 is reached in the first
cycle of the next tick only: the row changes nothing, and the sample point fires that alarm (log 19). Where these meanings make a choice
of the model, it stands in log entries 14, 16, 17, 18, 19, 21, 22, 23, 24, 27, 60, 119. -/
def Obligations.TickEvents : Prop :=
  (∀ (s : State) (inp : SampleIn), s.dev.inReset = false → s.dev.begun = true →
    CompletesAll (.samplePoint inp) s fun d _ => d.tick = s.dev.tick + 1 ∧ d.ns = (s.dev.tick + 1) * 125000) ∧
  (∀ (s : State) (inp : SampleIn), s.dev.inReset = false → s.dev.begun = false →
    CompletesAll (.samplePoint inp) s fun d _ => d.tick = s.dev.tick ∧ d.begun = true) ∧
  (∀ (s : State) (p : Fin 9), s.dev.inReset = false → s.dev.missTick[p] ≠ s.dev.nextTick + 1 →
    Completes (.phaseMiss p) s fun d =>
      bitN (d.rd R.TICK_MISS).toNat p.val = true ∧
      d.fld (F.TICK_MISSCNT_COUNT p.val) = min (s.dev.fld (F.TICK_MISSCNT_COUNT p.val) + 1) (2 ^ (F.TICK_MISSCNT_COUNT p.val).width - 1) ∧
      bitN (d.rd R.TICK_IRQ_FOX).toNat 19 = true ∧ bitN (d.rd R.TICK_IRQ_MARTEN).toNat 19 = true ∧
      Dev.Frame (.missTick :: .missRun :: noticeParts)
        (fun a => a = R.TICK_MISS || a = R.TICK_MISSCNT p.val || a = R.TICK_IRQ_FOX || a = R.TICK_IRQ_MARTEN || inBlock 19 a) s.dev d) ∧
  (∀ (s : State) (p : Fin 9), s.dev.inReset = false → s.dev.missTick[p] = s.dev.nextTick + 1 →
    Completes (.phaseMiss p) s fun d => d = s.dev) ∧
  (∀ (s : State) (n : Fin 4), s.dev.inReset = false → s.dev.alarmDue[n] = true → s.dev.fldF (F.TICK_ALARM_OFFSET n.val) < 124998 →
    Completes (.alarm n) s fun d =>
      bitN (d.rd R.TICK_IRQ_FOX).toNat n.val = true ∧ bitN (d.rd R.TICK_IRQ_MARTEN).toNat n.val = true ∧
      d.alarmDue[n] = false ∧
      (s.dev.fldF (F.TICK_ALARM_RATE n.val) = 3 → s.dev.alarmSet[n] = false → d.flag (F.TICK_ALARM_EN n.val) = false) ∧
      (s.dev.fldF (F.TICK_ALARM_RATE n.val) ≠ 3 ∨ s.dev.alarmSet[n] = true → d.rd (R.TICK_ALARM n.val) = s.dev.rd (R.TICK_ALARM n.val)) ∧
      Dev.Frame [.now, .regs, .alarmDue]
        (fun a => a = R.TICK_IRQ_FOX || a = R.TICK_IRQ_MARTEN || a = R.TICK_ALARM n.val) s.dev d) ∧
  (∀ (s : State) (n : Fin 4), s.dev.inReset = false → 124998 ≤ s.dev.fldF (F.TICK_ALARM_OFFSET n.val) →
    Completes (.alarm n) s fun d => d = s.dev)

/-- A read of TICK.NOW_LO answers the low word of the time and latches the high word and the tick number of the same instant for the
reading master alone; the latched number is floor(NOW / 125,000). The latched words answer the reads of NOW_HI, NUM_LO and NUM_HI, and a
read of 64 bits answers both words of one instant (R41). Where these meanings make a choice of the model, it stands in log entries 14, 28,
29, 30, 32, 33, 121. -/
def Obligations.TimeReadsLatch : Prop :=
  (∀ (s : State) (m : Master) (off : Nat), s.dev.inReset = false → s.dev.mayUse m R.TICK_NOW_LO = true →
    Completes (.readNowLo m off) s fun d =>
      d.now = max s.dev.now (s.dev.tick * 50000 + min off 49999) ∧
      d.bus[m] = { data := leBytes 4 (d.ns % 2 ^ 32), err := false } ∧
      (d.latch[m]).nowHi = BitVec.ofNat 32 (d.ns / 2 ^ 32) ∧ (d.latch[m]).num = d.ns / 125000 ∧
      (∀ m' : Master, m' ≠ m → d.latch[m'] = s.dev.latch[m'] ∧ d.bus[m'] = s.dev.bus[m']) ∧
      Dev.Frame [.now, .bus, .latch] (fun _ => false) s.dev d) ∧
  (∀ (s : State) (m : Master), s.dev.inReset = false → s.dev.mayUse m R.TICK_NOW_LO = true →
    Completes (.memoryRead m R.TICK_NOW_LO 8) s fun d =>
      d.bus[m] = { data := leBytes 8 (s.dev.ns % 2 ^ 64), err := false } ∧
      (d.latch[m]).nowHi = BitVec.ofNat 32 (s.dev.ns / 2 ^ 32) ∧ (d.latch[m]).num = s.dev.ns / 125000 ∧
      (∀ m' : Master, m' ≠ m → d.latch[m'] = s.dev.latch[m'] ∧ d.bus[m'] = s.dev.bus[m']) ∧
      Dev.Frame [.bus, .latch] (fun _ => false) s.dev d) ∧
  (∀ (s : State) (m : Master) (k : Fin 3), s.dev.inReset = false → s.dev.mayUse m R.TICK_NOW_HI = true →
    Completes (.memoryRead m (match k with | 0 => R.TICK_NOW_HI | 1 => R.TICK_NUM_LO | 2 => R.TICK_NUM_HI) 4) s fun d =>
      d.bus[m] = { data := leBytes 4 (match k with
        | 0 => (s.dev.latch[m]).nowHi.toNat
        | 1 => (s.dev.latch[m]).num % 2 ^ 32
        | 2 => (s.dev.latch[m]).num / 2 ^ 32 % 2 ^ 32), err := false } ∧
      Dev.Frame [.bus] (fun _ => false) s.dev d)

/-- A register access of a wrong width or alignment, one outside the map and one outside the master's rights perform nothing: the access
ends in a bus error for its master, and its event reaches EVR (R9, R17, R18). Where these meanings make a choice of the model, it stands
in log entries 28, 30, 32, 33. -/
def Obligations.BadAccessEndsInBusError : Prop :=
  (∀ (s : State) (m : Master) (a w : Nat), s.dev.inReset = false → s.dev.mayUse m a = true → regionOf a = some .periph →
    wordAccess a w = false →
    Completes (.wrongWidthAccess m a w) s fun d => d.bus[m] = { data := [], err := true } ∧
      d.evr = (s.dev.logBy m.val 0x7012 a w m.val).evr ∧ Dev.Frame (.bus :: noticeParts) (inBlock 19) s.dev d) ∧
  (∀ (s : State) (m : Master) (a : Nat), s.dev.inReset = false → s.dev.mayAccess m = true → regionOf (s.dev.physical m a) = none →
    Completes (.accessOutsideMap m a) s fun d => d.bus[m] = { data := [], err := true } ∧
      d.evr = (s.dev.logBy m.val 0x7010 a (a / 2 ^ 32) m.val).evr ∧
      Dev.Frame (.bus :: noticeParts) (inBlock 19) s.dev d) ∧
  (∀ (s : State) (m : Master) (a : Nat), s.dev.inReset = false → s.dev.mayAccess m = true →
    s.dev.reach m a (s.dev.physical m a) false = .denied →
    Completes (.accessOutsideRights m a) s fun d => d.bus[m] = { data := [], err := true } ∧
      d.evr = (s.dev.logBy m.val 0x7011 a (a / 2 ^ 32) m.val).evr ∧
      Dev.Frame (.bus :: noticeParts) (inBlock 19) s.dev d)

/-- In every register table the fields of a register lie in bits 31 to 0 and no two of them share a bit (R6, R7). -/
def Obligations.RegisterFieldsDisjoint : Prop :=
  ∀ b < 27, ∀ d ∈ blockRegs b, d.bits.Pairwise (fun x y => x.hi < y.lo ∨ y.hi < x.lo) ∧ ∀ x ∈ d.bits, x.lo ≤ x.hi ∧ x.hi ≤ 31

/-- A word written to a register of SYS (but RSTREQ), CANX, FLSH, ANA or ETH acts on each bit by the access code of its field (R7, R8): RW
takes the written bit, a 1 clears a W1C bit and sets a W1S bit, every other bit is kept. A register of master 5 keeps its word for every
other master. No register outside EVR changes but the one addressed, and the access is answered without an error. An RWP register
(LRING.CLASS) takes the word at presence level 1 or 2; at level 0 it keeps its own, and a write that would have changed it logs 0xA011
with reason 1. An RWL register (LRING.LMASK) takes the word until the block is locked, and keeps its own from then on. Master 5 sets the
LOCK bit of POSX, LRING or XCMP, and after it the block's RWL fields take no write; the same write of another master that issues accesses
to the block changes no register (R7, R68, R206, R271). Where these meanings make a choice of the model, it stands in log entries 28, 29,
33. -/
def Obligations.RegisterAccessCodes : Prop :=
  (∀ (s : State) (m : Master) (a : Nat) (val : Word) (r : RegDesc), s.dev.inReset = false → s.dev.mayUse m a = true →
    a % 4 = 0 → regionOf a = some .periph → blockNo a ∈ [0, 10, 11, 21, 23, 24] → a ≠ R.SYS_RSTREQ → regDesc? a = some r →
    r.bits.Pairwise (fun x y => x.hi < y.lo ∨ y.hi < x.lo) →
    Completes (.registerWrite m a val) s fun d =>
      (r.m5 = true → m ≠ 5 → d.rd a = s.dev.rd a) ∧
      ((r.m5 = true → m = 5) → ∀ i < 32,
        (∀ b ∈ r.bits, b.lo ≤ i → i ≤ b.hi → (d.rd a).getLsbD i =
          match b.acc with
          | .rw => val.getLsbD i
          | .w1c => (s.dev.rd a).getLsbD i && !val.getLsbD i
          | .w1s => (s.dev.rd a).getLsbD i || val.getLsbD i
          | _ => (s.dev.rd a).getLsbD i) ∧
        ((∀ b ∈ r.bits, i < b.lo ∨ b.hi < i) → (d.rd a).getLsbD i = (s.dev.rd a).getLsbD i)) ∧
      d.bus[m] = { data := [], err := false } ∧
      Dev.Frame (.bus :: noticeParts) (fun x => x = a || inBlock 19 x) s.dev d) ∧
  (∀ (s : State) (m : Master) (k : Fin 48) (val : Word), s.dev.inReset = false → s.dev.mayUse m (R.LRING_CLASS k.val) = true →
    Completes (.registerWrite m (R.LRING_CLASS k.val) val) s fun d =>
      d.rd (R.LRING_CLASS k.val) = (if 1 ≤ s.dev.level then val else s.dev.rd (R.LRING_CLASS k.val)) ∧
      (s.dev.level = 0 → val ≠ s.dev.rd (R.LRING_CLASS k.val) → d.evr = (s.dev.logBy m.val 0xA011 1 (R.LRING_CLASS k.val) 4).evr) ∧
      Dev.Frame (.bus :: .nv :: noticeParts) (fun x => x = R.LRING_CLASS k.val || inBlock 19 x) s.dev d) ∧
  (∀ (s : State) (m : Master) (k : Fin 48) (val : Word), s.dev.inReset = false → s.dev.mayUse m (R.LRING_LMASK k.val) = true →
    Completes (.registerWrite m (R.LRING_LMASK k.val) val) s fun d =>
      d.rd (R.LRING_LMASK k.val) = (if s.dev.flag F.LRING_LOCK_LOCK then s.dev.rd (R.LRING_LMASK k.val) else val) ∧
      Dev.Frame [.bus, .regs] (fun x => x = R.LRING_LMASK k.val) s.dev d) ∧
  (∀ (s : State) (blk : LockBlock), s.dev.inReset = false →
    Completes (.lockSet 5 blk) s fun d =>
      bitN (d.rd (lockAddr blk)).toNat 0 = true ∧
      (∀ a, blockNo a = blockNo (lockAddr blk) → d.mayWrite a .rwl = false) ∧
      Dev.Frame [.regs, .bus] (fun x => x = lockAddr blk) s.dev d) ∧
  (∀ (s : State) (m : Master) (blk : LockBlock), s.dev.inReset = false → s.dev.mayUse m (lockAddr blk) = true → m ≠ 5 →
    Completes (.lockSet m blk) s fun d => Dev.Frame [.bus] (fun _ => false) s.dev d)

/-! ## POSX -/

/-- The parts and registers that a POSX event may change: time, POSX, Badger's own count, and the records. -/
abbrev posxFrame (s d : Dev) : Prop :=
  Dev.Frame (.now :: .posx :: .badger :: noticeParts) (fun a => inBlock 2 a || inBlock 19 a) s d

/-- The count of accepted levels (a, b) after (a0, b0), at most one of them changed, by mode (R44): quadrature +1 in the sequence 00,
01, 11, 10 of BA; step and direction on a rising A by the level of B; up and down pulses on a rising A and a rising B. -/
def Sys2Proof.Machine.countStep (mode : Nat) (a0 b0 a b : Bool) : Int :=
  match mode with
  | 0 => if a0 ≠ a then (if a ≠ b then 1 else -1) else if b0 ≠ b then (if a = b then 1 else -1) else 0
  | 1 => if a0 = false ∧ a = true then (if b then 1 else -1) else 0
  | 2 => if a0 = false ∧ a = true then 1 else if b0 = false ∧ b = true then -1 else 0
  | _ => 0

/-- The frame is good (R53, R57): the CRC right, nE 1, the start bit within 40 µs, the end before the window's end, no line fault. LEN is
that of the settings in force. -/
def Sys2Proof.Machine.frameGood (s : Dev) (n : Fin 2) (fr : AbsFrame) (r : Nat) : Bool :=
  fr.crc % 64 = bissCrc (s.fldF (F.POSX_ABS_CFG_LEN n.val)) fr.data fr.nE fr.nW && fr.nE && decide (r < 16000) &&
    decide (fr.endCyc < (s.posx.abs[n]).winEnd * 400) && !(s.posx.abs[n]).lineBad

/-- The sector of a legal UVW state (R64). -/
def Sys2Proof.Machine.hallOf : Nat → Option Nat
  | 1 => some 0 | 3 => some 1 | 2 => some 2 | 6 => some 3 | 4 => some 4 | 5 => some 5 | _ => none

/-- New levels that have held for more than FILT samples pass the filter of their channel (R43). Of an enabled channel, at most one line
changed: they count as its mode says, with the sign reversed by INVDIR (R44); the new levels are the channel's, and no other channel
counts. Both lines changed: nothing is counted, ILLEGAL and its interrupt bit are set, and ILLCNT counts up to 255 (R45). A channel that
is not enabled counts nothing. Levels that held for FILT samples or fewer are rejected: no counter channel and no register changes. A
rising Z that the channel's filter accepts sets ZSEEN (R43, R48), and only the latch units on Z take it as well; one that the filter
rejects changes nothing. A channel without a count in SPDCFG.STILL ms shows STILL and speed 0 (R50). A line fault sets its LINEFLT bits
where LINECHK is set, or marks the absolute channel, and the bits clear when the voltage is back (R47). Where these meanings make a choice
of the model, it stands in log entries 14, 128. -/
def Obligations.CounterEdges : Prop :=
  (∀ (s : State) (n : Fin 4) (a b : Bool) (held off : Nat), s.dev.inReset = false → s.dev.fldF (F.POSX_CNT_CFG_FILT n.val) < held →
    s.dev.flagF (F.POSX_CNT_CFG_EN n.val) = true → ((s.dev.posx.cnt[n]).a = a ∨ (s.dev.posx.cnt[n]).b = b) →
    Completes (.cntEdge n a b ⟨held, off⟩) s fun d =>
      let c := s.dev.posx.cnt[n]
      let step := countStep (s.dev.fldF (F.POSX_CNT_CFG_MODE n.val)) c.a c.b a b
      (d.posx.cnt[n]).total = c.total + (if s.dev.flagF (F.POSX_CNT_CFG_INVDIR n.val) then -step else step) ∧
      (d.posx.cnt[n]).a = a ∧ (d.posx.cnt[n]).b = b ∧
      (∀ m : Fin 4, m ≠ n → d.posx.cnt[m] = s.dev.posx.cnt[m]) ∧ posxFrame s.dev d) ∧
  (∀ (s : State) (n : Fin 4) (a b : Bool) (held off : Nat), s.dev.inReset = false → s.dev.fldF (F.POSX_CNT_CFG_FILT n.val) < held →
    s.dev.flagF (F.POSX_CNT_CFG_EN n.val) = true → (s.dev.posx.cnt[n]).a ≠ a → (s.dev.posx.cnt[n]).b ≠ b →
    Completes (.cntEdge n a b ⟨held, off⟩) s fun d =>
      (d.posx.cnt[n]).total = (s.dev.posx.cnt[n]).total ∧ (d.posx.cnt[n]).a = a ∧ (d.posx.cnt[n]).b = b ∧
      d.flag (F.POSX_CNT_STATUS_ILLEGAL n.val) = true ∧ bitN (d.rd R.POSX_IRQ).toNat (4 + n.val) = true ∧
      d.fld (F.POSX_CNT_STATUS_ILLCNT n.val) = min (s.dev.fld (F.POSX_CNT_STATUS_ILLCNT n.val) + 1) 255 ∧
      (∀ m : Fin 4, m ≠ n → d.posx.cnt[m] = s.dev.posx.cnt[m]) ∧ posxFrame s.dev d) ∧
  (∀ (s : State) (n : Fin 4) (a b : Bool) (held off : Nat), s.dev.inReset = false → s.dev.fldF (F.POSX_CNT_CFG_FILT n.val) < held →
    s.dev.flagF (F.POSX_CNT_CFG_EN n.val) = false →
    Completes (.cntEdge n a b ⟨held, off⟩) s fun d =>
      (d.posx.cnt[n]).total = (s.dev.posx.cnt[n]).total ∧ (d.posx.cnt[n]).a = a ∧ (d.posx.cnt[n]).b = b ∧
      Dev.Frame [.now, .posx, .badger] (fun _ => false) s.dev d) ∧
  (∀ (s : State) (n : Fin 4) (a b : Bool) (held off : Nat), s.dev.inReset = false → held ≤ s.dev.fldF (F.POSX_CNT_CFG_FILT n.val) →
    Completes (.cntEdge n a b ⟨held, off⟩) s fun d => d.posx = s.dev.posx ∧ Dev.Frame [.now, .badger] (fun _ => false) s.dev d) ∧
  (∀ (s : State) (n : Fin 4) (held off : Nat), s.dev.inReset = false → s.dev.fldF (F.POSX_CNT_CFG_FILT n.val) < held →
    Completes (.zEdge n ⟨held, off⟩) s fun d => d.flag (F.POSX_CNT_STATUS_ZSEEN n.val) = true ∧
      Dev.Frame (.now :: .posx :: .cmpl :: noticeParts) (fun a => a = R.POSX_CNT_STATUS n.val || inBlock 3 a || inBlock 19 a) s.dev d) ∧
  (∀ (s : State) (n : Fin 4) (held off : Nat), s.dev.inReset = false → held ≤ s.dev.fldF (F.POSX_CNT_CFG_FILT n.val) →
    Completes (.zEdge n ⟨held, off⟩) s fun d => d = s.dev) ∧
  (∀ (s : State) (n : Fin 4), s.dev.inReset = false → s.dev.stillNow n = true →
    Completes (.stillTimeout n) s fun d => d.flag (F.POSX_CNT_STATUS_STILL n.val) = true ∧ d.rd (R.POSX_CNT_SPEED n.val) = 0 ∧
      Dev.Frame [.regs] (fun a => a = R.POSX_CNT_STATUS n.val || a = R.POSX_CNT_SPEED n.val) s.dev d) ∧
  (∀ (s : State) (src : Fin 6) (mask : Fin 8), s.dev.inReset = false → src.val < 4 →
    s.dev.flagF (F.POSX_CNT_CFG_LINECHK src.val) = true →
    Completes (.lineFault src mask) s fun d =>
      d.fld (F.POSX_CNT_STATUS_LINEFLT src.val) = s.dev.fld (F.POSX_CNT_STATUS_LINEFLT src.val) ||| mask.val ∧
      Dev.Frame (.posx :: noticeParts) (fun a => a = R.POSX_CNT_STATUS src.val || inBlock 19 a) s.dev d) ∧
  (∀ (s : State) (n : Fin 2) (mask : Fin 8), s.dev.inReset = false →
    Completes (.lineFault ⟨4 + n.val, by omega⟩ mask) s fun d =>
      (d.posx.abs[n]).lineBad = true ∧ d.posx = { s.dev.posx with abs := d.posx.abs } ∧
      Dev.Frame (.posx :: noticeParts) (inBlock 19) s.dev d) ∧
  (∀ (s : State) (n : Fin 4) (mask : Fin 8), s.dev.inReset = false →
    Completes (.lineFaultCleared n mask) s fun d =>
      d.fld (F.POSX_CNT_STATUS_LINEFLT n.val) = s.dev.fld (F.POSX_CNT_STATUS_LINEFLT n.val) &&& (7 - mask.val) ∧
      Dev.Frame [.regs] (fun a => a = R.POSX_CNT_STATUS n.val) s.dev d)

/-- A BiSS C frame with a start bit that the present tick awaits on an enabled channel (R53, R57): the channel shows VALID, and hands on a
reading marked valid, exactly when the CRC is right, nE is 1, the start bit came within 40 µs, the frame ended before the window end and
the line has no fault; after any other such frame the interrupt bit is set, CONSEC counts up to 255 and POS keeps its value. When the
window of an awaited frame ends first, TIMEOUT is set, VALID is clear, the interrupt bit is set, CONSEC counts and POS keeps its value. A
Hall state of an enabled triplet that has held for the filter time of FILT µs shows in UVW; a legal one sets SECTOR as the table of R64
gives it (reversed with ORDER), an illegal one sets ILLEGAL and its interrupt bit and leaves SECTOR. A shorter one changes nothing. An
emulated edge leaves the backlog, oldest first, when the one before lies at least 500 ns back (R66). Where these meanings make a choice of
the model, it stands in log entries 14, 61, 128. -/
def Obligations.AbsoluteFramesAndHall : Prop :=
  (∀ (s : State) (n : Fin 2) (fr : AbsFrame) (r : Nat), s.dev.inReset = false → s.dev.flagF (F.POSX_ABS_CFG_EN n.val) = true →
    s.dev.flagF (F.POSX_ABS_CFG_PROTO n.val) = false → (s.dev.posx.abs[n]).await = true → fr.rtd = some r →
    Completes (.absFrameReceived n fr) s fun d =>
      d.flag (F.POSX_ABS_STATUS_VALID n.val) = frameGood s.dev n fr r ∧
      (∃ x, (d.posx.abs[n]).lateR = some x ∧ x.valid = frameGood s.dev n fr r) ∧ (d.posx.abs[n]).await = false ∧
      (frameGood s.dev n fr r = false → d.rd (R.POSX_ABS_POS n.val) = s.dev.rd (R.POSX_ABS_POS n.val) ∧
        bitN (d.rd R.POSX_IRQ).toNat (8 + n.val) = true ∧
        d.fld (F.POSX_ABS_STATUS_CONSEC n.val) = min (s.dev.fld (F.POSX_ABS_STATUS_CONSEC n.val) + 1) 255) ∧
      Dev.Frame (.posx :: noticeParts) (fun a => inBlock 2 a || inBlock 19 a) s.dev d) ∧
  (∀ (s : State) (n : Fin 2), s.dev.inReset = false → s.dev.flagF (F.POSX_ABS_CFG_EN n.val) = true →
    (s.dev.posx.abs[n]).await = true →
    Completes (.absFrameTimeout n) s fun d =>
      d.flag (F.POSX_ABS_STATUS_TIMEOUT n.val) = true ∧ d.flag (F.POSX_ABS_STATUS_VALID n.val) = false ∧
      d.rd (R.POSX_ABS_POS n.val) = s.dev.rd (R.POSX_ABS_POS n.val) ∧ bitN (d.rd R.POSX_IRQ).toNat (8 + n.val) = true ∧
      d.fld (F.POSX_ABS_STATUS_CONSEC n.val) = min (s.dev.fld (F.POSX_ABS_STATUS_CONSEC n.val) + 1) 255 ∧
      Dev.Frame (.posx :: noticeParts) (fun a => inBlock 2 a || inBlock 19 a) s.dev d) ∧
  (∀ (s : State) (h : Fin 2) (uvw : Fin 8) (held off x : Nat), s.dev.inReset = false → s.dev.flagF (F.POSX_HALL_CFG_EN h.val) = true →
    s.dev.fldF (F.POSX_HALL_CFG_FILT h.val) * 400 ≤ held → hallOf uvw.val = some x →
    Completes (.hallSectorChange h uvw ⟨held, off⟩) s fun d => d.fld (F.POSX_HALL_STATE_UVW h.val) = uvw.val ∧
      d.fld (F.POSX_HALL_STATE_SECTOR h.val) = (if s.dev.flagF (F.POSX_HALL_CFG_ORDER h.val) then 5 - x else x) ∧
      Dev.Frame (.now :: .posx :: .cmpl :: noticeParts) (fun a => inBlock 2 a || inBlock 3 a || inBlock 19 a) s.dev d) ∧
  (∀ (s : State) (h : Fin 2) (uvw : Fin 8) (held off : Nat), s.dev.inReset = false →
    held < s.dev.fldF (F.POSX_HALL_CFG_FILT h.val) * 400 → Completes (.hallSectorChange h uvw ⟨held, off⟩) s fun d => d = s.dev) ∧
  (∀ (s : State) (h : Fin 2) (uvw : Fin 8) (held off : Nat), s.dev.inReset = false → s.dev.flagF (F.POSX_HALL_CFG_EN h.val) = true →
    s.dev.fldF (F.POSX_HALL_CFG_FILT h.val) * 400 ≤ held → hallOf uvw.val = none →
    Completes (.hallSectorChange h uvw ⟨held, off⟩) s fun d => d.fld (F.POSX_HALL_STATE_UVW h.val) = uvw.val ∧
      d.fld (F.POSX_HALL_STATE_SECTOR h.val) = s.dev.fld (F.POSX_HALL_STATE_SECTOR h.val) ∧
      d.flag (F.POSX_HALL_STATE_ILLEGAL h.val) = true ∧ bitN (d.rd R.POSX_IRQ).toNat (13 + h.val) = true ∧
      Dev.Frame (.now :: .posx :: noticeParts) (fun a => inBlock 2 a || inBlock 19 a) s.dev d) ∧
  (∀ (s : State) (off : Nat) (fwd : Bool) (rest : List Bool), s.dev.inReset = false →
    s.dev.posx.emu.back = fwd :: rest → (s.dev.posx.emu.lastAt = none ∨ s.dev.posx.emu.lastAt.getD 0 + 200 ≤ max s.dev.now (s.dev.tick * 50000 + min off 49999)) →
    Completes (.emuOutputEdge off) s fun d => d.posx.emu.back = rest ∧
      d.posx.emu.quad = (if fwd then s.dev.posx.emu.quad + 1 else s.dev.posx.emu.quad + 3) % 4 ∧
      d.fld F.POSX_EMU_STATUS_BACKLOG = rest.length % 65536 ∧
      Dev.Frame [.now, .posx, .regs] (fun a => a = R.POSX_EMU_STATUS) s.dev d)

/-- Fusion changes its mode (R61, R62, R63): a seeded fusion enters ABSLOST after eight ticks without an accepted reading, with its offset
as it is, and leaves it after sixteen consistent readings with the offset moved by the last innovation at standstill and by at most
CORRMAX in motion; it enters INCLOST after eight illegal counts or four ticks of line fault, and leaves it at the start of a slow tick
after a clean one, with the next reading to re-seed; after eight misses a seeded fusion shows VALID = 0 and is seeded no more. -/
def Obligations.FusionModeChanges : Prop :=
  (∀ s : State, s.dev.inReset = false → s.dev.posx.fuse.seeded = true → 8 ≤ s.dev.posx.fuse.noAcc →
    s.dev.flag F.POSX_FUSE_STATUS_ABSLOST = false →
    Completes .abslostEntered s fun d => d.flag F.POSX_FUSE_STATUS_ABSLOST = true ∧ d.flag F.POSX_IRQ_ABSLOST = true ∧
      d.posx.fuse.off = s.dev.posx.fuse.off ∧
      Dev.Frame (.posx :: noticeParts) (fun a => a = R.POSX_FUSE_STATUS || a = R.POSX_IRQ || inBlock 19 a) s.dev d) ∧
  (∀ s : State, s.dev.inReset = false → s.dev.flag F.POSX_FUSE_STATUS_ABSLOST = true → 16 ≤ s.dev.posx.fuse.recov.length →
    consistent (1000 * s.dev.fldF F.POSX_FUSE_CFG_REJECT) s.dev.posx.fuse.recov = true →
    Completes .abslostRecovery s fun d => d.flag F.POSX_FUSE_STATUS_ABSLOST = false ∧ d.flag F.POSX_IRQ_ABSLOST = true ∧
      d.posx.fuse.off = s.dev.posx.fuse.off + (if s.dev.flag (F.POSX_CNT_STATUS_STILL 0) then s.dev.posx.fuse.lastE
        else clampI (-(s.dev.fldF F.POSX_FUSE_CFG_CORRMAX : Int)) (s.dev.fldF F.POSX_FUSE_CFG_CORRMAX) s.dev.posx.fuse.lastE) ∧
      Dev.Frame (.posx :: noticeParts) (fun a => a = R.POSX_FUSE_STATUS || a = R.POSX_IRQ || inBlock 19 a) s.dev d) ∧
  (∀ s : State, s.dev.inReset = false → s.dev.flagF F.POSX_FUSE_CFG_EN = true →
    (8 ≤ s.dev.posx.fuse.illSlow ∨ 4 ≤ s.dev.posx.fuse.lineRun) → s.dev.flag F.POSX_FUSE_STATUS_INCLOST = false →
    Completes .inclostEntered s fun d => d.flag F.POSX_FUSE_STATUS_INCLOST = true ∧ d.flag F.POSX_IRQ_INCLOST = true ∧
      Dev.Frame (.posx :: noticeParts) (fun a => a = R.POSX_FUSE_STATUS || a = R.POSX_IRQ || inBlock 19 a) s.dev d) ∧
  (∀ s : State, s.dev.inReset = false → s.dev.tick % 800 = 0 → s.dev.posx.fuse.dirty = false →
    s.dev.flag F.POSX_FUSE_STATUS_INCLOST = true →
    Completes .inclostCleared s fun d => d.flag F.POSX_FUSE_STATUS_INCLOST = false ∧ d.flag F.POSX_IRQ_INCLOST = true ∧
      d.posx.fuse.reseed = true ∧
      Dev.Frame (.posx :: noticeParts) (fun a => a = R.POSX_FUSE_STATUS || a = R.POSX_IRQ || inBlock 19 a) s.dev d) ∧
  (∀ s : State, s.dev.inReset = false → 8 ≤ s.dev.posx.fuse.misses → s.dev.posx.fuse.seeded = true →
    Completes .fusionInvalid s fun d => d.flag F.POSX_FUSE_STATUS_VALID = false ∧ d.posx.fuse.seeded = false ∧
      Dev.Frame [.posx, .regs] (fun a => a = R.POSX_FUSE_STATUS) s.dev d)

/-! ## CMPL and the learning run -/

/-- A latch unit in use by its settings, which takes this edge: not owned by the module, enabled, its source the one named, and the edge
one that EDGE selects (R70). A sector change of a Hall triplet (84, 85) has no polarity (log 123). -/
def Sys2Proof.Machine.latchTakes (s : Dev) (n : Fin 16) (src : Fin 86) (rising : Bool) : Bool :=
  !s.latOwned n.val && s.flagF (F.CMPL_LAT_CFG_EN n.val) && s.fldF (F.CMPL_LAT_CFG_SRC n.val) == src.val &&
    (if 84 ≤ src.val then s.fldF (F.CMPL_LAT_CFG_EDGE n.val) != 0 else bitN (s.fldF (F.CMPL_LAT_CFG_EDGE n.val)) (if rising then 0 else 1))

/-- The registers that show a target of PGEN and its plan: STATUS, TGT, TGTLAND, COMP and VP. -/
def Sys2Proof.Machine.showsTarget (a : Nat) : Bool := a = R.PGEN_STATUS || a = R.PGEN_TGT || a = R.PGEN_TGTLAND || a = R.PGEN_COMP || a = R.PGEN_VP

/-- An edge of a source whose new level has held for the source's filter time is captured by a unit that selects it: the instant of the
raw transition, the count of the selected counter as it stood then, and FULL (R70, R71); units with another source stay as they are. In
single mode an edge while FULL sets OVR and captures nothing (R73). A level that the filter rejects captures nothing. A write of TRIG
captures its own instant where SRC is 127 (R70). The report in a tick whose sample point is later than the capture shows RAW, the time
stamp, POS (saturated), DIR and the unit's bit in LATIRQ, and nothing waits in the unit any more (R72). Where these meanings make a choice
of the model, it stands in log entries 14, 30, 33, 68, 123. -/
def Obligations.LatchCapturesAndReports : Prop :=
  (∀ (s : State) (n : Fin 16) (src : Fin 86) (rising : Bool) (held off : Nat), s.dev.inReset = false → latchTakes s.dev n src rising = true →
    s.dev.srcFilter src.val ≤ held → s.dev.flag (F.CMPL_LAT_STATUS_FULL n.val) = false →
    Completes (.latchCapture src rising ⟨held, off⟩) s fun d =>
      (∃ c, (d.cmpl.lat[n]).pend = some c ∧ c.ns = (d.now - held) * 5 / 2 ∧ c.rising = rising ∧
        c.count = ((s.dev.posx.cnt[Fin.ofNat 4 (s.dev.fldF (F.CMPL_LAT_CFG_CNTSEL n.val))]).markAt (d.now - held)).total) ∧
      d.flag (F.CMPL_LAT_STATUS_FULL n.val) = true ∧
      (∀ m : Fin 16, s.dev.latSrc m.val ≠ src.val → d.cmpl.lat[m] = s.dev.cmpl.lat[m]) ∧
      Dev.Frame (.now :: .cmpl :: noticeParts) (fun a => inBlock 3 a || inBlock 19 a) s.dev d) ∧
  (∀ (s : State) (n : Fin 16) (src : Fin 86) (rising : Bool) (held off : Nat), s.dev.inReset = false → latchTakes s.dev n src rising = true →
    s.dev.srcFilter src.val ≤ held → s.dev.flag (F.CMPL_LAT_STATUS_FULL n.val) = true → s.dev.flagF (F.CMPL_LAT_CFG_MODE n.val) = false →
    Completes (.latchCapture src rising ⟨held, off⟩) s fun d =>
      d.flag (F.CMPL_LAT_STATUS_OVR n.val) = true ∧ d.cmpl.lat[n] = s.dev.cmpl.lat[n] ∧
      Dev.Frame (.now :: .cmpl :: noticeParts) (fun a => inBlock 3 a || inBlock 19 a) s.dev d) ∧
  (∀ (s : State) (src : Fin 86) (rising : Bool) (held off : Nat), s.dev.inReset = false → held < s.dev.srcFilter src.val →
    Completes (.latchCapture src rising ⟨held, off⟩) s fun d => Dev.Frame [.now] (fun _ => false) s.dev d) ∧
  (∀ (s : State) (m : Master) (n : Fin 16) (off : Nat), s.dev.inReset = false → s.dev.mayUse m (R.CMPL_LAT_CTRL n.val) = true →
    s.dev.latOwned n.val = false → s.dev.flagF (F.CMPL_LAT_CFG_EN n.val) = true → s.dev.fldF (F.CMPL_LAT_CFG_SRC n.val) = 127 →
    s.dev.flag (F.CMPL_LAT_STATUS_FULL n.val) = false →
    Completes (.latchSoftwareTrigger m n off) s fun d =>
      (∃ c, (d.cmpl.lat[n]).pend = some c ∧ c.ns = d.ns ∧
        c.count = ((s.dev.posx.cnt[Fin.ofNat 4 (s.dev.fldF (F.CMPL_LAT_CFG_CNTSEL n.val))]).markAt d.now).total) ∧
      d.flag (F.CMPL_LAT_STATUS_FULL n.val) = true ∧
      Dev.Frame [.now, .regs, .cmpl, .bus] (fun a => a = R.CMPL_LAT_STATUS n.val) s.dev d) ∧
  (∀ (s : State) (n : Fin 16) (c : Capture), s.dev.inReset = false → (s.dev.cmpl.lat[n]).pend = some c →
    c.ns < s.dev.tick * 125000 → (n.val < 12 ∨ s.dev.od? 0x2105 5 ≠ 1) →
    Completes (.latchReport n) s fun d =>
      let k := s.dev.latCnt n.val
      let p := s.dev.fldFI (F.POSX_CNT_OFFSET_OFFSET k.val) +
        quo (c.count * s.dev.fldFI (F.POSX_CNT_SCALE_NUM k.val)) (s.dev.fldF (F.POSX_CNT_SCALE_DEN k.val))
      d.rd (R.CMPL_LAT_RAW n.val) = BitVec.ofInt 32 c.count ∧ d.rd (R.CMPL_LAT_TS_LO n.val) = BitVec.ofNat 32 c.ns ∧
      d.rd (R.CMPL_LAT_TS_HI n.val) = BitVec.ofNat 32 (c.ns / 2 ^ 32) ∧
      d.rd (R.CMPL_LAT_POS n.val) = BitVec.ofInt 32 (sat32 (if k = 0 then p + s.dev.posx.fuse.off else p)) ∧
      d.flag (F.CMPL_LAT_STATUS_DIR n.val) = c.dir ∧ bitN (d.rd R.CMPL_LATIRQ).toNat n.val = true ∧ (d.cmpl.lat[n]).pend = none ∧
      Dev.Frame [.now, .regs, .cmpl] (fun a => a = R.CMPL_LAT_RAW n.val || a = R.CMPL_LAT_TS_LO n.val || a = R.CMPL_LAT_TS_HI n.val ||
        a = R.CMPL_LAT_POS n.val || a = R.CMPL_LAT_STATUS n.val || a = R.CMPL_LATIRQ) s.dev d)

/-- The learning run (R78 to R80). Its start and its abort, and the acceptance of a map, are dictionary writes: they are staged, and this
is what their application does to the module as it stands. The run starts with its leg down towards the lower travel limit, in WAIT_START;
an abort discards the run and the candidates with reason 4, and a moving car stops. A leg down that has stopped with its switch captured
is followed by the leg up; a leg up that has stopped so, with every landing found, by the candidates of the map and state 3. An acceptance
that names the candidate's CRC transfers the candidate to Badger and arms it for the reset edge (R265). Where these meanings make a choice
of the model, it stands in log entries 46, 74. -/
def Obligations.LearningRunLegs : Prop :=
  (∀ (s : State) (c : Client), s.dev.inReset = false → (s.dev.writeCheck c 0x2107 1 [1]).1 = 0 → s.dev.learnMay = true →
    s.dev.od? 0x2109 1 ≠ 0xFF → s.dev.od? 0x2109 2 ≠ 0xFF → s.dev.odI 0x2104 1 < s.dev.odI 0x2104 4 →
    CompletesStaged (.learningStart c) s c 0x2107 1 [1] fun d =>
      d.cmpl.learn.leg = 1 ∧ d.cmpl.learn.verify = false ∧ d.cmpl.learn.found = [] ∧ d.pgen.tgt = some (s.dev.odI 0x2104 1) ∧
      d.pgState = 1 ∧ d.pgen.plan = none ∧ d.od? 0x2107 1 = 1 ∧ d.od? 0x2107 3 = 1 ∧ d.od? 0x2107 4 = 0 ∧
      (∀ i j, (i, j) ∉ [(0x2107, 1), (0x2107, 3), (0x2107, 4)] → d.od? i j = s.dev.od? i j) ∧
      Dev.Frame (.cmpl :: .pgen :: .od :: noticeParts) (fun a => showsTarget a || inBlock 19 a) s.dev d) ∧
  (∀ (s : State) (c : Client), s.dev.inReset = false → (s.dev.writeCheck c 0x2107 1 [0]).1 = 0 →
    s.dev.cmpl.learn.leg ≠ 0 → s.dev.cmpl.learn.verify = false →
    CompletesStaged (.learningAbort c) s c 0x2107 1 [0] fun d =>
      d.cmpl.learn = {} ∧ d.cmpl.candOk = false ∧ d.pgen.tgt = none ∧ d.od? 0x2107 1 = 0 ∧ d.od? 0x2107 3 = 4 ∧ d.od? 0x2107 4 = 4 ∧
      d.pgState = (match s.dev.pgState with | 2 => 3 | 1 => 0 | 4 => 0 | n => n) ∧
      Dev.Frame (.cmpl :: .pgen :: .od :: noticeParts) (fun a => showsTarget a || inBlock 19 a) s.dev d) ∧
  (∀ s : State, s.dev.inReset = false → s.dev.cmpl.learn.leg = 1 → s.dev.cmpl.learn.started = true → s.dev.cmpl.learn.bad = false →
    s.dev.cmpl.learn.swLow ≠ none → s.dev.pgState = 0 → s.dev.atRest = true →
    Completes .learningLegEnd s fun d =>
      d.cmpl.learn.leg = 2 ∧ d.cmpl.learn.stopped = false ∧ d.pgen.tgt = some (s.dev.odI 0x2104 4) ∧ d.pgState = 1 ∧
      Dev.Frame (.cmpl :: .pgen :: .od :: noticeParts) (fun a => showsTarget a || inBlock 19 a) s.dev d) ∧
  (∀ s : State, s.dev.inReset = false → s.dev.cmpl.learn.leg = 2 → s.dev.cmpl.learn.started = true → s.dev.cmpl.learn.bad = false →
    s.dev.cmpl.learn.swHigh ≠ none → s.dev.cmpl.learn.verify = false → s.dev.pgState = 0 → s.dev.atRest = true →
    s.dev.cmpl.learn.found.length = s.dev.landings →
    Completes .learningLegEnd s fun d =>
      (∀ i < s.dev.landings, d.od? 0x2103 (i + 1) = w32 (s.dev.cmpl.learn.found.getD i 0)) ∧
      d.cmpl.candOk = true ∧ d.cmpl.learn = {} ∧ d.od? 0x2107 3 = 3 ∧ d.od? 0x2107 4 = 0 ∧
      Dev.Frame (.cmpl :: .od :: noticeParts) (inBlock 19) s.dev d) ∧
  (∀ (s : State) (c : Client) (crc : Word), s.dev.inReset = false → (s.dev.writeCheck c 0x2105 4 (leBytes 4 crc.toNat)).1 = 0 →
    s.dev.cmpl.candOk = true → crc.toNat = s.dev.candCrc →
    CompletesStaged (.mapAccept c crc) s c 0x2105 4 (leBytes 4 crc.toNat) fun d =>
      d.badger = { s.dev.badger with pmap := s.dev.candBytes } ∧ d.cmpl = { s.dev.cmpl with acceptArmed := true } ∧
      d.rd R.XCMP_B_MPCRC = BitVec.ofNat 32 (crc32 s.dev.candBytes) ∧
      Dev.Frame [.badger, .cmpl, .regs] (fun a => a = R.XCMP_B_MPCRC) s.dev d)

/-! ## PGEN -/

/-- The registers in which PGEN answers and shows its target. -/
def Sys2Proof.Machine.pgenShows (a : Nat) : Bool := a = R.PGEN_STATUS || a = R.PGEN_IRQ || a = R.PGEN_TGT || a = R.PGEN_TGTLAND || a = R.PGEN_COMP || a = R.PGEN_VP

/-- PGEN has answered a command: with a code, its tag, and ADOPT or REJECT (R96). -/
def Sys2Proof.Machine.answered (d : Dev) (code tag : Nat) (adopt : Bool) : Bool :=
  d.fld F.PGEN_STATUS_CODE = code && d.fld F.PGEN_STATUS_TAG = tag && (if adopt then d.flag F.PGEN_IRQ_ADOPT else d.flag F.PGEN_IRQ_REJECT)

/-- A GO that no check refuses stores its target (R98): at standstill PGEN waits for its start conditions (R100), and where it stands on
the target itself with both channels in RUN and the plan of no length has ended, the trip ends at once with code 1 (R93, R101); moving
with both channels in RUN it plans to the target from X (R99). A GO that a check refuses answers with that check's code and changes no
target and no plan (R96, R98). STOP in motion plans a controlled stop and keeps the target (R102); CANCEL at standstill discards it;
RESUME and START take X from the fused position at standstill and wait for the start conditions, START also clears SAFESTOP (R102, R103,
R442); MODE changes the motion mode (R90); an unknown OP is rejected with 0x1C (R96). Where these meanings make a choice of the model, it
stands in log entries 2, 30, 33, 47, 124. -/
def Obligations.PgenCommands : Prop :=
  (∀ (s : State) (m : Master) (target : Word) (postgt earliest : Bool) (tag : Fin 256), s.dev.inReset = false →
    s.dev.mayUse m R.PGEN_CMD = true → s.dev.goCheck m target postgt = none → s.dev.atRest = true →
    (s.dev.pgState ∈ [0, 1, 4] ∨ (s.dev.pgState = 5 ∧ s.dev.pgen.relWait = true)) → s.dev.sout.ttStep = 0 →
    (s.dev.bothRun = false ∨ (if postgt then target.toInt else s.dev.landTarget target.toNat) ≠ s.dev.rdI R.POSX_FUSE_POS) →
    Completes (.pgenGo m target postgt earliest tag) s fun d =>
      d.pgen.tgt = some (if postgt then target.toInt else s.dev.landTarget target.toNat) ∧ d.pgState = 1 ∧ d.pgen.plan = none ∧
      d.pgen.since = s.dev.now ∧ answered d 0 tag.val true ∧ d.flag F.PGEN_STATUS_KEPT = true ∧ d.flag F.PGEN_STATUS_SAFESTOP = false ∧
      Dev.Frame [.pgen, .regs] pgenShows s.dev d) ∧
  (∀ (s : State) (m : Master) (target : Word) (postgt earliest : Bool) (tag : Fin 256), s.dev.inReset = false →
    s.dev.mayUse m R.PGEN_CMD = true → s.dev.goCheck m target postgt = none →
    s.dev.goAhead (if postgt then target.toInt else s.dev.landTarget target.toNat) = none → s.dev.pgState = 2 →
    s.dev.bothRun = true → s.dev.sout.ttStep = 0 →
    Completes (.pgenGo m target postgt earliest tag) s fun d =>
      let x := if postgt then target.toInt else s.dev.landTarget target.toNat
      d.pgen.tgt = some x ∧ d.pgState = 2 ∧ d.flag F.PGEN_STATUS_KEPT = true ∧ d.flag F.PGEN_STATUS_SAFESTOP = false ∧
      d.pgen.plan = some (makePlan s.dev.limits s.dev.passenger s.dev.pgen.xTick s.dev.pgen.p s.dev.pgen.v s.dev.pgen.a x) ∧
      answered d 0 tag.val true ∧ Dev.Frame [.pgen, .regs] pgenShows s.dev d) ∧
  (∀ (s : State) (m : Master) (target : Word) (postgt earliest : Bool) (tag : Fin 256), s.dev.inReset = false →
    s.dev.mayUse m R.PGEN_CMD = true → s.dev.goCheck m target postgt = none → s.dev.atRest = true → s.dev.pgState ∈ [0, 1, 4] →
    s.dev.sout.ttStep = 0 → s.dev.bothRun = true →
    (if postgt then target.toInt else s.dev.landTarget target.toNat) = s.dev.rdI R.POSX_FUSE_POS →
    (makePlan s.dev.limits s.dev.passenger s.dev.tick (metres (s.dev.rdI R.POSX_FUSE_POS)) ⟨0, 0⟩ ⟨0, 0⟩
      (s.dev.rdI R.POSX_FUSE_POS)).ended s.dev.tick = true →
    Completes (.pgenGo m target postgt earliest tag) s fun d =>
      d.pgState = 0 ∧ d.pgen.tgt = none ∧ d.pgen.plan = none ∧ d.flag F.PGEN_STATUS_KEPT = false ∧
      d.flag F.PGEN_STATUS_SAFESTOP = false ∧ answered d 1 tag.val true ∧ d.flag F.PGEN_IRQ_ARRIVED = true ∧
      Dev.Frame (.pgen :: .nv :: noticeParts) (fun a => pgenShows a || inBlock 19 a) s.dev d) ∧
  (∀ (s : State) (m : Master) (target : Word) (postgt earliest : Bool) (tag : Fin 256) (c : Nat), s.dev.inReset = false →
    s.dev.mayUse m R.PGEN_CMD = true → s.dev.goCheck m target postgt = some c →
    Completes (.pgenGo m target postgt earliest tag) s fun d =>
      answered d c tag.val false ∧ Dev.Frame noticeParts (fun a => a = R.PGEN_STATUS || a = R.PGEN_IRQ || inBlock 19 a) s.dev d) ∧
  (∀ (s : State) (m : Master) (tag : Fin 256), s.dev.inReset = false → s.dev.mayUse m R.PGEN_CMD = true → s.dev.quarBars m = false →
    (s.dev.pgState = 2 ∨ (s.dev.pgState = 5 ∧ s.dev.pgen.relWait = false)) →
    Completes (.pgenStop m tag) s fun d => answered d 0 tag.val true ∧ d.pgState = 3 ∧
      d.pgen = { s.dev.pgen with
        plan := some (stopPlan s.dev.limits s.dev.pgen.xTick s.dev.pgen.p s.dev.pgen.v s.dev.pgen.a), stopKind := 0 } ∧
      Dev.Frame [.pgen, .regs] (fun a => a = R.PGEN_STATUS || a = R.PGEN_IRQ || a = R.PGEN_VP) s.dev d) ∧
  (∀ (s : State) (m : Master) (tag : Fin 256), s.dev.inReset = false → s.dev.mayUse m R.PGEN_CMD = true → s.dev.quarBars m = false →
    (s.dev.pgState ∈ [0, 1, 4] ∨ (s.dev.pgState = 5 ∧ s.dev.pgen.relWait = true)) →
    Completes (.pgenCancel m tag) s fun d => answered d 0 tag.val true ∧ d.pgState = 0 ∧ d.pgen.tgt = none ∧ d.pgen.plan = none ∧
      d.flag F.PGEN_STATUS_KEPT = false ∧
      Dev.Frame [.pgen, .regs] (fun a => a = R.PGEN_STATUS || a = R.PGEN_IRQ || a = R.PGEN_TGTLAND) s.dev d) ∧
  (∀ (s : State) (m : Master) (tag : Fin 256), s.dev.inReset = false → s.dev.mayUse m R.PGEN_CMD = true →
    s.dev.resumeCheck m false = none → s.dev.sout.ttStep = 0 →
    Completes (.pgenResume m tag) s fun d => answered d 0 tag.val true ∧ d.pgState = 1 ∧ d.pgen.tgt = s.dev.pgen.tgt ∧
      d.pgen.p = metres (s.dev.rdI R.POSX_FUSE_POS) ∧ d.pgen.v = ⟨0, 0⟩ ∧ d.pgen.a = ⟨0, 0⟩ ∧
      Dev.Frame [.pgen, .regs] (fun a => a = R.PGEN_STATUS || a = R.PGEN_IRQ) s.dev d) ∧
  (∀ (s : State) (m : Master) (tag : Fin 256), s.dev.inReset = false → s.dev.mayUse m R.PGEN_CMD = true →
    s.dev.resumeCheck m true = none → s.dev.sout.ttStep = 0 →
    Completes (.pgenStart m tag) s fun d => answered d 0 tag.val true ∧ d.pgState = 1 ∧ d.pgen.tgt = s.dev.pgen.tgt ∧
      d.flag F.PGEN_STATUS_SAFESTOP = false ∧ d.pgen.p = metres (s.dev.rdI R.POSX_FUSE_POS) ∧
      Dev.Frame [.pgen, .regs] (fun a => a = R.PGEN_STATUS || a = R.PGEN_IRQ) s.dev d) ∧
  (∀ (s : State) (m : Master) (code : Word) (tag : Fin 256), s.dev.inReset = false → s.dev.mayUse m R.PGEN_CMD = true →
    s.dev.quarBars m = false → s.dev.pgState ∈ [0, 4] → code.toNat ≤ 3 ∨ (code.toNat = 4 ∧ s.dev.carEmpty = true ∧ s.dev.doorsShut = true) →
    Completes (.pgenMode m code tag) s fun d => answered d 0 tag.val true ∧ d.fld F.PGEN_STATUS_MODE = code.toNat ∧
      d.pgState = s.dev.pgState ∧ Dev.Frame [.regs] (fun a => a = R.PGEN_STATUS || a = R.PGEN_IRQ) s.dev d) ∧
  (∀ (s : State) (m : Master) (op : Fin 16) (tag : Fin 256), s.dev.inReset = false → s.dev.mayUse m R.PGEN_CMD = true →
    s.dev.quarBars m = false → op.val ∉ [1, 2, 3, 4, 5, 6] →
    Completes (.pgenUnknownOp m op tag) s fun d => answered d 0x1C tag.val false ∧
      Dev.Frame noticeParts (fun a => a = R.PGEN_STATUS || a = R.PGEN_IRQ || inBlock 19 a) s.dev d)

/-- A trip (R100, R101, R102): in the first tick in which every start condition holds PGEN plans from the fused position at standstill to
the kept target; where the window ends first, it is held (idle where no target is kept) with code 0x20; when the plan ends at the target
it is idle with code 1 and no target kept; when a planned stop ends it is held, or idle where no target is kept. Where these meanings make
a choice of the model, it stands in log entries 124, 129. -/
def Obligations.TripStartsAndEnds : Prop :=
  (∀ (s : State) (t : Int), s.dev.inReset = false → s.dev.pgState = 1 → s.dev.missing = 0 →
    s.dev.flag F.POSX_FUSE_STATUS_STALE = false → s.dev.pgen.tgt = some t →
    Completes .tripStart s fun d =>
      let x := s.dev.rdI R.POSX_FUSE_POS
      d.pgState = 2 ∧ d.pgen.tgt = some t ∧ d.pgen.startTick = s.dev.tick ∧ d.pgen.startPos = x ∧
      d.pgen.p = metres x ∧ d.pgen.v = ⟨0, 0⟩ ∧ d.pgen.a = ⟨0, 0⟩ ∧
      (∃ pl, d.pgen.plan = some pl ∧ pl.target = t ∧ pl.t0 = s.dev.tick ∧ pl.p = metres x) ∧
      Dev.Frame (.pgen :: .nv :: noticeParts) (fun a => a = R.PGEN_STATUS || a = R.PGEN_VP || inBlock 19 a) s.dev d) ∧
  (∀ s : State, s.dev.inReset = false → s.dev.pgWaits = true → s.dev.missing ≠ 0 →
    s.dev.pgen.since + s.dev.od? 0x2200 4 * 400000 ≤ s.dev.now →
    Completes .startTimeout s fun d =>
      d.fld F.PGEN_STATUS_CODE = 0x20 ∧ d.pgState = (if s.dev.pgen.tgt.isSome then 4 else 0) ∧
      (s.dev.pgen.tgt.isSome → d.flag F.PGEN_IRQ_STOPPED = true) ∧ d.pgen = { s.dev.pgen with relWait := false } ∧
      Dev.Frame (.pgen :: noticeParts) (fun a => a = R.PGEN_STATUS || a = R.PGEN_IRQ || inBlock 19 a) s.dev d) ∧
  (∀ (s : State) (pl : Plan), s.dev.inReset = false → (s.dev.pgState = 2 ∨ (s.dev.pgState = 5 ∧ s.dev.pgen.relWait = false)) →
    s.dev.pgen.plan = some pl → pl.ended s.dev.tick = true →
    Completes .tripArrival s fun d =>
      d.pgState = 0 ∧ d.pgen.plan = none ∧ d.pgen.tgt = none ∧ d.pgen.p = pl.endP ∧ d.pgen.v = ⟨0, 0⟩ ∧
      d.flag F.PGEN_STATUS_KEPT = false ∧ d.fld F.PGEN_STATUS_CODE = 1 ∧ d.flag F.PGEN_IRQ_ARRIVED = true ∧
      Dev.Frame (.pgen :: .nv :: noticeParts) (fun a => a = R.PGEN_STATUS || a = R.PGEN_IRQ || inBlock 19 a) s.dev d) ∧
  (∀ (s : State) (pl : Plan), s.dev.inReset = false → s.dev.pgState = 3 → s.dev.pgen.plan = some pl → pl.ended s.dev.tick = true →
    Completes .stopComplete s fun d =>
      d.pgState = (if s.dev.pgen.tgt.isSome then 4 else 0) ∧ d.pgen.plan = none ∧ d.pgen.tgt = s.dev.pgen.tgt ∧
      d.pgen.p = pl.endP ∧ d.pgen.v = ⟨0, 0⟩ ∧ d.pgen.a = ⟨0, 0⟩ ∧ (s.dev.pgen.tgt.isSome → d.flag F.PGEN_IRQ_STOPPED = true) ∧
      Dev.Frame (.pgen :: noticeParts) (fun a => a = R.PGEN_STATUS || a = R.PGEN_IRQ || inBlock 19 a) s.dev d)

/-- Re-levelling starts when the car has stood beyond the threshold throughout the delay with a door open (R106). A drive status that
stays out stops PGEN at the fused position, with code 0x21 and DRIVELOST (R108). The reference staged in the tick before goes out as TPDO
9 on CANX[1] in a tick that is a multiple of the period (R107, R320). -/
def Obligations.RelevelAndDrive : Prop :=
  (∀ (s : State) (t0 : Nat) (t : Int), s.dev.inReset = false → s.dev.pgen.relSince = some t0 → s.dev.pgen.levTgt = some t →
    s.dev.pgen.levLand.isSome = true → s.dev.od? 0x2202 5 = 1 → s.dev.pgState = 0 → s.dev.doorOpen = true → s.dev.par 0x2704 3 ≠ 0 →
    (s.dev.od? 0x2202 2 : Int) < |s.dev.rdI R.POSX_FUSE_POS - t| → t0 + s.dev.od? 0x2202 3 * 400000 ≤ s.dev.now →
    Completes .relevelStart s fun d =>
      d.pgState = 5 ∧ d.pgen = { s.dev.pgen with
        relSince := none, relWait := true, tgt := some t, land := s.dev.pgen.levLand, since := s.dev.now, driveAt := s.dev.now } ∧
      d.flag F.PGEN_STATUS_KEPT = true ∧
      Dev.Frame (.pgen :: noticeParts) (fun a => a = R.PGEN_STATUS || a = R.PGEN_TGT || a = R.PGEN_TGTLAND || inBlock 19 a) s.dev d) ∧
  (∀ s : State, s.dev.inReset = false → (s.dev.pgWaits = true ∨ s.dev.driveEnabled = true) → s.dev.pgen.reqDrive = false →
    s.dev.pgen.driveAt + s.dev.od? 0x2210 7 * 400000 ≤ s.dev.now →
    Completes .driveStatusTimeout s fun d =>
      d.fld F.PGEN_STATUS_CODE = 0x21 ∧ d.flag F.PGEN_IRQ_DRIVELOST = true ∧
      d.pgState = (if s.dev.pgState = 0 ∨ s.dev.pgState = 4 then s.dev.pgState else if s.dev.pgen.tgt.isSome then 4 else 0) ∧
      d.pgen.reqDrive = true ∧ d.pgen.plan = none ∧ d.pgen.tgt = s.dev.pgen.tgt ∧ d.pgen.p = metres (s.dev.rdI R.POSX_FUSE_POS) ∧
      d.pgen.v = ⟨0, 0⟩ ∧ d.pgen.a = ⟨0, 0⟩ ∧
      Dev.Frame (.pgen :: noticeParts) (fun a => a = R.PGEN_STATUS || a = R.PGEN_IRQ || inBlock 19 a) s.dev d) ∧
  (∀ s : State, s.dev.inReset = false → s.dev.od? 0x2210 6 = 0 → s.dev.tick % s.dev.od? 0x2210 5 = 0 →
    s.dev.fld (F.CANX_CFG_MODE 1) ≠ 0 → s.dev.fld (F.CANX_STATUS_NMT 1) = 2 → s.dev.flag (F.CANX_STATUS_BUSOFF 1) = false →
    Completes .driveReferenceRelease s fun d =>
      (d.can[1]).out = some ⟨s.dev.od? 0x1808 1 % 2048, leBytes 4 s.dev.pgen.staged[0] ++
          (if s.dev.fld (F.CANX_CFG_MODE 1) = 1 then leBytes 4 s.dev.pgen.staged[1] else []) ++
          leBytes 2 s.dev.pgen.staged[2] ++ leBytes 2 s.dev.pgen.staged[3]⟩ ∧
      d.can[0] = s.dev.can[0] ∧ Dev.Frame [.can] (fun _ => false) s.dev d)

/-! ## CENG -/

/-- The escalations of a slot: consecutive overruns request STOP_CONTROLLED from the second on for SLOT[0] and STOP_IMMEDIATE from the
eighth on for SLOT[0] to SLOT[2], where the driver enable of a door slot falls (R131, R145); at a run of the slot with its following error
above the limit throughout the window, the window trips once: FEWARN, or FESTOP with STOP_CONTROLLED requested (R128). A write to
SLOT[n].CFG that keeps every tick of the schedule within the budget of phase 4 and PHASE below DIV, and enables no slot whose bank in
force has crossed limits, is stored; one that would enable SLOT[0] to SLOT[2] beyond the budget is refused with CFGERR (R116, R126). A
write to BANKSEL stores the wanted banks (R126). The wanted swap takes place at the slot's run, and is refused with CFGERR, BANKSEL
returning to BANKACT, where the other bank's limits cross, shown for a disabled slot (R126, R127). Where these meanings make a choice of
the model, it stands in log entries 33, 65. -/
def Obligations.LoopSlots : Prop :=
  (∀ s : State, s.dev.inReset = false → 2 ≤ s.dev.fld (F.CENG_SLOT_OVR_CONSEC 0) → s.dev.fld (F.CENG_SLOT_OVR_CONSEC 0) < 8 →
    (s.dev.ceng.slot[0]).reqC = false →
    Completes (.overrunStopRequest 0) s fun d =>
      (d.ceng.slot[0]).reqC = true ∧ d.flag F.CENG_STATUS_STOPREQ_C = true ∧
      (s.dev.flag F.CENG_STATUS_STOPREQ_C = false → d.flag F.CENG_IRQ_STOPREQ = true) ∧
      Dev.Frame (.ceng :: noticeParts) (fun a => a = R.CENG_STATUS || a = R.CENG_IRQ || inBlock 19 a) s.dev d) ∧
  (∀ s : State, s.dev.inReset = false → 8 ≤ s.dev.fld (F.CENG_SLOT_OVR_CONSEC 0) → (s.dev.ceng.slot[0]).reqI = false →
    Completes (.overrunStopRequest 0) s fun d =>
      (d.ceng.slot[0]).reqC = true ∧ (d.ceng.slot[0]).reqI = true ∧ d.flag F.CENG_STATUS_STOPREQ_C = true ∧
      d.flag F.CENG_STATUS_STOPREQ_I = true ∧
      (s.dev.flag F.CENG_STATUS_STOPREQ_I = false → d.flag F.CENG_IRQ_STOPREQ = true) ∧
      Dev.Frame (.ceng :: noticeParts) (fun a => a = R.CENG_STATUS || a = R.CENG_IRQ || inBlock 19 a) s.dev d) ∧
  (∀ (s : State) (k : Fin 2), s.dev.inReset = false → 8 ≤ s.dev.fld (F.CENG_SLOT_OVR_CONSEC (1 + k.val)) →
    (s.dev.ceng.slot[(⟨1 + k.val, by omega⟩ : Fin 16)]).reqI = false →
    Completes (.overrunStopRequest ⟨1 + k.val, by omega⟩) s fun d =>
      (d.ceng.slot[(⟨1 + k.val, by omega⟩ : Fin 16)]).reqI = true ∧ d.flag F.CENG_STATUS_STOPREQ_I = true ∧
      d.flag (F.DOOR_STATUS_DRVEN k.val) = false ∧
      Dev.Frame (.ceng :: .doors :: .motion :: noticeParts)
        (fun a => a = R.CENG_STATUS || a = R.CENG_IRQ || inBlock (6 + k.val) a || inBlock 19 a) s.dev d) ∧
  (∀ (s : State) (n : Fin 16) (t0 : Nat), s.dev.inReset = false → (s.dev.ceng.slot[n]).feW = some t0 →
    s.dev.flagF (F.CENG_SLOT_CFG_FEEN n.val) = true → s.dev.flag (F.CENG_SLOT_STATUS_RAN n.val) = true →
    (s.dev.ceng.slot[n]).tripW = false → t0 + s.dev.fldF (F.CENG_SLOT_FE_TIME_WARN n.val) * 400000 ≤ s.dev.tick * 50000 →
    Completes (.followingErrorWarn n) s fun d =>
      d.flag (F.CENG_SLOT_STATUS_FEWARN n.val) = true ∧ d.flag F.CENG_IRQ_FEWARN = true ∧
      d.ceng.slot = s.dev.ceng.slot.set n { s.dev.ceng.slot[n] with tripW := true } ∧
      Dev.Frame (.ceng :: noticeParts) (fun a => a = R.CENG_SLOT_STATUS n.val || a = R.CENG_IRQ || inBlock 19 a) s.dev d) ∧
  (∀ (s : State) (n : Fin 16) (t0 : Nat), s.dev.inReset = false → (s.dev.ceng.slot[n]).feS = some t0 →
    s.dev.flagF (F.CENG_SLOT_CFG_FEEN n.val) = true → s.dev.flag (F.CENG_SLOT_STATUS_RAN n.val) = true →
    (s.dev.ceng.slot[n]).tripS = false → t0 + s.dev.fldF (F.CENG_SLOT_FE_TIME_STOP n.val) * 400000 ≤ s.dev.tick * 50000 →
    Completes (.followingErrorStop n) s fun d =>
      d.flag (F.CENG_SLOT_STATUS_FESTOP n.val) = true ∧ d.flag F.CENG_IRQ_FESTOP = true ∧ (d.ceng.slot[n]).reqFe = true ∧
      (d.ceng.slot[n]).tripS = true ∧ d.flag F.CENG_STATUS_STOPREQ_C = true ∧
      Dev.Frame (.ceng :: noticeParts)
        (fun a => a = R.CENG_SLOT_STATUS n.val || a = R.CENG_STATUS || a = R.CENG_IRQ || inBlock 19 a) s.dev d) ∧
  (∀ (s : State) (m : Master) (n : Fin 16) (val : Word), s.dev.inReset = false → s.dev.mayUse m (R.CENG_SLOT_CFG n.val) = true →
    (let w := s.dev.cfgWritten n.val val
     worstLoad (fun k => if k = n.val then w else s.dev.rd (R.CENG_SLOT_CFG k)) ≤ 24000 ∧
     (n.val ≤ 2 ∨ w.toNat / 2 ^ 19 % 64 < 2 ^ (w.toNat / 2 ^ 25 % 8)) ∧
     (cfgEn w = true → cfgEn (s.dev.rd (R.CENG_SLOT_CFG n.val)) = false → s.dev.bankBad n.val (s.dev.bankAct n.val) = false)) →
    Completes (.slotCfgWrite m n val) s fun d =>
      d.rd (R.CENG_SLOT_CFG n.val) = s.dev.cfgWritten n.val val ∧ d.bus[m] = { data := [], err := false } ∧
      Dev.Frame [.regs, .bus] (fun a => a = R.CENG_SLOT_CFG n.val) s.dev d) ∧
  (∀ (s : State) (m : Master) (n : Fin 16) (val : Word), s.dev.inReset = false → s.dev.mayUse m (R.CENG_SLOT_CFG n.val) = true →
    cfgEn val = true → cfgEn (s.dev.rd (R.CENG_SLOT_CFG n.val)) = false → n.val ≤ 2 →
    24000 < worstLoad (fun k => if k = n.val then s.dev.cfgWritten n.val val else s.dev.rd (R.CENG_SLOT_CFG k)) →
    Completes (.slotCfgWrite m n val) s fun d =>
      d.rd (R.CENG_SLOT_CFG n.val) = s.dev.rd (R.CENG_SLOT_CFG n.val) ∧ d.flag F.CENG_STATUS_CFGERR = true ∧ d.flag F.CENG_IRQ_CFGERR = true ∧
      Dev.Frame (.bus :: noticeParts) (fun a => a = R.CENG_STATUS || a = R.CENG_IRQ || inBlock 19 a) s.dev d) ∧
  (∀ (s : State) (m : Master) (val : Word), s.dev.inReset = false → s.dev.mayUse m R.CENG_BANKSEL = true →
    Completes (.bankselWrite m val) s fun d =>
      (∀ i < 16, (d.rd R.CENG_BANKSEL).getLsbD i = val.getLsbD i) ∧
      Dev.Frame [.regs, .bus] (fun a => a = R.CENG_BANKSEL) s.dev d) ∧
  (∀ (s : State) (n : Fin 16), s.dev.inReset = false → s.dev.swapWanted n.val = true →
    s.dev.flag (F.CENG_SLOT_STATUS_RAN n.val) = false → (s.dev.ceng.slot[n]).held = false → cfgEn (s.dev.rdF (R.CENG_SLOT_CFG n.val)) = true →
    slotDueIn n.val (s.dev.rdF (R.CENG_SLOT_CFG n.val)) (s.dev.tick % 64) = true → s.dev.missed 4 = false →
    (s.dev.slotInputs n).isSome = true → s.dev.bankBad n.val (1 - s.dev.bankAct n.val) = false →
    Completes (.bankSwap n) s fun d =>
      (∀ i < 16, bitN (d.rd R.CENG_BANKACT).toNat i =
        if i = n.val then bitN (s.dev.rd R.CENG_BANKSEL).toNat i else bitN (s.dev.rd R.CENG_BANKACT).toNat i) ∧
      d.flag (F.CENG_SLOT_STATUS_RAN n.val) = true ∧
      Dev.Frame (.ceng :: .doors :: noticeParts) (fun a => inBlock 5 a || inBlock 6 a || inBlock 7 a || inBlock 19 a) s.dev d) ∧
  (∀ (s : State) (n : Fin 16), s.dev.inReset = false → s.dev.swapWanted n.val = true →
    s.dev.flag (F.CENG_SLOT_STATUS_RAN n.val) = false → (s.dev.ceng.slot[n]).held = false → cfgEn (s.dev.rdF (R.CENG_SLOT_CFG n.val)) = false →
    s.dev.bankBad n.val (1 - s.dev.bankAct n.val) = true →
    Completes (.bankSwap n) s fun d =>
      d.rd R.CENG_BANKACT = s.dev.rd R.CENG_BANKACT ∧ d.flag F.CENG_STATUS_CFGERR = true ∧
      bitN (d.rd R.CENG_BANKSEL).toNat n.val = bitN (s.dev.rd R.CENG_BANKACT).toNat n.val ∧
      Dev.Frame (.ceng :: .doors :: noticeParts) (fun a => inBlock 5 a || inBlock 6 a || inBlock 7 a || inBlock 19 a) s.dev d)

/-! ## The door units -/

/-- No fault in a carrier sample: no overcurrent, the link voltage within its limits (R146). -/
def Sys2Proof.Machine.sampleFine (s : Dev) (k : Fin 2) (adc : CarrierAdc) : Bool :=
  s.currentFine k { c := 0, adc := adc } && !s.vdcLow k { c := 0, adc := adc } && !s.vdcHigh k { c := 0, adc := adc }

/-- The door unit answers a command with a code and its tag (R161). -/
def Sys2Proof.Machine.doorSays (d : Dev) (k : Fin 2) (code tag : Nat) : Bool := d.fld (F.DOOR_MSTAT_CODE k.val) = code && d.fld (F.DOOR_MSTAT_TAG k.val) = tag

/-- It moves to a target, in the state OPENING or CLOSING, with NUDGE as commanded and nothing kept (R160). -/
def Sys2Proof.Machine.doorMoves (d : Dev) (k : Fin 2) (x : Int) (opening nudge : Bool) : Bool :=
  (d.motion[k]).tgt = some x && d.mState k = (if opening then 3 else 4) && d.flag (F.DOOR_MSTAT_NUDGE k.val) = nudge &&
    d.flag (F.DOOR_MSTAT_KEPT k.val) = false

/-- A target lies above the reference, which is taken at the end of the stroke where it lies beyond it (R159, R161). -/
def Sys2Proof.Machine.doorAbove (s : Dev) (k : Fin 2) (x : Int) : Bool := decide (clampI 0 (s.stroke k) (s.motion[k]).xr < x)

/-- A carrier period takes its sample and drives the gates (R136, R137): with the driver off every gate is low, and with the driver on and
a sample without fault the first period after the driver's enabling charges the bootstrap capacitors through the low gates, and every
later one gives each phase a high and a low on-time, none of them shorter than the minimum, with twice the dead time between them where
both conduct. Where these meanings make a choice of the model, it stands in log entry 14. -/
def Obligations.CarrierPeriodGates : Prop :=
  (∀ (s : State) (k : Fin 2) (adc : CarrierAdc), s.dev.inReset = false → s.dev.flag (F.DOOR_STATUS_DRVEN k.val) = false →
    s.dev.flag (F.DOOR_CTRL_EN k.val) = false → (s.dev.doors[k]).ovShort = false →
    Completes (.carrierPeriodStart k adc) s fun d =>
      (∃ x, (d.doors[k]).last = some x ∧ x.adc = adc) ∧
      (∀ x : Fin 3, (d.doors[k]).gateHi[x] = 0 ∧ (d.doors[k]).gateLo[x] = 0) ∧
      Dev.Frame (.now :: .doors :: noticeParts) (fun a => inBlock (6 + k.val) a || inBlock 19 a) s.dev d) ∧
  (∀ (s : State) (k : Fin 2) (adc : CarrierAdc), s.dev.inReset = false → s.dev.flag (F.DOOR_STATUS_DRVEN k.val) = true →
    (s.dev.doors[k]).ovShort = false → sampleFine s.dev k adc = true → (s.dev.doors[k]).boot = true →
    Completes (.carrierPeriodStart k adc) s fun d =>
      (d.doors[k]).boot = false ∧ (∀ x : Fin 3, (d.doors[k]).gateHi[x] = 0 ∧
        (d.doors[k]).gateLo[x] = s.dev.fldF (F.DOOR_CARR_PERIOD k.val) - s.dev.fldF (F.DOOR_DEAD_DEADT k.val)) ∧
      Dev.Frame (.now :: .doors :: noticeParts) (fun a => inBlock (6 + k.val) a || inBlock 19 a) s.dev d) ∧
  (∀ (s : State) (k : Fin 2) (adc : CarrierAdc), s.dev.inReset = false → s.dev.flag (F.DOOR_STATUS_DRVEN k.val) = true →
    (s.dev.doors[k]).ovShort = false → sampleFine s.dev k adc = true → (s.dev.doors[k]).boot = false →
    Completes (.carrierPeriodStart k adc) s fun d =>
      (∃ x, (d.doors[k]).last = some x ∧ x.adc = adc) ∧
      (∀ x : Fin 3,
        let hi := (d.doors[k]).gateHi[x]
        let lo := (d.doors[k]).gateLo[x]
        (hi = 0 ∨ s.dev.fldF (F.DOOR_DEAD_MINP k.val) ≤ hi) ∧ (lo = 0 ∨ s.dev.fldF (F.DOOR_DEAD_MINP k.val) ≤ lo) ∧
        (hi ≠ 0 → lo ≠ 0 → hi + lo + 2 * s.dev.fldF (F.DOOR_DEAD_DEADT k.val) = s.dev.fldF (F.DOOR_CARR_PERIOD k.val))) ∧
      Dev.Frame (.now :: .doors :: noticeParts) (fun a => inBlock (6 + k.val) a || inBlock 19 a) s.dev d)

/-- A bridge fault latches, clears EN, and the driver enable falls (R145, R146); a write of 1 clears it only while the input is inactive.
Alignment starts with the driver enabled, runs its two steps of 300 ms and sets ANGOFS where the rotor has followed (R152). Where these
meanings make a choice of the model, it stands in log entries 30, 33, 70, 71. -/
def Obligations.BridgeFaultAndAlignment : Prop :=
  (∀ (s : State) (k : Fin 2), s.dev.inReset = false → s.dev.flag (F.DOOR_STATUS_BRFLT k.val) = false →
    Completes (.bridgeFault k) s fun d =>
      d.flag (F.DOOR_STATUS_BRFLT k.val) = true ∧ bitN (d.rd (R.DOOR_IRQ k.val)).toNat 1 = true ∧
      d.flag (F.DOOR_CTRL_EN k.val) = false ∧ d.flag (F.DOOR_STATUS_DRVEN k.val) = false ∧ (d.doors[k]).bflt = true ∧
      Dev.Frame (.doors :: .motion :: noticeParts) (fun a => inBlock (6 + k.val) a || inBlock 19 a) s.dev d) ∧
  (∀ (s : State) (m : Master) (k : Fin 2) (val : Word) (bflt : Bool), s.dev.inReset = false → s.dev.mayUse m (R.DOOR_STATUS k.val) = true →
    Completes (.doorFaultClear m k val bflt) s fun d =>
      d.flag (F.DOOR_STATUS_BRFLT k.val) = (s.dev.flag (F.DOOR_STATUS_BRFLT k.val) && !(bitN val.toNat 1 && !bflt)) ∧
      (d.doors[k]).bflt = bflt ∧ d.bus[m] = { data := [], err := false } ∧
      Dev.Frame (.doors :: .motion :: .bus :: noticeParts) (fun a => inBlock (6 + k.val) a || inBlock 19 a) s.dev d) ∧
  (∀ (s : State) (m : Master) (k : Fin 2), s.dev.inReset = false → s.dev.mayUse m (R.DOOR_CTRL k.val) = true → s.dev.quarBars m = false →
    s.dev.flag (F.DOOR_STATUS_DRVEN k.val) = true → (s.dev.doors[k]).alStep = 0 →
    Completes (.doorAlign m k) s fun d =>
      (d.doors[k]).alStep = 1 ∧ (d.doors[k]).alAt = s.dev.now ∧ d.flag (F.DOOR_STATUS_ALIGNBUSY k.val) = true ∧
      d.flag (F.DOOR_STATUS_POSVALID k.val) = false ∧ Dev.Frame [.doors, .regs, .bus] (fun a => a = R.DOOR_STATUS k.val) s.dev d) ∧
  (∀ (s : State) (k : Fin 2), s.dev.inReset = false → (s.dev.doors[k]).alStep = 1 → (s.dev.doors[k]).alAt + 120000000 ≤ s.dev.now →
    Completes (.alignStepEnd k) s fun d =>
      (d.doors[k]).alStep = 2 ∧ (d.doors[k]).alAt = s.dev.now ∧ (d.doors[k]).alPos = s.dev.encPos k ∧
      Dev.Frame [.doors] (fun _ => false) s.dev d) ∧
  (∀ (s : State) (k : Fin 2), s.dev.inReset = false → (s.dev.doors[k]).alStep = 2 → (s.dev.doors[k]).alAt + 120000000 ≤ s.dev.now →
    Completes (.alignStepEnd k) s fun d =>
      let good := |s.dev.motEPM k * (s.dev.encPos k - (s.dev.doors[k]).alPos) + 0x4000 * 65536| ≤ 0x1000 * 65536
      (d.doors[k]).alStep = 0 ∧ d.flag (F.DOOR_STATUS_ALIGNBUSY k.val) = false ∧ d.flag (F.DOOR_IRQ_ALIGNDONE k.val) = true ∧
      (good → d.flag (F.DOOR_STATUS_ALIGNED k.val) = true ∧
        (d.fld (F.DOOR_ANGOFS_ANG k.val) : Int) = (-(ndiv (s.dev.motEPM k * s.dev.encPos k) 65536)) % 65536) ∧
      (¬ good → d.rd (R.DOOR_ANGOFS k.val) = s.dev.rd (R.DOOR_ANGOFS k.val)) ∧
      Dev.Frame (.doors :: noticeParts)
        (fun a => a = R.DOOR_STATUS k.val || a = R.DOOR_ANGOFS k.val || a = R.DOOR_IRQ k.val || inBlock 19 a) s.dev d)

/-- A door command that no check refuses moves the door to its target: OPEN to the stroke, CLOSE and NUDGE to 0, MOVETO to its operand,
RESUME to the kept target (R160, R161, R162). PAUSE in motion decelerates and keeps the target, RELEASE outside a learning run discards
it; LEARN starts the run. A refused OPEN answers the code of its first failing check, an unknown OP 0x1C, and the motion goes on.
Arrivals, reversals and holding (R163, R164, R168 to R171): a door slow in the end zone for 100 ms is CLOSED with its position 0, or OPEN;
standstill at an end reduces the holding current; a tripped criterion or the light curtain reverses a closing door to the stroke with its
code, and a tripped criterion stops an opening one; a reversal at zero speed becomes OPENING, and a stop at zero speed PAUSED with its
code and the target kept. Where these meanings make a choice of the model, it stands in log entries 30, 33, 47. -/
def Obligations.DoorMoves : Prop :=
  (∀ (s : State) (m : Master) (k : Fin 2) (tag : Fin 256), s.dev.inReset = false → s.dev.mayUse m (R.DOOR_MOVE k.val) = true → s.dev.sout.ttStep = 0 →
    s.dev.doorCheck m k 1 0 = none →
    Completes (.doorOpen m k tag) s fun d => doorMoves d k (s.dev.stroke k) true false = true ∧ doorSays d k 0 tag.val = true ∧
      Dev.Frame [.motion, .regs] (fun a => a = R.DOOR_MSTAT k.val) s.dev d) ∧
  (∀ (s : State) (m : Master) (k : Fin 2) (tag : Fin 256), s.dev.inReset = false → s.dev.mayUse m (R.DOOR_MOVE k.val) = true → s.dev.sout.ttStep = 0 →
    s.dev.doorCheck m k 2 0 = none →
    Completes (.doorClose m k tag) s fun d => doorMoves d k 0 false false = true ∧ doorSays d k 0 tag.val = true ∧
      Dev.Frame [.motion, .regs] (fun a => a = R.DOOR_MSTAT k.val) s.dev d) ∧
  (∀ (s : State) (m : Master) (k : Fin 2) (mtgt : Word) (tag : Fin 256), s.dev.inReset = false → s.dev.mayUse m (R.DOOR_MOVE k.val) = true →
    s.dev.sout.ttStep = 0 → s.dev.doorCheck m k 3 mtgt = none →
    Completes (.doorMoveto m k mtgt tag) s fun d => doorMoves d k mtgt.toInt (doorAbove s.dev k mtgt.toInt) false = true ∧ doorSays d k 0 tag.val = true ∧
      Dev.Frame [.motion, .regs] (fun a => a = R.DOOR_MSTAT k.val) s.dev d) ∧
  (∀ (s : State) (m : Master) (k : Fin 2) (tag : Fin 256) (x : Int), s.dev.inReset = false → s.dev.mayUse m (R.DOOR_MOVE k.val) = true →
    s.dev.sout.ttStep = 0 → s.dev.doorCheck m k 5 0 = none → s.dev.flag (F.DOOR_MSTAT_KEPT k.val) = true →
    (s.dev.motion[k]).tgt = some x →
    Completes (.doorResume m k tag) s fun d => doorMoves d k x (doorAbove s.dev k x) false = true ∧ doorSays d k 0 tag.val = true ∧
      Dev.Frame [.motion, .regs] (fun a => a = R.DOOR_MSTAT k.val) s.dev d) ∧
  (∀ (s : State) (m : Master) (k : Fin 2) (tag : Fin 256), s.dev.inReset = false → s.dev.mayUse m (R.DOOR_MOVE k.val) = true → s.dev.sout.ttStep = 0 →
    s.dev.doorCheck m k 6 0 = none →
    Completes (.doorNudge m k tag) s fun d => doorMoves d k 0 false true = true ∧ doorSays d k 0 tag.val = true ∧
      Dev.Frame [.motion, .regs] (fun a => a = R.DOOR_MSTAT k.val) s.dev d) ∧
  (∀ (s : State) (m : Master) (k : Fin 2) (tag : Fin 256), s.dev.inReset = false → s.dev.mayUse m (R.DOOR_MOVE k.val) = true →
    s.dev.doorCheck m k 4 0 = none → s.dev.mState k ∈ [3, 4, 7] →
    Completes (.doorPause m k tag) s fun d => d.mState k = 5 ∧ (d.motion[k]).tgt = (s.dev.motion[k]).tgt ∧ (d.motion[k]).stopCode = 2 ∧
      doorSays d k 0 tag.val = true ∧ Dev.Frame [.motion, .regs] (fun a => a = R.DOOR_MSTAT k.val) s.dev d) ∧
  (∀ (s : State) (m : Master) (k : Fin 2) (tag : Fin 256), s.dev.inReset = false → s.dev.mayUse m (R.DOOR_MOVE k.val) = true →
    s.dev.doorCheck m k 7 0 = none → s.dev.mState k ≠ 8 →
    Completes (.doorRelease m k tag) s fun d => d.mState k = 0 ∧ (d.motion[k]).tgt = none ∧ d.flag (F.DOOR_MSTAT_KEPT k.val) = false ∧
      d.curLimits k = (0, 0) ∧ doorSays d k 0 tag.val = true ∧ Dev.Frame [.motion, .regs] (fun a => a = R.DOOR_MSTAT k.val) s.dev d) ∧
  (∀ (s : State) (m : Master) (k : Fin 2) (tag : Fin 256), s.dev.inReset = false → s.dev.mayUse m (R.DOOR_MOVE k.val) = true →
    s.dev.doorCheck m k 8 0 = none →
    Completes (.doorLearn m k tag) s fun d => d.mState k = 8 ∧ (d.motion[k]).step = 1 ∧ doorSays d k 0 tag.val = true ∧
      Dev.Frame [.motion, .regs] (fun a => a = R.DOOR_MSTAT k.val) s.dev d) ∧
  (∀ (s : State) (m : Master) (k : Fin 2) (op : Fin 16) (tag : Fin 256), s.dev.inReset = false → s.dev.mayUse m (R.DOOR_MOVE k.val) = true →
    s.dev.doorBarred m = false → op.val = 0 ∨ 8 < op.val →
    Completes (.doorUnknownOp m k op tag) s fun d => doorSays d k 0x1C tag.val = true ∧ d.mState k = s.dev.mState k ∧
      d.motion = s.dev.motion.set k { s.dev.motion[k] with stillAt := none } ∧ Dev.Frame (.motion :: noticeParts) (fun a => a = R.DOOR_MSTAT k.val || inBlock 19 a) s.dev d) ∧
  (∀ (s : State) (m : Master) (k : Fin 2) (tag : Fin 256) (c : Nat), s.dev.inReset = false → s.dev.mayUse m (R.DOOR_MOVE k.val) = true →
    s.dev.doorCheck m k 1 0 = some c →
    Completes (.doorOpen m k tag) s fun d => doorSays d k c tag.val = true ∧ d.mState k = s.dev.mState k ∧
      d.motion = s.dev.motion.set k { s.dev.motion[k] with stillAt := none } ∧ Dev.Frame (.motion :: noticeParts) (fun a => a = R.DOOR_MSTAT k.val || inBlock 19 a) s.dev d) ∧
  (∀ (s : State) (k : Fin 2) (c : Nat), s.dev.inReset = false → s.dev.mState k ∈ [3, 4] → (s.dev.motion[k]).tgt = some 0 →
    (s.dev.motion[k]).slowAt = some c → c + 40000000 ≤ s.dev.now →
    Completes (.doorArrival k) s fun d => d.mState k = 1 ∧ d.doorPos k = 0 ∧ (d.motion[k]).tgt = none ∧ (d.motion[k]).opened = false ∧
      d.fld (F.DOOR_MSTAT_CODE k.val) = 1 ∧
      Dev.Frame (.motion :: .nv :: noticeParts) (fun a => inBlock (6 + k.val) a || inBlock 19 a) s.dev d) ∧
  (∀ (s : State) (k : Fin 2) (c : Nat), s.dev.inReset = false → s.dev.mState k ∈ [3, 4] →
    (s.dev.motion[k]).tgt = some (s.dev.stroke k) → s.dev.stroke k ≠ 0 → (s.dev.motion[k]).slowAt = some c →
    c + 40000000 ≤ s.dev.now →
    Completes (.doorArrival k) s fun d => d.mState k = 2 ∧ (d.motion[k]).tgt = none ∧ d.doorPos k = s.dev.doorPos k ∧
      d.fld (F.DOOR_MSTAT_CODE k.val) = 1 ∧
      Dev.Frame (.motion :: noticeParts) (fun a => inBlock (6 + k.val) a || inBlock 19 a) s.dev d) ∧
  (∀ (s : State) (k : Fin 2) (c : Nat), s.dev.inReset = false → s.dev.mState k ∈ [1, 2] → (s.dev.motion[k]).stillAt = some c →
    c + s.dev.dod k 1 7 * 400000 ≤ s.dev.now →
    Completes (.holdingReduction k) s fun d => d.flag (F.DOOR_MSTAT_REDUCED k.val) = true ∧
      Dev.Frame [.regs] (fun a => a = R.DOOR_MSTAT k.val) s.dev d) ∧
  (∀ (s : State) (k : Fin 2) (c : Fin 5), s.dev.inReset = false → s.dev.mState k = 4 → s.dev.critTripped k c = true →
    Completes (.obstructionTrip k ⟨causeCode c, by revert c; decide⟩) s fun d =>
      d.mState k = 7 ∧ (d.motion[k]).tgt = some (s.dev.stroke k) ∧ (d.motion[k]).xr = s.dev.doorPos k ∧
      (d.motion[k]).vr = s.dev.doorSpeed k ∧ d.fld (F.DOOR_MSTAT_CODE k.val) = (if c = 4 then 0x20 else 3) ∧
      d.fld (F.DOOR_MSTAT_CAUSE k.val) = causeCode c ∧
      Dev.Frame (.motion :: .nv :: noticeParts) (fun a => a = R.DOOR_MSTAT k.val || inBlock 19 a) s.dev d) ∧
  (∀ (s : State) (k : Fin 2) (c : Fin 5), s.dev.inReset = false → s.dev.mState k = 3 → s.dev.critTripped k c = true →
    Completes (.obstructionTrip k ⟨causeCode c, by revert c; decide⟩) s fun d =>
      d.mState k = 5 ∧ (d.motion[k]).tgt = (s.dev.motion[k]).tgt ∧ (d.motion[k]).stopCode = 5 ∧
      d.fld (F.DOOR_MSTAT_CAUSE k.val) = causeCode c ∧
      Dev.Frame (.motion :: .nv :: noticeParts) (fun a => a = R.DOOR_MSTAT k.val || inBlock 19 a) s.dev d) ∧
  (∀ (s : State) (k : Fin 2), s.dev.inReset = false → s.dev.mState k = 7 → (s.dev.motion[k]).vr = 0 →
    Completes (.reversalComplete k) s fun d => d.mState k = 3 ∧ (d.motion[k]).opened = true ∧ (d.motion[k]).tgt = (s.dev.motion[k]).tgt ∧
      Dev.Frame [.motion, .regs] (fun a => a = R.DOOR_MSTAT k.val) s.dev d) ∧
  (∀ (s : State) (k : Fin 2), s.dev.inReset = false → s.dev.mState k = 5 → (s.dev.motion[k]).vr = 0 →
    Completes (.reversalComplete k) s fun d => d.mState k = 6 ∧ d.fld (F.DOOR_MSTAT_CODE k.val) = (s.dev.motion[k]).stopCode % 256 ∧
      d.flag (F.DOOR_MSTAT_KEPT k.val) = true ∧ Dev.Frame [.regs] (fun a => a = R.DOOR_MSTAT k.val) s.dev d) ∧
  (∀ (s : State) (k : Fin 2), s.dev.inReset = false → s.dev.mState k = 4 → s.dev.nudging k = false → s.dev.curtainOn k = true →
    Completes (.lightCurtainActive k) s fun d =>
      d.mState k = 7 ∧ (d.motion[k]).tgt = some (s.dev.stroke k) ∧ d.fld (F.DOOR_MSTAT_CODE k.val) = 4 ∧
      d.fld (F.DOOR_MSTAT_CAUSE k.val) = 5 ∧
      Dev.Frame (.motion :: .nv :: noticeParts) (fun a => a = R.DOOR_MSTAT k.val || inBlock 19 a) s.dev d)

/-- The permissions of the safety runtime and the learning run (R145, R174, R175): ZONE and PERMIT take the writes of master 5, PERMIT no
other's; OPENOK lost while opening turns the move into CLOSE with code 6; PERMIT lost lowers the driver enable; the first step of the
learning run that has arrived starts the second one, and the last one ends the run as LEARNED. Where these meanings make a choice of the
model, it stands in log entries 14, 33, 49. -/
def Obligations.DoorPermissionsAndLearning : Prop :=
  (∀ (s : State) (k : Fin 2) (val : Word), s.dev.inReset = false →
    Completes (.doorZoneWrite 5 k val) s fun d =>
      d.flag (F.DOOR_ZONE_OPENOK k.val) = bitN val.toNat 0 ∧ d.flag (F.DOOR_ZONE_LOCKED k.val) = bitN val.toNat 1 ∧
      (s.dev.flag (F.DOOR_ZONE_OPENOK k.val) = true → bitN val.toNat 0 = false → s.dev.mState k = 3 →
        d.mState k = 4 ∧ (d.motion[k]).tgt = some 0 ∧ d.fld (F.DOOR_MSTAT_CODE k.val) = 6) ∧
      Dev.Frame (.motion :: .bus :: noticeParts) (fun a => a = R.DOOR_ZONE k.val || a = R.DOOR_MSTAT k.val || inBlock 19 a) s.dev d) ∧
  (∀ (s : State) (k : Fin 2) (val : Word), s.dev.inReset = false →
    Completes (.doorPermitWrite 5 k val) s fun d =>
      d.flag (F.DOOR_PERMIT_PERMIT k.val) = bitN val.toNat 0 ∧ (bitN val.toNat 0 = false → d.flag (F.DOOR_STATUS_DRVEN k.val) = false) ∧
      Dev.Frame (.doors :: .motion :: .marten :: .bus :: noticeParts) (fun a => inBlock (6 + k.val) a || inBlock 19 a) s.dev d) ∧
  (∀ (s : State) (m : Master) (k : Fin 2) (val : Word), s.dev.inReset = false → s.dev.mayUse m (R.DOOR_PERMIT k.val) = true → m ≠ 5 →
    Completes (.doorPermitWrite m k val) s fun d => Dev.Frame [.bus] (fun _ => false) s.dev d) ∧
  (∀ (s : State) (k : Fin 2) (c : Nat), s.dev.inReset = false → s.dev.mState k = 8 → (s.dev.motion[k]).slowAt = some c →
    c + 40000000 ≤ s.dev.now → (s.dev.motion[k]).step = 1 →
    Completes (.doorLearnStepEnd k) s fun d => (d.motion[k]).step = 2 ∧ d.doorPos k = 0 ∧ d.mState k = 8 ∧
      Dev.Frame [.motion, .regs] (fun a => a = R.DOOR_POS k.val || a = R.DOOR_POSOFS k.val) s.dev d) ∧
  (∀ (s : State) (k : Fin 2) (c : Nat), s.dev.inReset = false → s.dev.mState k = 8 → (s.dev.motion[k]).slowAt = some c →
    c + 40000000 ≤ s.dev.now → (s.dev.motion[k]).step = 5 →
    Completes (.doorLearnStepEnd k) s fun d => (d.motion[k]).step = 0 ∧ d.mState k = 1 ∧ d.flag (F.DOOR_MSTAT_LEARNED k.val) = true ∧
      d.dod k 0 1 = w32 (s.dev.motion[k]).posDir ∧ d.fld (F.DOOR_MSTAT_CODE k.val) = 1 ∧
      Dev.Frame (.motion :: .od :: noticeParts) (fun a => inBlock (6 + k.val) a || inBlock 19 a) s.dev d)

/-! ## LRING -/

/-- The parts and registers that an access of LRING to its queues may change besides the memories: MEMC's, and a bus error. -/
def Sys2Proof.Machine.memoryParts : List Part := [.memc, .bus, .fresh] ++ noticeParts
def Sys2Proof.Machine.memoryRegs (a : Nat) : Bool := inBlock 17 a || inBlock 19 a

/-- Enabling the ring from OFF starts SYNC with five cycles to wait, and after them the enumeration; disabling it is noted for the next
cycle (R206). ENUMERATE and ASSIGN_ADDRESS are accepted as dictionary writes and start an enumeration where R203 permits one; its sixteen
results lead to RUN, or to FAULT with the first code that fails, and ORDER shows them by ring position (R203). Where these meanings make a
choice of the model, it stands in log entries 46, 75, 76. -/
def Obligations.RingStartsAndEnumerates : Prop :=
  (∀ s : State, s.dev.inReset = false → s.dev.rState = 0 →
    Completes .ringEnable s fun d => d.rState = 1 ∧ d.ring = { s.dev.ring with syncLeft := 5, disable := false, idle := s.dev.ring.sideLost.map fun l => if l then 2 else 1 } ∧
      d.flag F.LRING_CTRL_EN = true ∧ Dev.Frame [.ring, .regs] (fun a => a = R.LRING_CTRL || a = R.LRING_STATUS) s.dev d) ∧
  (∀ s : State, s.dev.inReset = false → s.dev.rState = 1 → s.dev.ring.syncLeft = 0 →
    Completes .syncEnd s fun d => d.rState = 2 ∧ d.ring = { s.dev.ring with enums := [], acmd := none } ∧
      Dev.Frame [.ring, .regs] (fun a => a = R.LRING_STATUS) s.dev d) ∧
  (∀ s : State, s.dev.inReset = false → s.dev.rState ≠ 0 →
    Completes .ringDisable s fun d => d.flag F.LRING_CTRL_EN = false ∧ d.ring = { s.dev.ring with disable := true } ∧
      Dev.Frame [.ring, .regs] (fun a => a = R.LRING_CTRL) s.dev d) ∧
  (∀ (s : State) (c : Client), s.dev.inReset = false → (s.dev.writeCheck c 0x2403 1 [1]).1 = 0 → s.dev.enumCheck = none →
    CompletesStaged (.enumerate c) s c 0x2403 1 [1] fun d => d.rState = 2 ∧ d.ring = { s.dev.ring with enums := [], acmd := none } ∧
      Dev.Frame [.ring, .regs] (fun a => a = R.LRING_STATUS) s.dev d) ∧
  (∀ (s : State) (c : Client) (val : Word), s.dev.inReset = false → (s.dev.writeCheck c 0x2403 3 (leBytes 4 val.toNat)).1 = 0 →
    s.dev.enumCheck = none →
    CompletesStaged (.assignAddress c val) s c 0x2403 3 (leBytes 4 val.toNat) fun d => d.rState = 2 ∧ d.ring = { s.dev.ring with enums := [], acmd := some val } ∧
      Dev.Frame [.ring, .regs] (fun a => a = R.LRING_STATUS) s.dev d) ∧
  (∀ (s : State) (l : List EnumNode), s.dev.inReset = false → s.dev.rState = 2 → 16 ≤ s.dev.ring.enums.length →
    s.dev.ring.enums.getLast? = some l →
    Completes .enumerationEnd s fun d =>
      let code := s.dev.enumJudge l (s.dev.ring.enums.all fun x => x == l)
      d.rState = (if code = 0 then 3 else 4) ∧ d.od? 0x2403 2 = code ∧ d.fld F.LRING_STATUS_ENUMCODE = code ∧
      d.flag F.LRING_IRQ_ENUMDONE = true ∧ d.ring.enums = [] ∧
      (∀ i, 1 ≤ i → i ≤ 192 → d.rd (R.LRING_ORDER i) = match l.find? fun x => x.pos == i with
        | some x => BitVec.ofNat 32 (x.addr + x.cls * 256 + x.uid * 65536)
        | none => 0) ∧
      Dev.Frame (.ring :: .od :: noticeParts) (fun a => inBlock 8 a || inBlock 19 a) s.dev d)

/-- At T(8n) the cycle n starts (R184): in SYNC one cycle fewer is to wait, in ENUM, in FAULT and after the last cycle of SYNC the frame
with its 192 free slots leaves port 0, and in RUN a frame with the slots of every enumerated node (R185, R186, R202, R206). A frame that
returns in an open window is kept; the window's end closes the cycle, with its results for the delivery, or one more result of the
enumeration (R184, R203). Badger closes the same cycle with its own masks and its own LVHASH (R193). The supervision of the ring: a node
missing in three cycles loses PRESENT and regains it with the second of two slots in sequence (R191); a node count that fails in three
cycles opens every masked lock bit (R192); a lost side is answered with H on its transmit pair, a regained one with I (R200); sixteen
clean cycles end dual mode unless it is forced (R201); an entry with three services behind it is dropped (R195). Where these meanings make
a choice of the model, it stands in log entries 76, 77, 78. -/
def Obligations.RingCycles : Prop :=
  (∀ s : State, s.dev.inReset = false → s.dev.tick % 8 = 0 →
    (s.dev.ring.started = false ∨ s.dev.ring.cycle < s.dev.tick / 8) → s.dev.ring.open_ = false → s.dev.ring.disable = false → s.dev.rState = 1 →
    s.dev.ring.syncLeft ≠ 0 →
    CompletesAll .ringCycleStart s fun d m => d.ring.cycle = s.dev.tick / 8 ∧ d.ring.started = true ∧
      d.ring.syncLeft = s.dev.ring.syncLeft - 1 ∧ m = s.mem ∧
      Dev.Frame ([.ring, .bid, .pgen, .od] ++ memoryParts) (fun a => inBlock 8 a || memoryRegs a) s.dev d) ∧
  (∀ s : State, s.dev.inReset = false → s.dev.tick % 8 = 0 →
    (s.dev.ring.started = false ∨ s.dev.ring.cycle < s.dev.tick / 8) → s.dev.ring.open_ = false → s.dev.ring.disable = false → (s.dev.rState ∈ [2, 4] ∨ (s.dev.rState = 1 ∧ s.dev.ring.syncLeft = 0)) →
    CompletesAll .ringCycleStart s fun d m => d.ring.cycle = s.dev.tick / 8 ∧ d.ring.open_ = true ∧ d.ring.sent[0].length = 1710 ∧
      d.ring.sent[0].take 1 = [2] ∧ (d.ring.sent[0].drop 2).take 4 = leBytes 4 (s.dev.tick / 8) ∧
      (d.ring.sent[0].drop 16).take 1680 = List.replicate 1680 0 ∧ m = s.mem ∧
      Dev.Frame ([.ring, .bid, .pgen, .od] ++ memoryParts) (fun a => inBlock 8 a || memoryRegs a) s.dev d) ∧
  (∀ s : State, s.dev.inReset = false → s.dev.tick % 8 = 0 →
    (s.dev.ring.started = false ∨ s.dev.ring.cycle < s.dev.tick / 8) → s.dev.ring.open_ = false → s.dev.ring.disable = false → s.dev.rState = 3 →
    CompletesAll .ringCycleStart s fun d _ => d.ring.cycle = s.dev.tick / 8 ∧ d.ring.open_ = true ∧
      d.ring.sent[0].length = 174 + 48 * s.dev.machineAddrs.length + 8 * s.dev.ordinaryAddrs.length ∧
      d.ring.sent[0].take 1 = [1] ∧ (d.ring.sent[0].drop 2).take 4 = leBytes 4 (s.dev.tick / 8) ∧
      Dev.Frame ([.ring, .bid, .pgen, .od] ++ memoryParts) (fun a => inBlock 8 a || memoryRegs a) s.dev d) ∧
  (∀ (s : State) (port : Fin 2) (bytes : List (Option Byte)) (e : Nat), s.dev.inReset = false → s.dev.ring.open_ = true →
    Completes (.ringFrameReceived port bytes e) s fun d =>
      d.ring = { s.dev.ring with
        rx := s.dev.ring.rx ++ [{ port := port.val, bytes := bytes, endC := e }],
        idle := if s.dev.ring.sideLost[port] then s.dev.ring.idle.set port (if s.dev.rState = 0 then 0 else 1) else s.dev.ring.idle } ∧
      Dev.Frame [.ring] (fun _ => false) s.dev d) ∧
  (∀ s : State, s.dev.inReset = false → s.dev.ring.open_ = true → s.dev.ring.kind = 0 →
    CompletesAll .ringReceiveWindowEnd s fun d _ => d.ring.open_ = false ∧ (∃ o, d.ring.out = some o ∧ o.n = s.dev.ring.cycle) ∧
      Dev.Frame ([.ring, .bid] ++ memoryParts) (fun a => inBlock 8 a || memoryRegs a) s.dev d) ∧
  (∀ s : State, s.dev.inReset = false → s.dev.ring.open_ = true → s.dev.ring.kind = 2 → s.dev.rState = 2 →
    s.dev.ring.enums.length < 15 →
    CompletesAll .ringReceiveWindowEnd s fun d m => d.ring.open_ = false ∧ d.ring.enums.length = s.dev.ring.enums.length + 1 ∧
      m = s.mem ∧ Dev.Frame (.ring :: noticeParts) (fun a => inBlock 8 a || inBlock 19 a) s.dev d) ∧
  (∀ s : State, s.dev.inReset = false → s.dev.ring.open_ = false → s.dev.ringCloses = true → s.dev.ring.bClosed ≤ s.dev.ring.cycle →
    CompletesAll .badgerRingCycleClose s fun d m =>
      let n := s.dev.ring.cycle
      let lv := s.dev.lockVec fun a => s.dev.bpar 0x2402 a
      d.chB = { s.dev.chB with hashes := ((n, lvHash n lv) :: s.dev.chB.hashes).take 2 } ∧ d.ring.bClosed = n + 1 ∧
      d.badger.lockq = s.dev.badger.lockq ++ [(n, lv)] ∧ m = s.mem ∧ Dev.Frame [.ring, .chB, .badger] (fun _ => false) s.dev d) ∧
  (∀ (s : State) (a : Nat), s.dev.inReset = false → (s.dev.node a).present = true → 3 ≤ (s.dev.node a).miss →
    Completes (.nodeLost a) s fun d => (d.node a).present = false ∧ (∀ b, b ≠ a → d.node b = s.dev.node b) ∧
      d.flag F.LRING_IRQ_NODELOST = true ∧ Dev.Frame (.ring :: noticeParts) (fun x => x = R.LRING_IRQ || inBlock 19 x) s.dev d) ∧
  (∀ (s : State) (a : Nat), s.dev.inReset = false → (s.dev.node a).present = false → (s.dev.node a).two = true →
    Completes (.nodeRegained a) s fun d => (d.node a).present = true ∧ (∀ b, b ≠ a → d.node b = s.dev.node b) ∧
      Dev.Frame (.ring :: noticeParts) (inBlock 19) s.dev d) ∧
  (∀ s : State, s.dev.inReset = false → 3 ≤ s.dev.ring.hopsRun → s.dev.ring.hopsFlt = false →
    ((s.dev.countOf (s.dev.ring.rx.find? fun f => f.dir = 0)).isSome = true ∨
      (s.dev.countOf (s.dev.ring.rx.find? fun f => f.dir = 1)).isSome = true) →
    Completes .nodeCountFault s fun d => d.ring = { s.dev.ring with hopsFlt := true } ∧ d.flag F.LRING_STATUS_HOPSFLT = true ∧
      d.flag F.LRING_IRQ_HOPSFLT = true ∧
      (∀ mask : Nat → Nat, d.lockVec mask = ((upTo 192).map (· + 1)).map fun a => decide (mask a = 0)) ∧
      Dev.Frame (.ring :: noticeParts) (fun a => a = R.LRING_STATUS || a = R.LRING_IRQ || inBlock 19 a) s.dev d) ∧
  (∀ (s : State) (p : Fin 2), s.dev.inReset = false →
    Completes (.ringSideLost p) s fun d => d.ring = { s.dev.ring with sideLost := s.dev.ring.sideLost.set p true, idle := s.dev.ring.idle.set p (if s.dev.rState = 0 then 0 else 2) } ∧
      Dev.Frame [.ring] (fun _ => false) s.dev d) ∧
  (∀ (s : State) (p : Fin 2), s.dev.inReset = false →
    Completes (.ringSideRegained p) s fun d => d.ring = { s.dev.ring with sideLost := s.dev.ring.sideLost.set p false, idle := s.dev.ring.idle.set p (if s.dev.rState = 0 then 0 else 1) } ∧
      Dev.Frame [.ring] (fun _ => false) s.dev d) ∧
  (∀ s : State, s.dev.inReset = false → s.dev.dual = true → 16 ≤ s.dev.ring.dualClean → s.dev.dualForced = false →
    Completes .dualModeLeave s fun d => d.dual = false ∧ d.flag F.LRING_IRQ_DUALCHG = true ∧ d.ring.dualClean = 0 ∧
      Dev.Frame (.ring :: noticeParts) (fun a => a = R.LRING_STATUS || a = R.LRING_IRQ || inBlock 19 a) s.dev d) ∧
  (∀ (s : State) (a i : Nat), s.dev.inReset = false →
    s.dev.ring.entries.find? (fun e => e.addr == a) = some { addr := a, slot := some i } →
    3 ≤ alGet s.dev.ring.svc i 0 → alGet s.dev.ring.svc i 0 ≠ 255 →
    CompletesAll (.payloadEntryDropped a) s fun d _ => (alGet d.ring.svc i 0 = 255 ∨ alGet d.ring.svc i 0 = 0) ∧
      Dev.Frame (.ring :: memoryParts) (fun x => x = R.LRING_PTXCTL || memoryRegs x) s.dev d)

/-! ## BID -/

/-- What BID may change on its own: its state, its messages, the registers of its block, and the records of EVR. -/
def Sys2Proof.Machine.bidParts : List Part := .bid :: noticeParts
def Sys2Proof.Machine.bidRegs (a : Nat) : Bool := inBlock 9 a || inBlock 19 a

/-- BID has answered firmware (R235): tag, code and call ID stand in BID.RESULT, with CMDDONE. -/
def Sys2Proof.Machine.bidSays (d : Dev) (tag code id : Nat) : Bool :=
  d.fld F.BID_RESULT_TAG = tag && d.fld F.BID_RESULT_CODE = code && d.fld F.BID_RESULT_CALLID = id && d.flag F.BID_IRQ_CMDDONE

/-- A command of firmware reaches BID: the master may write it (R18), and no quarantine refuses it (R235). -/
def Sys2Proof.Machine.bidHears (s : Dev) (m : Master) : Bool := !s.inReset && s.mayUse m R.BID_CMD && !s.quarBars m

/-- The table holds call `e` in entry `i`, under its ID. -/
def Sys2Proof.Machine.inTable (s : Dev) (id i : Nat) (e : CallEnt) : Bool := s.findCall id == some (i, e) && s.callAt i == e

/-- A group message of this LEN from a car of the group's numbers (R220). -/
def Sys2Proof.Machine.wellMade (c : List Byte) (len : Nat) : Bool := c.length == len && 1 ≤ c8 c 0 && c8 c 0 ≤ 16

/-- A car call, SERVED and a clearing of car calls change the plan at once where no evaluation runs: the cheapest feasible place for a car
call, the pickups or drop-offs of a stop, the car calls of a landing (R230 to R232). A landing that does not exist gets code 0x10. While
an evaluation runs a car call waits for its end (R214). A hall call that the table holds already is merged into it; another one, and every
destination call, is entered with the next call ID and announced at once (R210, R211, R223). RELEASE_ALL gives back the group calls that
this car holds and sends RELEASE (R228). An OP outside the list gets code 0x1C (R235). Where these meanings make a choice of the model, it
stands in log entries 2, 30, 33, 52. -/
def Obligations.BidCommands : Prop :=
  (∀ (s : State) (m : Master) (arg : Word) (tag : Fin 256) (b : Insertion), bidHears s.dev m = true → s.dev.bid.eval = none →
    arg.toNat % 128 < s.dev.landings → arg.toNat / 256 % 4 ≠ 0 →
    ((arg.toNat / 256 % 4) &&& s.dev.od? 0x2503 (arg.toNat % 128 + 1)) = arg.toNat / 256 % 4 →
    ((upTo ((s.dev.annotated s.dev.bid.plan).length + 1)).foldl (fun x i => cheaper x (s.dev.insertOne (s.dev.annotated s.dev.bid.plan) i
      (arg.toNat % 128) { kind := 0, side := arg.toNat / 256 % 4 })) none) = some b →
    Completes (.bidCarCall m arg tag) s fun d => d.bid.plan = (b.plan.filter fun x => !x.items.isEmpty) ∧ bidSays d tag.val 0 0 ∧
      d.flag F.BID_IRQ_PLANCHG = true ∧ Dev.Frame (.bus :: .ode :: bidParts) bidRegs s.dev d) ∧
  (∀ (s : State) (m : Master) (arg : Word) (tag : Fin 256), bidHears s.dev m = true → s.dev.bid.eval = none →
    s.dev.landings ≤ arg.toNat % 128 →
    Completes (.bidCarCall m arg tag) s fun d => bidSays d tag.val 0x10 0 ∧ d.bid.plan = s.dev.bid.plan ∧
      Dev.Frame (.bus :: .ode :: bidParts) bidRegs s.dev d) ∧
  (∀ (s : State) (m : Master) (arg : Word) (tag : Fin 256), bidHears s.dev m = true → s.dev.bid.eval.isSome = true →
    Completes (.bidCarCall m arg tag) s fun d =>
      d.bid = { s.dev.bid with out := [], held := s.dev.bid.held ++ [.bidCarCall m arg tag] } ∧
      d.fld F.BID_CMD_TAG = tag.val ∧ d.rd R.BID_ARG = arg ∧
      Dev.Frame [.bus, .bid, .ode, .regs] (fun a => a = R.BID_CMD || a = R.BID_ARG) s.dev d) ∧
  (∀ (s : State) (m : Master) (arg : Word) (tag : Fin 256) (x : PlanStop), bidHears s.dev m = true → s.dev.bid.eval = none →
    s.dev.bid.plan[arg.toNat % 64]? = some x →
    (x.items.any fun j => if arg.toNat / 256 % 2 = 0 then j.kind == 1 else j.kind == 2 || j.kind == 0) = true →
    Completes (.bidServed m arg tag) s fun d =>
      d.bid.plan = ((s.dev.bid.plan.set (arg.toNat % 64) { x with items := x.items.filter fun j =>
        !(if arg.toNat / 256 % 2 = 0 then j.kind == 1 else j.kind == 2 || j.kind == 0) }).filter fun y => !y.items.isEmpty) ∧
      d.bid.hereAt = s.dev.pgen.arrivedAt ∧ bidSays d tag.val 0 0 ∧ Dev.Frame (.bus :: bidParts) bidRegs s.dev d) ∧
  (∀ (s : State) (m : Master) (arg : Word) (tag : Fin 256), bidHears s.dev m = true → s.dev.bid.eval = none →
    Completes (.bidClearCarCalls m arg tag) s fun d =>
      (∀ x ∈ d.bid.plan, arg.toNat % 128 = 127 ∨ x.land = arg.toNat % 128 → x.has 0 = false) ∧
      bidSays d tag.val 0 0 ∧ Dev.Frame (.bus :: bidParts) bidRegs s.dev d) ∧
  (∀ (s : State) (m : Master) (arg : Word) (tag : Fin 256) (i : Nat), bidHears s.dev m = true →
    arg.toNat % 128 < s.dev.landings → arg.toNat / 256 % 4 ≠ 0 →
    ((arg.toNat / 256 % 4) &&& s.dev.od? 0x2503 (arg.toNat % 128 + 1)) = arg.toNat / 256 % 4 →
    bitN (s.dev.od? 0x2503 (arg.toNat % 128 + 1)) (2 + arg.toNat / 65536 % 2) = true → s.dev.typeOn F.BID_CTRL_HALLEN = true →
    (s.dev.bid.calls.find? fun x => (x.2.state == 1 || x.2.state == 2) && x.2.typ == 1 + arg.toNat / 65536 % 2 &&
      x.2.org == arg.toNat % 128) = none →
    s.dev.freeEntry = some i → s.dev.findCall ((s.dev.car - 1) % 16 * 4096 + s.dev.bid.seq) = none → s.dev.bid.seq < 4096 →
    Completes (.bidHallCall m arg tag) s fun d =>
      (d.callAt i).id = (s.dev.car - 1) % 16 * 4096 + s.dev.bid.seq ∧ (d.callAt i).typ = 1 + arg.toNat / 65536 % 2 ∧
      (d.callAt i).org = arg.toNat % 128 ∧ (d.callAt i).state = 1 ∧ (d.callAt i).since = s.dev.now ∧
      d.bid.seq = (s.dev.bid.seq + 1) % 4096 ∧ (s.dev.od? 0x2500 2 = 1 → (d.bid.out.head?.map fun x => x.take 2) = some [0x41, 20]) ∧
      bidSays d tag.val 0 ((s.dev.car - 1) % 16 * 4096 + s.dev.bid.seq) ∧ Dev.Frame (.bus :: bidParts) bidRegs s.dev d) ∧
  (∀ (s : State) (m : Master) (arg : Word) (tag : Fin 256) (x : Nat × CallEnt), bidHears s.dev m = true →
    arg.toNat % 128 < s.dev.landings → arg.toNat / 256 % 4 ≠ 0 →
    ((arg.toNat / 256 % 4) &&& s.dev.od? 0x2503 (arg.toNat % 128 + 1)) = arg.toNat / 256 % 4 →
    bitN (s.dev.od? 0x2503 (arg.toNat % 128 + 1)) (2 + arg.toNat / 65536 % 2) = true → s.dev.typeOn F.BID_CTRL_HALLEN = true →
    (s.dev.bid.calls.find? fun x => (x.2.state == 1 || x.2.state == 2) && x.2.typ == 1 + arg.toNat / 65536 % 2 &&
      x.2.org == arg.toNat % 128) = some x → x.2.id < 65536 →
    Completes (.bidHallCall m arg tag) s fun d => d.bid = { s.dev.bid with out := [] } ∧ bidSays d tag.val 1 x.2.id ∧
      Dev.Frame [.bus, .bid, .regs] (inBlock 9) s.dev d) ∧
  (∀ (s : State) (m : Master) (arg : Word) (tag : Fin 256) (i : Nat), bidHears s.dev m = true →
    arg.toNat % 128 < s.dev.landings → arg.toNat / 256 % 128 < s.dev.landings → arg.toNat / 16777216 % 4 ≠ 0 →
    ((arg.toNat / 16777216 % 4) &&& s.dev.od? 0x2503 (arg.toNat % 128 + 1)) = arg.toNat / 16777216 % 4 →
    ((arg.toNat / 16777216 % 4) &&& s.dev.od? 0x2503 (arg.toNat / 256 % 128 + 1)) = arg.toNat / 16777216 % 4 →
    bitN (s.dev.od? 0x2503 (arg.toNat % 128 + 1)) 4 = true → bitN (s.dev.od? 0x2503 (arg.toNat / 256 % 128 + 1)) 4 = true →
    s.dev.typeOn F.BID_CTRL_DESTEN = true →
    s.dev.freeEntry = some i → s.dev.findCall ((s.dev.car - 1) % 16 * 4096 + s.dev.bid.seq) = none → s.dev.bid.seq < 4096 →
    Completes (.bidDestinationCall m arg tag) s fun d =>
      (d.callAt i).id = (s.dev.car - 1) % 16 * 4096 + s.dev.bid.seq ∧ (d.callAt i).typ = 3 ∧ (d.callAt i).org = arg.toNat % 128 ∧
      (d.callAt i).dst = arg.toNat / 256 % 128 ∧ (d.callAt i).pax = arg.toNat / 65536 % 16 ∧ (d.callAt i).state = 1 ∧
      (s.dev.od? 0x2500 2 = 1 → (d.bid.out.head?.map fun x => x.take 2) = some [0x41, 20]) ∧
      bidSays d tag.val 0 ((s.dev.car - 1) % 16 * 4096 + s.dev.bid.seq) ∧ Dev.Frame (.bus :: .ode :: bidParts) bidRegs s.dev d) ∧
  (∀ (s : State) (m : Master) (tag : Fin 256), bidHears s.dev m = true → s.dev.bid.eval = none →
    (s.dev.bid.calls.map fun x => x.1).Nodup → (s.dev.bid.calls.map fun x => x.2.id).Nodup →
    Completes (.bidReleaseAll m tag) s fun d =>
      (∀ i : Nat, ¬ ((d.callAt i).state = 2 ∧ (d.callAt i).holder = s.dev.car)) ∧
      (s.dev.od? 0x2500 2 = 1 → d.bid.out.head? = some ([0x45, 4, by8 s.dev.car, 0, 0xFF, 0xFF] ++ List.replicate 18 0)) ∧
      bidSays d tag.val 0 0 ∧ Dev.Frame (.bus :: bidParts) bidRegs s.dev d) ∧
  (∀ (s : State) (m : Master) (op : Fin 16) (tag : Fin 256), bidHears s.dev m = true → op.val = 0 ∨ 6 < op.val →
    Completes (.bidUnknownOp m op tag) s fun d => bidSays d tag.val 0x1C 0 ∧ d.bid = { s.dev.bid with out := [] } ∧
      Dev.Frame [.bus, .bid, .regs] (inBlock 9) s.dev d)

/-- The messages of an auction: an ANNOUNCE is recorded and waits for its evaluation, or is answered with a no-bid (R218, R219, R224); a
bid inside the window is kept, and the last one closes the auction (R225); an AWARD records the holder, and the winner that finds a place
for the call plans it and answers ACCEPT; an ACCEPT ends the award, or with result 1 opens the auction again (R226). The other messages of
the group: a HEARTBEAT puts its car into the group and ends ISOLATED (R222); a RELEASE takes a car's calls from it (R228); SERVED frees a
call, or notes that its passengers ride (R230); a backup's chunk is collected under its sender (R408), and a request for a backup that
this car is to answer makes it send the backup it holds (R409). Where these meanings make a choice of the model, it stands in log entries
43, 44, 100, 120. -/
def Obligations.BidMessages : Prop :=
  (∀ (s : State) (c : List Byte) (i : Nat), s.dev.inReset = false → wellMade c 20 = true → s.dev.findCall (c16 c 2) = none →
    s.dev.freeEntry = some i → s.dev.noBidAtOnce (c8 c 4) = 0 → s.dev.bid.queue.length < 8 →
    Completes (.announce c) s fun d =>
      d.callAt i = { id := c16 c 2, typ := c8 c 4, state := 1, announcer := c16 c 2 / 4096 + 1, org := c8 c 5, dst := c8 c 6,
                     pax := c8 c 7, side := c8 c 8, used := true, since := s.dev.now - c32 c 16 * msCyc } ∧
      d.bid.queue = s.dev.bid.queue ++ [{ sender := c8 c 0, flags := c8 c 1, id := c16 c 2, typ := c8 c 4, org := c8 c 5,
                                          dst := c8 c 6, pax := c8 c 7, side := c8 c 8 }] ∧
      d.fld F.BID_STATUS_QUEUE = s.dev.bid.queue.length + 1 ∧ d.bid.out = [] ∧ Dev.Frame [.bid, .regs] (inBlock 9) s.dev d) ∧
  (∀ (s : State) (c : List Byte), s.dev.inReset = false → wellMade c 20 = true → s.dev.noBidAtOnce (c8 c 4) ≠ 0 →
    c8 c 0 ≠ s.dev.car → s.dev.od? 0x2500 2 = 1 →
    Completes (.announce c) s fun d =>
      d.bid.out = [[0x42, 15, by8 s.dev.car, 1] ++ leBytes 2 (c16 c 2) ++ leBytes 4 0xFFFFFFFF ++
        [0, 0, 0, 0, 0, 255, by8 (s.dev.noBidAtOnce (c8 c 4))] ++ List.replicate 7 0] ∧
      d.bid.queue = s.dev.bid.queue ∧ Dev.Frame bidParts bidRegs s.dev d) ∧
  (∀ (s : State) (c : List Byte) (i : Nat) (e : CallEnt), s.dev.inReset = false → wellMade c 15 = true →
    inTable s.dev (c16 c 2) i e = true → s.dev.windowOpen e = true → (e.answers.any fun x => x.car == c8 c 0) = false →
    s.dev.allAnswered { e with answers := e.answers ++ [{ car := c8 c 0, none_ := true }] } = false →
    Completes (.bid c) s fun d =>
      d.callAt i = { e with answers := e.answers ++ [{ car := c8 c 0, none_ := bitN (c8 c 1) 0, holder := bitN (c8 c 1) 1,
                                                       cost := c32 c 4, arr := c32 c 8 }] } ∧
      Dev.Frame [.bid, .regs] (inBlock 9) s.dev d) ∧
  (∀ (s : State) (c : List Byte) (i : Nat) (e : CallEnt), s.dev.inReset = false → wellMade c 19 = true → s.dev.bid.eval = none →
    inTable s.dev (c16 c 2) i e = true → s.dev.keepsOld e (c8 c 4) (c32 c 6) = false → c8 c 4 ≠ 0 → c8 c 4 ≠ s.dev.car →
    (e.state ≠ 3 ∨ e.holder = c8 c 4) →
    Completes (.award c) s fun d =>
      d.callAt i = { e with state := if e.state = 3 then 3 else 2, holder := c8 c 4, cost := c32 c 6, arr := c32 c 10,
                            awardAt := s.dev.now, due := false } ∧
      (e.state = 2 → e.holder = s.dev.car → d.flag F.BID_IRQ_LOST = true ∧
        ∀ x ∈ d.bid.plan, ∀ j ∈ x.items, ¬ (j.kind ≠ 0 ∧ j.id = c16 c 2)) ∧
      Dev.Frame bidParts bidRegs s.dev d) ∧
  (∀ (s : State) (c : List Byte) (i : Nat) (e : CallEnt) (b : Insertion), s.dev.inReset = false → wellMade c 19 = true →
    s.dev.bid.eval = none → inTable s.dev (c16 c 2) i e = true → s.dev.keepsOld e (c8 c 4) (c32 c 6) = false →
    c8 c 4 = s.dev.car → s.dev.car ≠ 0 → s.dev.holds e = false → e.state ≠ 3 → c8 c 0 ≠ s.dev.car → s.dev.od? 0x2500 2 = 1 →
    s.dev.bestCall (c16 c 2) e.typ e.org e.dst e.pax e.side = some b →
    Completes (.award c) s fun d => d.bid.plan = (b.plan.filter fun x => !x.items.isEmpty) ∧ (d.callAt i).holder = s.dev.car ∧
      d.flag F.BID_IRQ_WON = true ∧
      d.bid.out = [[0x47, 5, by8 s.dev.car, 0] ++ leBytes 2 (c16 c 2) ++ List.replicate 18 0] ∧
      Dev.Frame bidParts bidRegs s.dev d) ∧
  (∀ (s : State) (c : List Byte) (i : Nat) (e : CallEnt), s.dev.inReset = false → wellMade c 5 = true →
    inTable s.dev (c16 c 2) i e = true → e.awarded = true → e.holder = c8 c 0 → c8 c 4 = 0 →
    Completes (.accept c) s fun d => d.callAt i = { e with awarded := false } ∧ Dev.Frame [.bid, .regs] (inBlock 9) s.dev d) ∧
  (∀ (s : State) (c : List Byte) (i : Nat) (e : CallEnt), s.dev.inReset = false → wellMade c 5 = true →
    inTable s.dev (c16 c 2) i e = true → e.awarded = true → e.holder = c8 c 0 → c8 c 4 ≠ 0 →
    Completes (.accept c) s fun d => (d.callAt i).id = e.id ∧ (d.callAt i).state = 1 ∧ (d.callAt i).kind = 0 ∧
      (d.callAt i).ta = s.dev.now ∧ Dev.Frame bidParts bidRegs s.dev d) ∧
  (∀ (s : State) (c : List Byte), s.dev.inReset = false → wellMade c 6 = true →
    Completes (.heartbeat c) s fun d => alGet d.bid.beats (c8 c 0) 0 = s.dev.now ∧ d.inGroup (c8 c 0) = true ∧
      bitN (d.fld F.BID_GROUP_MEMBER) (c8 c 0 - 1) = true ∧ (d.bid.bidding.contains (c8 c 0) = bitN (c8 c 1) 1) ∧
      (c8 c 0 ≠ s.dev.car → d.flag F.BID_STATUS_ISOLATED = false) ∧ Dev.Frame bidParts bidRegs s.dev d) ∧
  (∀ (s : State) (c : List Byte), s.dev.inReset = false → wellMade c 4 = true → s.dev.bid.eval = none → c8 c 0 ≠ s.dev.car →
    c16 c 2 = 0xFFFF → (s.dev.bid.calls.map fun x => x.1).Nodup → (s.dev.bid.calls.map fun x => x.2.id).Nodup →
    Completes (.groupRelease c) s fun d => (∀ i : Nat, ¬ ((d.callAt i).state = 2 ∧ (d.callAt i).holder = c8 c 0)) ∧
      Dev.Frame bidParts bidRegs s.dev d) ∧
  (∀ (s : State) (c : List Byte) (i : Nat) (e : CallEnt), s.dev.inReset = false → wellMade c 5 = true → s.dev.bid.eval = none →
    inTable s.dev (c16 c 2) i e = true →
    Completes (.groupServed c) s fun d => (d.callAt i).id = e.id ∧
      (d.callAt i).state = (if c8 c 1 = 0 ∧ e.typ = 3 then 3 else 0) ∧ Dev.Frame [.bid, .regs] (inBlock 9) s.dev d) ∧
  (∀ (s : State) (c : List Byte), s.dev.inReset = false → wellMade c 22 = true → s.dev.od? 0x2904 6 ≠ 0 → c16 c 6 = 0 →
    bitN (c8 c 1) 1 = false →
    Completes (.backup c) s fun d =>
      d.boot = { s.dev.boot with rx := rxPut s.dev.boot.rx { car := c8 c 0, gen := c32 c 2, next := 1, body := c.drop 8 } } ∧
      (s.dev.boot.want.isSome = true → d.od? 0x2904 2 = 2) ∧ Dev.Frame [.bid, .boot, .od] (fun _ => false) s.dev d) ∧
  (∀ (s : State) (c : List Byte) (x : BackupRx), s.dev.inReset = false → wellMade c 22 = true → s.dev.od? 0x2904 6 ≠ 0 →
    c16 c 6 ≠ 0 → bitN (c8 c 1) 1 = false →
    (s.dev.boot.rx.find? fun y => y.car == c8 c 0 && y.gen == c32 c 2 && y.next == c16 c 6) = some x →
    Completes (.backup c) s fun d =>
      d.boot = { s.dev.boot with rx := rxPut s.dev.boot.rx { car := c8 c 0, gen := c32 c 2, next := c16 c 6 + 1,
                                                             body := x.body ++ c.drop 8 } } ∧
      Dev.Frame [.bid, .boot, .od] (fun _ => false) s.dev d) ∧
  (∀ (s : State) (c : List Byte) (img : List Byte), s.dev.inReset = false → c.length = 6 → c8 c 0 = 0 →
    s.dev.nv.backups.find? (fun e => e.1 == c8 c 1) = some (c8 c 1, img) → (bodyOf img).inst = c32 c 2 → c32 c 2 ≠ 0 →
    ((upTo 16).any fun i => s.dev.inGroup i && decide (i < s.dev.car) && i != c8 c 1) = false →
    Completes (.backupReq c) s fun d => d.boot = { s.dev.boot with bkOut := img, bkNext := 0 } ∧
      d.nv = { s.dev.nv with bkGen := (s.dev.nv.bkGen + 1) % 4294967296 } ∧ Dev.Frame [.boot, .nv] (fun _ => false) s.dev d)

/-- BID takes the oldest announcement and prices it: its own present cost where it holds the call, else the cheapest feasible insertion,
else a reason (R217 to R219, R227). The evaluation's end sends the bid and runs what waited for it (R214). The timers of the auctions: the
deadline awards the call to the lowest bid, or leaves it without a holder (R225); a call without a bid is announced again, the holder's
call is auctioned again (R225, R227); an award without its ACCEPT is repeated once and then released (R226); a car whose heartbeat is
missing leaves the group (R222). Where these meanings make a choice of the model, it stands in log entries 79, 80. -/
def Obligations.BidWork : Prop :=
  (∀ (s : State) (a : AnnWait) (rest : List AnnWait) (b : Insertion), s.dev.inReset = false → s.dev.bid.queue = a :: rest →
    s.dev.bid.eval = none → s.dev.noBidAtOnce a.typ = 0 → s.dev.findCall a.id = none →
    s.dev.bestCall a.id a.typ a.org a.dst a.pax a.side = some b →
    Completes .bidEvaluation s fun d =>
      d.bid = { s.dev.bid with queue := rest, out := [],
                               eval := some { ann := a, reason := 0, cost := b.cost, arr := b.arr, pick := b.i, drop := b.j } } ∧
      d.flag F.BID_STATUS_BUSY = true ∧ Dev.Frame [.bid, .regs] (fun x => x = R.BID_STATUS) s.dev d) ∧
  (∀ (s : State) (a : AnnWait) (rest : List AnnWait), s.dev.inReset = false → s.dev.bid.queue = a :: rest →
    s.dev.bid.eval = none → s.dev.noBidAtOnce a.typ = 0 → s.dev.findCall a.id = none →
    s.dev.bestCall a.id a.typ a.org a.dst a.pax a.side = none →
    Completes .bidEvaluation s fun d =>
      d.bid = { s.dev.bid with queue := rest, out := [],
                               eval := some { ann := a, reason := s.dev.noBidReason a.typ a.org a.dst a.side } } ∧
      d.flag F.BID_STATUS_BUSY = true ∧ Dev.Frame [.bid, .regs] (fun x => x = R.BID_STATUS) s.dev d) ∧
  (∀ (s : State) (a : AnnWait) (rest : List AnnWait) (i : Nat) (e : CallEnt), s.dev.inReset = false → s.dev.bid.queue = a :: rest →
    s.dev.bid.eval = none → s.dev.noBidAtOnce a.typ = 0 → s.dev.findCall a.id = some (i, e) → s.dev.holds e = true →
    Completes .bidEvaluation s fun d =>
      d.bid = { s.dev.bid with queue := rest, out := [],
                               eval := some { ann := a, reason := 0, holder := true, cost := (s.dev.holderCost a.id).1,
                                              arr := (s.dev.holderCost a.id).2,
                                              pick := (s.dev.heldAt a.id).1, drop := (s.dev.heldAt a.id).2 } } ∧
      d.flag F.BID_STATUS_BUSY = true ∧ Dev.Frame [.bid, .regs] (fun x => x = R.BID_STATUS) s.dev d) ∧
  (∀ (s : State) (us : Nat) (r : BidEval), s.dev.inReset = false → s.dev.bid.eval = some r → s.dev.bid.held = [] → r.reason = 0 →
    r.ann.sender ≠ s.dev.car → s.dev.od? 0x2500 2 = 1 → s.dev.findCall r.ann.id = none →
    Completes (.evaluationEnd us) s fun d => d.bid.eval = none ∧ d.flag F.BID_STATUS_BUSY = false ∧
      d.bid.out = [[0x42, 15, by8 s.dev.car, by8 (2 * b2n r.holder)] ++ leBytes 2 r.ann.id ++ leBytes 4 r.cost ++ leBytes 4 r.arr ++
        [by8 r.pick, by8 r.drop, 0] ++ List.replicate 7 0] ∧
      Dev.Frame bidParts bidRegs s.dev d) ∧
  (∀ (s : State) (us : Nat) (r : BidEval), s.dev.inReset = false → s.dev.bid.eval = some r →
    Completes (.evaluationEnd us) s fun d => d.bid.eval = none ∧ d.bid.held = [] ∧ Dev.Frame bidParts bidRegs s.dev d) ∧
  (∀ (s : State) (id i : Nat) (e : CallEnt) (c : BidAnswer), s.dev.inReset = false → inTable s.dev id i e = true → e.running = true →
    s.dev.bid.eval = none → e.ta + s.dev.bidCyc ≤ s.dev.now →
    e.kind = 0 → e.state = 1 → lowest (e.answers.filter fun a => !a.none_) = some c →
    c.car ≠ s.dev.car → c.car ≠ 0 →
    Completes (.auctionDeadline id) s fun d =>
      d.callAt i = { e with running := false, state := 2, holder := c.car, cost := c.cost, arr := c.arr, awarded := true, tries := 1,
                            awardAt := s.dev.now, due := false } ∧
      d.flag F.BID_IRQ_CLOSED = true ∧ Dev.Frame bidParts bidRegs s.dev d) ∧
  (∀ (s : State) (id i : Nat) (e : CallEnt), s.dev.inReset = false → inTable s.dev id i e = true → e.running = true → s.dev.car ≠ 0 →
    s.dev.bid.eval = none → e.ta + s.dev.bidCyc ≤ s.dev.now →
    e.kind = 0 → e.state = 1 → (e.answers.all fun a => a.none_) = true →
    Completes (.auctionDeadline id) s fun d =>
      d.callAt i = { e with running := false, state := 1, holder := 0, cost := 0xFFFFFFFF, arr := 0,
                            awardAt := s.dev.now, due := false } ∧
      d.flag F.BID_IRQ_CLOSED = true ∧ Dev.Frame bidParts bidRegs s.dev d) ∧
  (∀ (s : State) (id i : Nat) (e : CallEnt), s.dev.inReset = false → inTable s.dev id i e = true → e.state = 1 → e.running = false →
    e.ours = true → e.due = false → e.awardAt + s.dev.reauctionCyc ≤ s.dev.now →
    Completes (.reannounceTimer id) s fun d => (d.callAt i).attempts = e.attempts + 1 ∧ (d.callAt i).state = 1 ∧
      (d.callAt i).kind = 0 ∧ (d.callAt i).ta = s.dev.now ∧
      (s.dev.od? 0x2500 2 = 1 → (d.bid.out.head?.map fun x => x.take 2) = some [0x41, 20]) ∧
      Dev.Frame bidParts bidRegs s.dev d) ∧
  (∀ (s : State) (id i : Nat) (e : CallEnt), s.dev.inReset = false → inTable s.dev id i e = true → e.state = 2 →
    e.holder = s.dev.car → s.dev.car ≠ 0 → e.running = false → e.due = false →
    e.awardAt + s.dev.reauctionCyc ≤ s.dev.now →
    s.dev.pickupCommitted id = false →
    Completes (.reauctionTimer id) s fun d => (d.callAt i).state = 2 ∧ (d.callAt i).holder = s.dev.car ∧ (d.callAt i).kind = 1 ∧
      (d.callAt i).ta = s.dev.now ∧ (s.dev.od? 0x2500 2 = 1 → (d.bid.out.head?.map fun x => x.take 2) = some [0x41, 20]) ∧
      Dev.Frame bidParts bidRegs s.dev d) ∧
  (∀ (s : State) (id i : Nat) (e : CallEnt), s.dev.inReset = false → inTable s.dev id i e = true → e.awarded = true →
    e.awardAt + s.dev.bidCyc ≤ s.dev.now → e.tries = 1 →
    Completes (.acceptTimeout id) s fun d => d.callAt i = { e with tries := 2, awardAt := s.dev.now } ∧
      (s.dev.od? 0x2500 2 = 1 → (d.bid.out.map fun x => x.take 2) = [[0x43, 19]]) ∧
      Dev.Frame [.bid, .regs, .can] (inBlock 9) s.dev d) ∧
  (∀ (s : State) (id i : Nat) (e : CallEnt), s.dev.inReset = false → inTable s.dev id i e = true → e.awarded = true →
    e.awardAt + s.dev.bidCyc ≤ s.dev.now → e.tries ≠ 1 →
    Completes (.acceptTimeout id) s fun d => (d.callAt i).awarded = false ∧ (d.callAt i).state = 1 ∧ (d.callAt i).kind = 4 ∧
      Dev.Frame bidParts bidRegs s.dev d) ∧
  (∀ (s : State) (car : Nat), s.dev.inReset = false → s.dev.bid.eval = none → s.dev.inGroup car = true → 1 ≤ car → car ≤ 16 →
    alGet s.dev.bid.beats car 0 + s.dev.lossCyc ≤ s.dev.now →
    Completes (.heartbeatLoss car) s fun d => d.inGroup car = false ∧ d.bid.bidding.contains car = false ∧
      bitN (d.fld F.BID_GROUP_MEMBER) (car - 1) = false ∧ Dev.Frame bidParts bidRegs s.dev d)

/-! ## The safety channels -/

/-- What a change of a channel's state may touch: both channels, Badger's count of departures, SAFE-OUT, and the records. -/
def Sys2Proof.Machine.chanParts : List Part := [.chA, .chB, .badger, .sout] ++ reportParts
def Sys2Proof.Machine.chanRegs (a : Nat) : Bool := inBlock 14 a || inBlock 15 a || inBlock 19 a

/-- The channel holds the cause, and its state is STOP_IMMEDIATE or LOCKOUT. -/
def Sys2Proof.Machine.stopped (x : ChanSt) (code : Nat) : Bool := x.has code && decide (3 ≤ rank x.state)

/-- Every cause demands at least what the table gives it (R248). -/
def Sys2Proof.Machine.causesSane (x : ChanSt) : Bool := x.causes.all fun k => demandOf k.code == 5 || decide (rank (demandOf k.code) ≤ rank k.demand)

/-- The faults that stop a channel: the fourth mismatched tick trips both (R243), missing verdicts and a second tick period in a row that
runs out of its range stop Badger (R244, R37), a safety pair that disagrees for 500 ms stops its channel (R259). Standstill holds after 50
ms below 10 mm/s, and then no stop cause waits any longer for its after-standstill state (R245, R248). Where these meanings make a choice
of the model, it stands in log entries 21, 83, 91. -/
def Obligations.ChannelStops : Prop :=
  (∀ s : State, s.dev.inReset = false → 4 ≤ s.dev.fld F.XCMP_STATUS_CONSEC → s.dev.flag F.XCMP_STATUS_TRIP = false →
    causesSane s.dev.chA = true → causesSane s.dev.chB = true →
    Completes .crossComparisonTrip s fun d => d.flag F.XCMP_STATUS_TRIP = true ∧ d.flag F.XCMP_IRQ_TRIP = true ∧
      d.fld F.XCMP_TRIPCAUSE_ITEMS = s.dev.fld F.XCMP_STATUS_ITEMS ∧ stopped d.chA 0x22 = true ∧ stopped d.chB 0x22 = true ∧
      Dev.Frame chanParts chanRegs s.dev d) ∧
  (∀ s : State, s.dev.inReset = false → 2 ≤ s.dev.badger.noVerd → s.dev.chB.has 0x45 = false → causesSane s.dev.chB = true →
    Completes .verdictMissing s fun d => stopped d.chB 0x22 = true ∧ d.chA = s.dev.chA ∧ Dev.Frame chanParts chanRegs s.dev d) ∧
  (∀ (s : State) (counts : Nat), s.dev.inReset = false → 12625 ≤ counts → s.dev.badger.perLate = false →
    1 ≤ s.dev.badger.perRun → causesSane s.dev.chB = true →
    Completes (.tickPeriodFault counts) s fun d => d.badger.perLate = true ∧ d.badger.perRun = s.dev.badger.perRun + 1 ∧
      stopped d.chB 0x16 = true ∧ d.chA = s.dev.chA ∧ Dev.Frame chanParts chanRegs s.dev d) ∧
  (∀ (s : State) (ch : Chan) (p : Fin 8) (t : Nat), s.dev.inReset = false → (s.dev.ch ch).disc[p] = some t → p.val ≠ 7 →
    t + 500 * msCyc ≤ s.dev.now → causesSane (s.dev.ch ch) = true →
    Completes (.pairDiscrepancy ch p) s fun d => stopped (d.ch ch) 0x17 = true ∧ d.ch (otherCh ch) = s.dev.ch (otherCh ch) ∧
      Dev.Frame chanParts chanRegs s.dev d) ∧
  (∀ (s : State) (ch : Chan) (t : Nat), s.dev.inReset = false → (s.dev.ch ch).slowAt = some t → (s.dev.ch ch).still = false →
    t + 50 * msCyc ≤ s.dev.now →
    Completes (.standstill ch) s fun d => (d.ch ch).still = true ∧
      (∀ k ∈ (d.ch ch).causes, ¬ ((k.demand = 1 ∨ k.demand = 2) ∧ afterOf k.code = 3)) ∧
      d.ch (otherCh ch) = s.dev.ch (otherCh ch) ∧ Dev.Frame chanParts chanRegs s.dev d)

/-- Badger is referenced at a standstill in a door zone with a valid view of Marten's (R238), corrects its offset by q after a whole
passage, or refuses a q above the limit with cause 0x23 (R239); Marten passes to the fused position from the eighth invalid reading
(R240); the view that A_COMMIT tags is the next tick's (R241). Marten takes a door's PERMIT away while its energy or its current limit
breaches the ceiling, and gives it back after 1 s of standstill, or at once where it has not taken it away (R257); a permit that APERM
withdraws opens both switches of its output at once (R274). Where these meanings make a choice of the model, it stands in log entries 2,
4, 7, 33, 83, 91. -/
def Obligations.PositionViewsAndPermits : Prop :=
  (∀ s : State, s.dev.inReset = false → s.dev.badger.ref = false → s.dev.badgerZone = true → s.dev.chB.spd.natAbs < 10000 →
    s.dev.marten.valid = true → 0 < s.dev.bLandings →
    |s.dev.rdI R.XCMP_A_POS - s.dev.bLand (nearest s.dev.bLand s.dev.bLandings (s.dev.rdI R.XCMP_A_POS))| ≤ (s.dev.bpar 0x2704 1 : Int) →
    Completes .badgerReferenced s fun d =>
      d.badger = { s.dev.badger with
        off := s.dev.rdI R.XCMP_A_POS - s.dev.badgerScaled, ref := true,
        resLand := nearest s.dev.bLand s.dev.bLandings (s.dev.rdI R.XCMP_A_POS) } ∧
      d.flag F.XCMP_B_FLAGS_REF = true ∧ Dev.Frame (.badger :: reportParts) (fun a => a = R.XCMP_B_FLAGS || inBlock 19 a) s.dev d) ∧
  (∀ (s : State) (i : Nat) (m q : Int), s.dev.inReset = false → s.dev.passWhole = true → s.dev.badgerCentre = some m →
    s.dev.bLandings ≠ 0 → s.dev.badger.ref = true → s.dev.badgerNearest (s.dev.badgerUnit * s.dev.badger.off + m) = i →
    s.dev.badgerUnit * (s.dev.bLand i - s.dev.bSill) - (s.dev.badgerUnit * s.dev.badger.off + m) = q → |q| ≤ s.dev.badgerUnit * s.dev.bpar 0x2701 4 →
    Completes .badgerResync s fun d =>
      d.badger = { s.dev.badger with pass := Vector.replicate 4 none, off := s.dev.badger.off + quo q s.dev.badgerUnit, resLand := i } ∧
      Dev.Frame (.badger :: reportParts) (inBlock 19) s.dev d) ∧
  (∀ (s : State) (i : Nat) (m q : Int), s.dev.inReset = false → s.dev.passWhole = true → s.dev.badgerCentre = some m →
    s.dev.bLandings ≠ 0 → s.dev.badger.ref = true → s.dev.badgerNearest (s.dev.badgerUnit * s.dev.badger.off + m) = i →
    s.dev.badgerUnit * (s.dev.bLand i - s.dev.bSill) - (s.dev.badgerUnit * s.dev.badger.off + m) = q → s.dev.badgerUnit * s.dev.bpar 0x2701 4 < |q| → causesSane s.dev.chB = true →
    Completes .badgerResync s fun d => stopped d.chB 0x23 = true ∧ d.badger.off = s.dev.badger.off ∧
      Dev.Frame chanParts chanRegs s.dev d) ∧
  (∀ s : State, s.dev.inReset = false → 8 ≤ s.dev.marten.bad → s.dev.marten.deg = false →
    Completes .martenDegraded s fun d => d.marten = { s.dev.marten with deg := true, refuse := true } ∧
      Dev.Frame (.marten :: reportParts) (inBlock 19) s.dev d) ∧
  (∀ (s : State) (val : Word), s.dev.inReset = false → s.dev.mayUse 5 R.XCMP_A_COMMIT = true →
    Completes (.aCommit 5 val) s fun d =>
      d.marten = { s.dev.marten with
        byReg := some (s.dev.tick + 1), cTag := fldOf val F.XCMP_A_COMMIT_TAG, cValid := fldOf val F.XCMP_A_COMMIT_VALID = 1 } ∧
      Dev.Frame [.marten, .bus] (fun _ => false) s.dev d) ∧
  (∀ (s : State) (k : Fin 2), s.dev.inReset = false → 4 ≤ s.dev.marten.permRun[k] ∨ s.dev.ilimHigh k = true →
    s.dev.flag (F.DOOR_PERMIT_PERMIT k.val) = true →
    Completes (.doorPermitRemoved k) s fun d => d.flag (F.DOOR_PERMIT_PERMIT k.val) = false ∧
      d.marten = { s.dev.marten with permCut := s.dev.marten.permCut.set k true } ∧
      Dev.Frame ([.doors, .motion, .marten] ++ reportParts) (fun a => inBlock (6 + k.val) a || inBlock 19 a) s.dev d) ∧
  (∀ (s : State) (k : Fin 2) (t : Nat), s.dev.inReset = false →
    s.dev.marten.permCut[k] = false ∨ (s.dev.marten.permStill[k] = some t ∧ t + 1000 * msCyc ≤ s.dev.now) →
    s.dev.flag (F.DOOR_PERMIT_PERMIT k.val) = false →
    Completes (.doorPermitReturn k) s fun d => d.flag (F.DOOR_PERMIT_PERMIT k.val) = true ∧
      d.marten = { s.dev.marten with permCut := s.dev.marten.permCut.set k false } ∧
      Dev.Frame ([.doors, .motion, .marten] ++ noticeParts) (fun a => inBlock (6 + k.val) a || inBlock 19 a) s.dev d) ∧
  (∀ (s : State) (val : Word), s.dev.inReset = false → s.dev.mayUse 5 R.SOUT_APERM = true →
    Completes (.apermWrite 5 val) s fun d => (d.rd R.SOUT_APERM).toNat = val.toNat % 32 ∧
      (∀ x < 4, bitN (s.dev.rd R.SOUT_APERM).toNat x = true → bitN val.toNat x = false → d.bothOpen x = true) ∧
      Dev.Frame ([.sout, .bus] ++ reportParts) (fun a => inBlock 14 a || inBlock 19 a) s.dev d)

/-- CONFIRM and DISCARD are accepted as dictionary writes (R326); applied, a confirmation that no check refuses gives Badger the pending
set and compares the CRC: state 2 where it equals the written value, else state 1; a discard leaves nothing pending (R261, R262). BPARAM
and BMAP carry the set and the map to Badger four bytes at a time, and its CRC over what it holds shows in B_PCRC and B_MPCRC (R265,
R443). Where these meanings make a choice of the model, it stands in log entries 33, 46. -/
def Obligations.SafetySetTransfers : Prop :=
  (∀ (s : State) (c : Client) (crc : Word), s.dev.inReset = false → (s.dev.writeCheck c 0x2700 1 (leBytes 4 crc.toNat)).1 = 0 →
    s.dev.setFault = none →
    CompletesStaged (.parameterConfirm c crc) s c 0x2700 1 (leBytes 4 crc.toNat) fun d => d.badger.pset = setBytes s.dev.pendGet ∧
      (d.rd R.XCMP_B_PCRC).toNat = s.dev.pendCrc % 2 ^ 32 ∧
      d.od? 0x2700 4 = (if s.dev.pendCrc = crc.toNat then 2 else 1) ∧
      d.badger.confirmed = (if s.dev.pendCrc = crc.toNat then some s.dev.pendCrc else none) ∧
      Dev.Frame (.badger :: reportParts) (fun a => a = R.XCMP_B_PCRC || inBlock 19 a) s.dev d) ∧
  (∀ (s : State) (c : Client) (crc : Word) (r : Nat), s.dev.inReset = false →
    (s.dev.writeCheck c 0x2700 1 (leBytes 4 crc.toNat)).1 = 0 → s.dev.setFault = some r →
    CompletesStaged (.parameterConfirm c crc) s c 0x2700 1 (leBytes 4 crc.toNat) fun d => d.od? 0x2700 4 = 1 ∧ d.badger.confirmed = none ∧ d.badger.pset = s.dev.badger.pset ∧
      Dev.Frame (.badger :: reportParts) (inBlock 19) s.dev d) ∧
  (∀ (s : State) (c : Client), s.dev.inReset = false → (s.dev.writeCheck c 0x2700 6 [1]).1 = 0 →
    CompletesStaged (.parameterDiscard c) s c 0x2700 6 [1] fun d => d.odPend = [] ∧ d.badger = { s.dev.badger with confirmed := none } ∧
      d.od? 0x2700 4 = (if s.dev.nv.commissioned then 0 else 3) ∧ Dev.Frame [.od, .odPend, .badger] (fun _ => false) s.dev d) ∧
  (∀ (s : State) (val : Word), s.dev.inReset = false → s.dev.mayUse 5 R.XCMP_BPARAM = true →
    Completes (.bparamWrite 5 val) s fun d => d.badger = { s.dev.badger with pset := transfer s.dev.badger.pset setLen val } ∧
      d.rd R.XCMP_B_PCRC = BitVec.ofNat 32 (crc32 (transfer s.dev.badger.pset setLen val)) ∧
      Dev.Frame [.badger, .regs, .bus] (fun a => a = R.XCMP_BPARAM || a = R.XCMP_B_PCRC) s.dev d) ∧
  (∀ (s : State) (val : Word), s.dev.inReset = false → s.dev.mayUse 5 R.XCMP_BMAP = true →
    Completes (.bmapWrite 5 val) s fun d => d.badger = { s.dev.badger with pmap := transfer s.dev.badger.pmap s.dev.mapLen val } ∧
      d.rd R.XCMP_B_MPCRC = BitVec.ofNat 32 (crc32 (transfer s.dev.badger.pmap s.dev.mapLen val)) ∧
      Dev.Frame [.badger, .regs, .bus] (fun a => a = R.XCMP_BMAP || a = R.XCMP_B_MPCRC) s.dev d)

/-! ## SAFE-OUT -/

/-- The sequencer takes one state after another, each where its condition holds, with the instant of the change; APPLY opens both brakes,
DISABLE lets the STO lines fall, OFF opens every coil output (R279). A brake closed for its over-excitation time goes over to economy
(R278). Where these meanings make a choice of the model, it stands in log entries 2, 91. -/
def Obligations.SequencerAdvances : Prop :=
  (∀ s : State, s.dev.inReset = false → s.dev.seq = 0 → s.dev.driveEn = true → s.dev.sout.ttStep = 0 → s.dev.stopNow = false →
    s.dev.sout.vsLow = false → s.dev.anyOutFault = false → s.dev.sout.aSeen = true → s.dev.sout.bSeen = true → s.dev.sout.pfail = none →
    s.dev.startAllowed .a = true → s.dev.startAllowed .b = true →
    Completes .seqContact s fun d => d.seq = 1 ∧ d.sout = { s.dev.sout with seqAt := s.dev.now } ∧ d.flag F.SOUT_IRQ_SEQCHG = true ∧
      Dev.Frame [.sout, .regs, .nv] (fun a => a = R.SOUT_STATUS || a = R.SOUT_IRQ) s.dev d) ∧
  (∀ s : State, s.dev.inReset = false → s.dev.seq = 1 → s.dev.sout.seqAt + s.dev.par 0x2711 3 * msCyc ≤ s.dev.now →
    s.dev.driveTorque = true →
    Completes .seqRelease s fun d => d.seq = 2 ∧ d.sout = { s.dev.sout with seqAt := s.dev.now } ∧
      Dev.Frame [.sout, .regs, .nv] (fun a => a = R.SOUT_STATUS || a = R.SOUT_IRQ) s.dev d) ∧
  (∀ s : State, s.dev.inReset = false → s.dev.seq = 2 → s.dev.brakesShow true = true →
    Completes .seqRun s fun d => d.seq = 3 ∧ d.sout = { s.dev.sout with seqAt := s.dev.now } ∧
      Dev.Frame [.sout, .regs] (fun a => a = R.SOUT_STATUS || a = R.SOUT_IRQ) s.dev d) ∧
  (∀ s : State, s.dev.inReset = false → s.dev.chA.still = true → s.dev.chB.still = true →
    (s.dev.seq = 3 ∧ s.dev.pgState ∈ [0, 4]) ∨ (s.dev.seq ∈ [1, 2, 3] ∧ (s.dev.chA.state = 1 ∨ s.dev.chB.state = 1)) →
    Completes .seqApply s fun d => d.seq = 4 ∧ d.sout.seqAt = s.dev.now ∧ d.bothOpen 0 = true ∧ d.bothOpen 1 = true ∧
      Dev.Frame (.sout :: reportParts) (fun a => inBlock 14 a || inBlock 19 a) s.dev d) ∧
  (∀ s : State, s.dev.inReset = false → s.dev.seq = 4 → s.dev.sout.seqAt + s.dev.par 0x2712 5 * msCyc ≤ s.dev.now →
    s.dev.brakesShow false = true →
    Completes .seqDisable s fun d => d.seq = 5 ∧ d.sout.seqAt = s.dev.now ∧ d.sout.endDrive = true ∧ d.od? 0x2210 3 = 0 ∧
      (bitN (s.dev.rd R.SOUT_APERM).toNat 4 = true → d.sw 8 = false) ∧ (bitN (s.dev.rd R.SOUT_BPERM).toNat 4 = true → d.sw 9 = false) ∧
      Dev.Frame (.sout :: reportParts) (fun a => inBlock 14 a || inBlock 19 a) s.dev d) ∧
  (∀ s : State, s.dev.inReset = false → s.dev.seq = 5 → s.dev.sout.seqAt + s.dev.par 0x2711 4 * msCyc ≤ s.dev.now →
    Completes .seqOff s fun d => d.seq = 0 ∧ d.sout.seqAt = s.dev.now ∧ d.sout.endDrive = false ∧ (∀ x < 4, d.bothOpen x = true) ∧
      Dev.Frame (.sout :: reportParts) (fun a => inBlock 14 a || inBlock 19 a) s.dev d) ∧
  (∀ (s : State) (b : Fin 2), s.dev.inReset = false → s.dev.bothClosed b.val = true →
    s.dev.sout.tclose.toList.getD b.val 0 + s.dev.par 0x2711 1 * msCyc ≤ s.dev.now →
    Completes (.economyStart b) s fun d => d.flag (F.SOUT_OUT_STATE_ECON b.val) = true ∧
      Dev.Frame [.regs] (fun a => a = R.SOUT_OUT_STATE b.val) s.dev d)

/-- Woodpecker's tests: the next switch is inverted from 20 µs on (R280), passes on an expected sample, and fails at the end of its window
with code 4 or 5 (R277, R281); a node of another idle output that follows it gives both outputs code 8. Ages past the interval and past
ten intervals are reported and stop new trips (R283). Where these meanings make a choice of the model, it stands in log entries 2, 14, 83,
92, 131. -/
def Obligations.OutputTests : Prop :=
  (∀ (s : State) (rd : OutReading) (kind : Nat), s.dev.inReset = false → s.dev.sout.test = none → s.dev.sout.aSeen = true →
    s.dev.sout.bSeen = true → s.dev.sout.pfail = none →
    (∀ t ∈ s.dev.sout.lastTest, t + s.dev.par 0x2713 1 * msCyc / 20 ≤ (s.dev.at (20 * usCyc)).now) →
    s.dev.fld F.SOUT_TEST_NEXT < 8 ∨ s.dev.sw (s.dev.fld F.SOUT_TEST_NEXT) = true →
    (s.dev.at (20 * usCyc)).testKind (s.dev.fld F.SOUT_TEST_NEXT) rd = some kind →
    Completes (.outputTestStart rd) s fun d => d.now = max s.dev.now (s.dev.tick * 50000 + 8000) ∧
      d.sout = { s.dev.sout with test := some { s := s.dev.fld F.SOUT_TEST_NEXT, kind := kind, start := d.now }, lastTest := some d.now } ∧
      d.flag F.SOUT_TEST_BUSY = true ∧ d.fld F.SOUT_TEST_KIND = kind ∧ Dev.Frame [.now, .sout, .regs] (inBlock 14) s.dev d) ∧
  (∀ (s : State) (off : Nat) (rd : OutReading) (others : List OutReading) (t : TestRun), s.dev.inReset = false →
    s.dev.sout.test = some t → t.s < 10 → (t.kind ≠ 1 ∨ 8 ≤ t.s ∨ t.s % 2 ≠ 0 ∨ (s.dev.at off).crossed (swOutput t.s) others = []) →
    s.dev.testExpected t.s t.kind rd = true → (s.dev.at off).now < t.start + 300 * usCyc →
    Completes (.outputTestEnd off rd others) s fun d => d.sout.test = none ∧ d.sout.passed.toList.getD t.s 0 = d.now ∧
      d.sout.overdue.toList.getD t.s true = false ∧ d.fld F.SOUT_TEST_LASTRES = 1 ∧ d.fld F.SOUT_TEST_NEXT = (t.s + 1) % 10 ∧
      d.flag F.SOUT_TEST_BUSY = false ∧ (d.rd (R.SOUT_AGE t.s)).toNat = 0 ∧ Dev.Frame [.now, .sout, .regs] (inBlock 14) s.dev d) ∧
  (∀ (s : State) (off : Nat) (rd : OutReading) (others : List OutReading) (t : TestRun), s.dev.inReset = false →
    s.dev.sout.test = some t → t.s < 10 → t.start + 300 * usCyc ≤ (s.dev.at off).now → s.dev.outFaultCode (swOutput t.s) = 0 →
    causesSane s.dev.chA = true → causesSane s.dev.chB = true →
    Completes (.outputTestEnd off rd others) s fun d => d.sout.test = none ∧ d.fld F.SOUT_TEST_LASTRES = 2 ∧
      d.outFaultCode (swOutput t.s) = (if t.kind = 0 then 4 else 5) ∧ stopped d.chA 0x24 = true ∧ stopped d.chB 0x24 = true ∧
      Dev.Frame (.now :: chanParts) chanRegs s.dev d) ∧
  (∀ (s : State) (off : Nat) (rd : OutReading) (others : List OutReading) (t : TestRun) (y : Nat) (l : List Nat), s.dev.inReset = false →
    s.dev.sout.test = some t → t.kind = 1 → t.s < 8 → t.s % 2 = 0 → (s.dev.at off).crossed (swOutput t.s) others = y :: l →
    (s.dev.at off).now < t.start + 300 * usCyc →
    s.dev.outFaultCode (swOutput t.s) = 0 → s.dev.outFaultCode y = 0 →
    Completes (.outputTestEnd off rd others) s fun d => d.outFaultCode (swOutput t.s) = 8 ∧ d.outFaultCode y = 8 ∧
      Dev.Frame (.now :: chanParts) chanRegs s.dev d) ∧
  (∀ (s : State) (i : Fin 10), s.dev.inReset = false → s.dev.par 0x2713 1 * msCyc < s.dev.now - s.dev.sout.passed[i] →
    s.dev.sout.overdue[i] = false →
    Completes (.testOverdue i) s fun d => d.sout = { s.dev.sout with overdue := s.dev.sout.overdue.set i true } ∧
      d.flag F.SOUT_IRQ_OVERDUE = true ∧ Dev.Frame (.sout :: reportParts) (fun a => a = R.SOUT_IRQ || inBlock 19 a) s.dev d) ∧
  (∀ (s : State) (i : Fin 10), s.dev.inReset = false → s.dev.tooOld i.val = true →
    Completes (.testAgeLimit i) s fun d => d.chA.has 0x44 = true ∧
      Dev.Frame ([.chA, .badger] ++ reportParts) (inBlock 19) s.dev d)

/-- A current held at its limit for 10 ms latches code 6 (R277), a release or mirror input that differs for the monitoring time code 7
(R284); cause 0x24 stops the channels that find it: both for code 6, Marten for code 7. Where these meanings make a choice of the model,
it stands in log entry 131. -/
def Obligations.OutputFaultsStop : Prop :=
  (∀ (s : State) (x : Fin 6) (t : Nat), s.dev.inReset = false → s.dev.sout.oc[x] = some t → t + 10 * msCyc ≤ s.dev.now →
    s.dev.outFaultCode x.val = 0 → causesSane s.dev.chA = true → causesSane s.dev.chB = true →
    Completes (.outputOvercurrent x) s fun d => d.outFaultCode x.val = 6 ∧ alGet d.nv.outFaults x.val 0 = 6 ∧
      d.flag F.SOUT_IRQ_FAULT = true ∧ stopped d.chA 0x24 = true ∧ stopped d.chB 0x24 = true ∧ Dev.Frame chanParts chanRegs s.dev d) ∧
  (∀ (s : State) (x : Fin 4) (t : Nat), s.dev.inReset = false → s.dev.sout.mon[x] = some t →
    t + s.dev.par 0x2712 4 * msCyc ≤ s.dev.now → s.dev.outFaultCode x.val = 0 → causesSane s.dev.chA = true →
    Completes (.releaseMonitorFault x) s fun d => d.outFaultCode x.val = 7 ∧ stopped d.chA 0x24 = true ∧ d.chB = s.dev.chB ∧
      Dev.Frame chanParts chanRegs s.dev d)

/-- The static brake torque test: it falls due with its interval, starts at a quiet point with the first brake in use held, goes to the
other brake or ends as passed through APPLY (R285), and adds cause 0x44 after two intervals without a pass (R286). A valid edge of the
reset pads counts (R287) and releases both channels from LOCKOUT where each may leave and every faulted output reads idle (R266, R277).
Pads that are stuck or disagree are ignored until both have been inactive for 1 s (R288). Where these meanings make a choice of the model,
it stands in log entries 3, 4, 7, 83, 84, 86, 87. -/
def Obligations.TorqueTestAndSiteReset : Prop :=
  (∀ s : State, s.dev.inReset = false → s.dev.sout.ttStep = 0 → s.dev.torqueInterval ≤ s.dev.now - s.dev.sout.ttLast →
    Completes .torqueTestDue s fun d => d.fld F.SOUT_STATUS_TTSTATE = 1 ∧ Dev.Frame [.regs] (fun a => a = R.SOUT_STATUS) s.dev d) ∧
  (∀ s : State, s.dev.inReset = false → s.dev.sout.ttStep = 0 → s.dev.torqueInterval ≤ s.dev.now - s.dev.sout.ttLast →
    s.dev.quietPoint = true → s.dev.bothRun = true → s.dev.carEmpty = true → s.dev.chainClosed = true → s.dev.seq = 0 →
    s.dev.sout.vsLow = false → s.dev.anyOutFault = false →
    Completes .torqueTestStart s fun d =>
      d.sout = { s.dev.sout with seqAt := s.dev.now, ttStep := 1, ttBrake := if bitN s.dev.brakesInUse 0 then 0 else 1,
                                 ttA := s.dev.chA.pos, ttB := s.dev.chB.pos, ttMax := 0 } ∧
      d.seq = 6 ∧ d.fld F.SOUT_STATUS_TTSTATE = 2 ∧ Dev.Frame [.sout, .regs] (inBlock 14) s.dev d) ∧
  (∀ s : State, s.dev.inReset = false → s.dev.sout.ttStep = 2 → s.dev.sout.ttAt + s.dev.par 0x2715 2 * msCyc ≤ s.dev.now →
    s.dev.sout.ttBrake = 0 → bitN s.dev.brakesInUse 1 = true →
    Completes .torqueTestStepEnd s fun d => d.sout.ttStep = 1 ∧ d.sout.ttBrake = 1 ∧ d.sout.ttA = s.dev.chA.pos ∧
      d.sout.ttB = s.dev.chB.pos ∧ Dev.Frame (.sout :: reportParts) (fun a => inBlock 14 a || inBlock 19 a) s.dev d) ∧
  (∀ s : State, s.dev.inReset = false → s.dev.sout.ttStep = 2 → s.dev.sout.ttAt + s.dev.par 0x2715 2 * msCyc ≤ s.dev.now →
    s.dev.sout.ttBrake ≠ 0 ∨ bitN s.dev.brakesInUse 1 = false →
    Completes .torqueTestStepEnd s fun d => d.sout.ttStep = 0 ∧ d.sout.ttLast = s.dev.now ∧ d.fld F.SOUT_STATUS_TTSTATE = 3 ∧
      d.seq = 4 ∧ d.flag F.SOUT_IRQ_TTEST = true ∧
      Dev.Frame (.sout :: reportParts) (fun a => inBlock 14 a || inBlock 19 a) s.dev d) ∧
  (∀ s : State, s.dev.inReset = false → s.dev.torqueOld = true →
    Completes .torqueTestOverdue s fun d => d.chA.has 0x44 = true ∧ Dev.Frame ([.chA, .badger] ++ reportParts) (inBlock 19) s.dev d) ∧
  (∀ (s : State) (e : ResetEdge), s.dev.inReset = false → edgeValid e = true → s.dev.sout.ignore = false → s.dev.chA.booting = false →
    s.dev.chB.booting = false → s.dev.level ≠ 2 → s.dev.chA.state ≠ 3 → s.dev.chB.state ≠ 3 →
    s.dev.fld F.SOUT_RST_EDGES < 2 ^ F.SOUT_RST_EDGES.width - 1 →
    Completes (.onSiteResetEdge e) s fun d => d.fld F.SOUT_RST_EDGES = s.dev.fld F.SOUT_RST_EDGES + 1 ∧
      d.flag F.SOUT_IRQ_RESET = true ∧
      Dev.Frame (.fresh :: reportParts) (fun a => a = R.SOUT_RST || a = R.SOUT_IRQ || inBlock 19 a) s.dev d) ∧
  (∀ (s : State) (e : ResetEdge), s.dev.inReset = false → edgeValid e = true → s.dev.sout.ignore = false → s.dev.chA.booting = false →
    s.dev.chB.booting = false → s.dev.level ≠ 2 → s.dev.mayRelease .a s.dev.level = true → s.dev.mayRelease .b s.dev.level = true →
    s.dev.faultsIdle = true →
    Completes (.onSiteResetEdge e) s fun d => d.chA.state ≠ 3 ∧ d.chB.state ≠ 3 ∧ (∀ x < 6, d.outFaultCode x = 0) ∧
      d.nv.lockouts = [] ∧ d.flag F.XCMP_STATUS_TRIP = false ∧
      Dev.Frame ([.fresh, .chA, .chB, .badger] ++ reportParts) chanRegs s.dev d) ∧
  (∀ (s : State) (mask : Fin 4), s.dev.inReset = false → s.dev.sout.ignore = false → mask ≠ 0 →
    Completes (.stuckReset mask) s fun d => d.sout = { s.dev.sout with ignore := true } ∧ d.fld F.SOUT_RST_LEVELS = mask.val ∧
      d.flag F.SOUT_RST_STUCK = true ∧ Dev.Frame (.sout :: reportParts) (fun a => a = R.SOUT_RST || inBlock 19 a) s.dev d) ∧
  (∀ (s : State) (levels : Fin 4), s.dev.inReset = false → s.dev.sout.ignore = false → levels ≠ 0 → levels ≠ 3 →
    Completes (.resetPadsDisagree levels) s fun d => d.sout = { s.dev.sout with ignore := true } ∧
      d.fld F.SOUT_RST_LEVELS = levels.val ∧ d.flag F.SOUT_RST_DISAGREE = true ∧
      Dev.Frame (.sout :: reportParts) (fun a => a = R.SOUT_RST || inBlock 19 a) s.dev d) ∧
  (∀ s : State, s.dev.inReset = false →
    Completes .resetPadsRearm s fun d => d.sout = { s.dev.sout with ignore := false } ∧ d.fld F.SOUT_RST_LEVELS = 0 ∧
      d.flag F.SOUT_RST_STUCK = false ∧ d.flag F.SOUT_RST_DISAGREE = false ∧ Dev.Frame [.sout, .regs] (fun a => a = R.SOUT_RST) s.dev d)

/-! ## IO24 -/

/-- A level that an input has held for its filter window is accepted: it is the reading of a general channel (R295), or that of one safety
channel for a safety input or a chain tap (R296, R300), where the other channel's reading stays. A level held for less is accepted
nowhere. INRAW shows the comparator of a general channel either way. A tap order that has stayed wrong for 500 ms sets the flag that it is
reported, within the registers of the notices (R301). A test-pulse output is low from its scheduled 10 µs on (R297), and at the end of its
window it is high again and judged: its own fault bit says whether it read low in the second half and high outside (R299). Where these
meanings make a choice of the model, it stands in log entry 14. -/
def Obligations.FieldInputs : Prop :=
  (∀ (s : State) (c : Fin 52) (lvl : Bool) (held off : Nat), s.dev.inReset = false →
    s.dev.fldF (F.IO24_INCFG_FILT c.val) * 40000 ≤ held →
    Completes (.inputLevelAccepted (.gen c) lvl ⟨held, off⟩) s fun d => d.io = { s.dev.io with acc := putBit s.dev.io.acc c.val lvl } ∧
      d.rd (R.IO24_INRAW (c.val / 32)) = BitVec.ofNat 32 (putBit (s.dev.rd (R.IO24_INRAW (c.val / 32))).toNat (c.val % 32) lvl) ∧
      Dev.Frame (.now :: .io :: .cmpl :: noticeParts) (fun a => a = R.IO24_INRAW (c.val / 32) || inBlock 3 a || inBlock 19 a) s.dev d) ∧
  (∀ (s : State) (c : Fin 52) (lvl : Bool) (held off : Nat), s.dev.inReset = false →
    held < s.dev.fldF (F.IO24_INCFG_FILT c.val) * 40000 →
    Completes (.inputLevelAccepted (.gen c) lvl ⟨held, off⟩) s fun d =>
      d.rd (R.IO24_INRAW (c.val / 32)) = BitVec.ofNat 32 (putBit (s.dev.rd (R.IO24_INRAW (c.val / 32))).toNat (c.val % 32) lvl) ∧
      Dev.Frame [.now, .regs] (fun a => a = R.IO24_INRAW (c.val / 32)) s.dev d) ∧
  (∀ (s : State) (ch : Chan) (i : Fin 16) (lvl : Bool) (held off : Nat), s.dev.inReset = false →
    s.dev.parOf ch 0x2709 9 * 40000 ≤ held →
    Completes (.inputLevelAccepted (.sin ch i) lvl ⟨held, off⟩) s fun d =>
      d.ch ch = { s.dev.ch ch with sin := putBit (s.dev.ch ch).sin i.val lvl } ∧ d.ch (otherCh ch) = s.dev.ch (otherCh ch) ∧
      (ch = .a ∨ i.val < 14 → d.badger = s.dev.badger) ∧
      Dev.Frame ([.now, .chA, .chB, .badger, .cmpl] ++ noticeParts) (fun a => inBlock 3 a || inBlock 19 a) s.dev d) ∧
  (∀ (s : State) (ch : Chan) (t : Fin 6) (lvl : Bool) (held off : Nat), s.dev.inReset = false →
    s.dev.parOf ch 0x2709 9 * 40000 ≤ held →
    Completes (.inputLevelAccepted (.tap ch t) lvl ⟨held, off⟩) s fun d =>
      d.ch ch = { s.dev.ch ch with taps := putBit (s.dev.ch ch).taps t.val lvl } ∧ d.ch (otherCh ch) = s.dev.ch (otherCh ch) ∧
      Dev.Frame [.now, .chA, .chB] (fun _ => false) s.dev d) ∧
  (∀ (s : State) (ch : Chan) (i : Fin 16) (t : Fin 6) (lvl : Bool) (held off : Nat), s.dev.inReset = false →
    held < s.dev.parOf ch 0x2709 9 * 40000 →
    Completes (.inputLevelAccepted (.sin ch i) lvl ⟨held, off⟩) s (fun d => Dev.Frame [.now] (fun _ => false) s.dev d) ∧
    Completes (.inputLevelAccepted (.tap ch t) lvl ⟨held, off⟩) s fun d => Dev.Frame [.now] (fun _ => false) s.dev d) ∧
  (∀ (s : State) (t : Nat), s.dev.inReset = false → s.dev.io.tapAt = some t → t + 500 * msCyc ≤ s.dev.now → s.dev.io.tapLog = false →
    Completes .chainTapOrder s fun d => d.io = { s.dev.io with tapLog := true } ∧ Dev.Frame (.io :: noticeParts) (inBlock 19) s.dev d) ∧
  (∀ (s : State) (t : Fin 4), s.dev.inReset = false → s.dev.io.tpOn = true → s.dev.sout.pfail = none →
    s.dev.tick % (8 * s.dev.par 0x270A 10) = 2 * s.dev.par 0x270A 10 * t.val →
    Completes (.testPulseWindow t) s fun d => bitN (d.fld F.IO24_TP_LVL) t.val = false ∧
      (∀ u < 4, u ≠ t.val → bitN (d.fld F.IO24_TP_LVL) u = bitN (s.dev.fld F.IO24_TP_LVL) u) ∧
      d.now = max s.dev.now (s.dev.tick * 50000 + 4000) ∧ Dev.Frame [.now, .regs] (fun a => a = R.IO24_TP) s.dev d) ∧
  (∀ (s : State) (t : Fin 4) (j : PulseReading), s.dev.inReset = false → s.dev.io.tpOn = true →
    bitN (s.dev.fld F.IO24_TP_LVL) t.val = false →
    Completes (.testPulseJudge t j) s fun d => bitN (d.fld F.IO24_TP_LVL) t.val = true ∧
      bitN (d.fld F.IO24_TP_FLT) t.val = (!j.lowHalf || j.lowOutside) ∧
      Dev.Frame chanParts (fun a => inBlock 13 a || chanRegs a) s.dev d)

/-- A write of OUTSET sets the bits it names in OUTCMD and a write of OUTCLR clears them (R303). A write of an input or an output map, at
presence level 1 or above, moves the logical channel to its own pad or to a spare that is free for it, and an input map keeps the written
type and filter with its channel (R309). A pad in thermal shutdown is off with TSD and IRQ.THERM set. Below four shutdowns in 60 s it is
counted in THERMCNT and keeps its fault code; the fourth latches code 3 with IRQ.OUTFLT; while its field supply is not OK it is not
counted. Once it has cooled it is on again where it is demanded and not latched. A pad below 5 mA for 100 ms has code 4 (R305). A write of
CLRF waits for the next sample point (R24, R307). A field supply that changes shows its new state and voltage and sets IRQ.FIELD (R308).
Where these meanings make a choice of the model, it stands in log entries 14, 30, 33, 88. -/
def Obligations.FieldOutputs : Prop :=
  (∀ (s : State) (m : Master) (val : Word), s.dev.inReset = false → s.dev.mayUse m R.IO24_OUTSET = true →
    Completes (.outsetWrite m val) s fun d => d.rd R.IO24_OUTCMD = s.dev.rd R.IO24_OUTCMD ||| val ∧
      Dev.Frame [.regs, .bus] (fun a => a = R.IO24_OUTCMD) s.dev d) ∧
  (∀ (s : State) (m : Master) (val : Word), s.dev.inReset = false → s.dev.mayUse m R.IO24_OUTCLR = true →
    Completes (.outclrWrite m val) s fun d => d.rd R.IO24_OUTCMD = s.dev.rd R.IO24_OUTCMD &&& ~~~ val ∧
      Dev.Frame [.regs, .bus] (fun a => a = R.IO24_OUTCMD) s.dev d) ∧
  (∀ (s : State) (m : Master) (out : Bool) (n : Fin 52) (val : Word), s.dev.inReset = false →
    s.dev.mayUse m (if out then R.IO24_OUTMAP n.val else R.IO24_INCFG n.val) = true →
    n.val < (if out then 32 else 48) → 1 ≤ s.dev.level → s.dev.padFree out n.val (fldOf val (padField out n.val)) = true →
    Completes (.channelRemap m out n val) s fun d => d.fld (padField out n.val) = fldOf val (padField out n.val) ∧
      (out = false → d.fld (F.IO24_INCFG_TYPE n.val) = fldOf val (F.IO24_INCFG_TYPE n.val) ∧
        d.fld (F.IO24_INCFG_FILT n.val) = fldOf val (F.IO24_INCFG_FILT n.val)) ∧
      Dev.Frame ([.bus, .nv, .memc] ++ noticeParts) (fun a => a = (padField out n.val).addr || inBlock 19 a) s.dev d) ∧
  (∀ (s : State) (p : Fin 36) (ma off : Nat), s.dev.inReset = false → s.dev.flag (F.IO24_OUTSTAT_ON p.val) = true →
    s.dev.supplyOk (padSupply p.val) = true → (recentTherm (s.dev.padSt p) (s.dev.at off).now).length < 3 →
    Completes (.thermalShutdown p ma off) s fun d => d.flag (F.IO24_OUTSTAT_ON p.val) = false ∧
      d.flag (F.IO24_OUTSTAT_TSD p.val) = true ∧ d.flag F.IO24_IRQ_THERM = true ∧
      d.fld (F.IO24_OUTSTAT_THERMCNT p.val) = (recentTherm (s.dev.padSt p) (s.dev.at off).now).length + 1 ∧
      d.padFault p.val = s.dev.padFault p.val ∧
      Dev.Frame ([.now, .io, .nv] ++ noticeParts) (fun a => a = R.IO24_OUTSTAT p.val || a = R.IO24_IRQ || inBlock 19 a) s.dev d) ∧
  (∀ (s : State) (p : Fin 36) (ma off : Nat), s.dev.inReset = false → s.dev.flag (F.IO24_OUTSTAT_ON p.val) = true →
    s.dev.supplyOk (padSupply p.val) = true → 3 ≤ (recentTherm (s.dev.padSt p) (s.dev.at off).now).length →
    Completes (.thermalShutdown p ma off) s fun d => d.flag (F.IO24_OUTSTAT_ON p.val) = false ∧ d.padFault p.val = 3 ∧
      d.flag F.IO24_IRQ_OUTFLT = true ∧
      Dev.Frame ([.now, .io, .nv] ++ noticeParts) (fun a => a = R.IO24_OUTSTAT p.val || a = R.IO24_IRQ || inBlock 19 a) s.dev d) ∧
  (∀ (s : State) (p : Fin 36) (ma off : Nat), s.dev.inReset = false → s.dev.flag (F.IO24_OUTSTAT_ON p.val) = true →
    s.dev.supplyOk (padSupply p.val) = false →
    Completes (.thermalShutdown p ma off) s fun d => d.flag (F.IO24_OUTSTAT_ON p.val) = false ∧
      d.flag (F.IO24_OUTSTAT_TSD p.val) = true ∧ (d.padSt p).therm = (s.dev.padSt p).therm ∧ d.padFault p.val = s.dev.padFault p.val ∧
      Dev.Frame ([.now, .io, .nv] ++ noticeParts) (fun a => a = R.IO24_OUTSTAT p.val || a = R.IO24_IRQ || inBlock 19 a) s.dev d) ∧
  (∀ (s : State) (p : Fin 36), s.dev.inReset = false → s.dev.flag (F.IO24_OUTSTAT_TSD p.val) = true →
    Completes (.thermalRestart p) s fun d => d.flag (F.IO24_OUTSTAT_TSD p.val) = false ∧
      d.flag (F.IO24_OUTSTAT_ON p.val) = (s.dev.padWanted p.val && !s.dev.padLatched p.val && s.dev.sout.pfail == none) ∧
      Dev.Frame [.io, .nv, .regs] (fun a => a = R.IO24_OUTSTAT p.val) s.dev d) ∧
  (∀ (s : State) (p : Fin 36) (ma t : Nat), s.dev.inReset = false → (s.dev.padSt p).olAt = some t → t + 100 * msCyc ≤ s.dev.now →
    ma < 5 → s.dev.padFault p.val = 0 →
    Completes (.openLoad p ma) s fun d => d.padFault p.val = 4 ∧
      Dev.Frame noticeParts (fun a => a = R.IO24_OUTSTAT p.val || inBlock 19 a) s.dev d) ∧
  (∀ (s : State) (m : Master) (val : Word) (off : Nat), s.dev.inReset = false → s.dev.mayUse m R.IO24_CLRF = true →
    Completes (.clearFault m val off) s fun d => d.io = { s.dev.io with clr := some val } ∧
      Dev.Frame [.now, .io, .bus] (fun _ => false) s.dev d) ∧
  (∀ (s : State) (f : Fin 2) (u : SupplyState) (mv : Nat), s.dev.inReset = false → s.dev.fld (F.IO24_FIELD_STATE f.val) ≠ supplyNum u →
    mv < 655360 →
    Completes (.fieldSupplyStateChange f u mv) s fun d => d.fld (F.IO24_FIELD_STATE f.val) = supplyNum u ∧
      d.fld (F.IO24_FIELD_VOLT f.val) = mv / 10 ∧ d.flag F.IO24_IRQ_FIELD = true ∧
      (u = .ok → d.io.okAt.toList.getD f.val 0 = s.dev.now) ∧
      Dev.Frame (.io :: noticeParts) (fun a => a = R.IO24_FIELD f.val || a = R.IO24_IRQ || inBlock 19 a) s.dev d)

/-! ## CANX, ODE and the service port -/

/-- The registers of one CAN port. -/
def Sys2Proof.Machine.portRegs (p : Fin 2) (a : Nat) : Bool := inBlock (10 + p.val) a

/-- The write stands behind the writes that were accepted before it (R326, R327). -/
def Sys2Proof.Machine.nowStaged (s : Dev) (c : Client) (idx sub : Nat) (bytes : List Byte) : List Staged :=
  stageInto { client := c, at_ := s.now, idx := idx, sub := sub, bytes := bytes } s.ode.staged

/-- The entries of a frame or a batch stand staged one behind the other. -/
def Sys2Proof.Machine.allStaged (s : Dev) (c : Client) (l : List (Nat × Nat × List Byte)) : List Staged :=
  l.foldl (fun q e => stageInto { client := c, at_ := s.now, idx := e.1, sub := e.2.1, bytes := e.2.2 } q) s.ode.staged

/-- The module once REQ of a master's window is written. -/
def Sys2Proof.Machine.requested (s : Dev) (m : Master) (val : Word) : Dev := s.wr (R.ODE_L_REQ m.val) val

/-- An NMT command that the port hears sets its state; both resets start the port again, which sends its boot-up message and is
Operational (R317; the start of a port in one step is the model's choice, log 58). Fault confinement (R316): bus-off sets BUSOFF, TEC and
ERRCHG; the recovery clears both counters and error flags and sends the boot-up message; error passive and the return from it set EPASS
and both counters, and the return raises ERRCHG. Where these meanings make a choice of the model, it stands in log entries 57, 58. -/
def Obligations.CanPortStates : Prop :=
  (∀ (s : State) (p : Fin 2) (node : Nat), s.dev.inReset = false → s.dev.nmtHeard p node = true →
    Completes (.nmtStartRemoteNode p node) s fun d => d.fld (F.CANX_STATUS_NMT p.val) = 2 ∧ Dev.Frame [.regs] (portRegs p) s.dev d) ∧
  (∀ (s : State) (p : Fin 2) (node : Nat), s.dev.inReset = false → s.dev.nmtHeard p node = true →
    Completes (.nmtStopRemoteNode p node) s fun d => d.fld (F.CANX_STATUS_NMT p.val) = 3 ∧ Dev.Frame [.regs] (portRegs p) s.dev d) ∧
  (∀ (s : State) (p : Fin 2) (node : Nat), s.dev.inReset = false → s.dev.nmtHeard p node = true →
    Completes (.nmtEnterPreOperational p node) s fun d => d.fld (F.CANX_STATUS_NMT p.val) = 1 ∧ Dev.Frame [.regs] (portRegs p) s.dev d) ∧
  (∀ (s : State) (p : Fin 2) (node : Nat), s.dev.inReset = false → s.dev.nmtHeard p node = true →
    Completes (.nmtResetCommunication p node) s fun d => d.fld (F.CANX_STATUS_NMT p.val) = 2 ∧
      d.can[p].out = some { id := 0x700 + s.dev.fld (F.CANX_CFG_NODEID p.val), data := [0] } ∧ d.can[p].sent = s.dev.can[p].sent + 1 ∧
      (∀ q : Fin 2, q ≠ p → d.can[q] = s.dev.can[q]) ∧ Dev.Frame [.can, .regs] (portRegs p) s.dev d) ∧
  (∀ (s : State) (p : Fin 2) (node : Nat), s.dev.inReset = false → s.dev.nmtHeard p node = true →
    Completes (.nmtResetNode p node) s fun d => d.fld (F.CANX_STATUS_NMT p.val) = 2 ∧
      d.can[p].out = some { id := 0x700 + s.dev.fld (F.CANX_CFG_NODEID p.val), data := [0] } ∧
      Dev.Frame noticeParts (fun a => portRegs p a || inBlock 19 a) s.dev d) ∧
  (∀ (s : State) (p : Fin 2) (tec : Nat), s.dev.inReset = false → s.dev.portOn p = true →
    s.dev.flag (F.CANX_STATUS_BUSOFF p.val) = false →
    Completes (.busOff p tec) s fun d => d.flag (F.CANX_STATUS_BUSOFF p.val) = true ∧ d.fld (F.CANX_STATUS_TEC p.val) = min tec 255 ∧
      d.flag (F.CANX_IRQ_ERRCHG p.val) = true ∧ Dev.Frame noticeParts (fun a => portRegs p a || inBlock 19 a) s.dev d) ∧
  (∀ (s : State) (p : Fin 2), s.dev.inReset = false → s.dev.portOn p = true → s.dev.flag (F.CANX_STATUS_BUSOFF p.val) = true →
    Completes (.busOffRecovery p) s fun d => d.flag (F.CANX_STATUS_BUSOFF p.val) = false ∧ d.flag (F.CANX_STATUS_EPASS p.val) = false ∧
      d.fld (F.CANX_STATUS_TEC p.val) = 0 ∧ d.fld (F.CANX_STATUS_REC p.val) = 0 ∧ d.fld (F.CANX_STATUS_NMT p.val) = 2 ∧
      d.can[p].out = some { id := 0x700 + s.dev.fld (F.CANX_CFG_NODEID p.val), data := [0] } ∧
      Dev.Frame [.can, .regs] (portRegs p) s.dev d) ∧
  (∀ (s : State) (p : Fin 2) (tec rec_ : Nat), s.dev.inReset = false → s.dev.portOn p = true →
    Completes (.errorPassive p tec rec_) s fun d => d.flag (F.CANX_STATUS_EPASS p.val) = true ∧
      d.fld (F.CANX_STATUS_TEC p.val) = min tec 255 ∧ d.fld (F.CANX_STATUS_REC p.val) = min rec_ 255 ∧
      Dev.Frame noticeParts (fun a => portRegs p a || inBlock 19 a) s.dev d) ∧
  (∀ (s : State) (p : Fin 2) (tec rec_ : Nat), s.dev.inReset = false → s.dev.portOn p = true →
    Completes (.errorActiveReturn p tec rec_) s fun d => d.flag (F.CANX_STATUS_EPASS p.val) = false ∧
      d.fld (F.CANX_STATUS_TEC p.val) = min tec 255 ∧ d.fld (F.CANX_STATUS_REC p.val) = min rec_ 255 ∧
      (s.dev.flag (F.CANX_STATUS_EPASS p.val) = true → d.flag (F.CANX_IRQ_ERRCHG p.val) = true) ∧
      Dev.Frame [.regs] (portRegs p) s.dev d)

/-- What a port sends on its own: its heartbeat with the code of its state (R317), the oldest waiting emergency message once the inhibit
time has passed (R330), a TPDO but the ninth that changed or whose timer ran out (R319), and the two frames of SRDO 1, of which the last
one sent has the second identifier and begins with the inverse of the state of channel A (R322). A whole and matching SRDO 2 ends its
invalidity and counts the pairs in a row that contradict the STO readback; the third latches fault code 1 on STO[0] and stops channel A
with cause 0x24. After an invalid SRDO 2 the count is 0 and Marten withholds its MC permits while SEQ is OFF (R322). Where these meanings
make a choice of the model, it stands in log entries 45, 59, 91. -/
def Obligations.CanFrames : Prop :=
  (∀ (s : State) (p : Fin 2), s.dev.inReset = false → s.dev.portTalks p = true → s.dev.od? 0x1017 0 ≠ 0 →
    Completes (.canopenHeartbeat p) s fun d =>
      d.can[p].out = some { id := 0x700 + s.dev.fld (F.CANX_CFG_NODEID p.val),
                            data := [if s.dev.fld (F.CANX_STATUS_NMT p.val) = 1 then 127 else if s.dev.fld (F.CANX_STATUS_NMT p.val) = 2 then 5 else 4] } ∧
      (∀ q : Fin 2, q ≠ p → d.can[q] = s.dev.can[q]) ∧ Dev.Frame [.can] (fun _ => false) s.dev d) ∧
  (∀ (s : State) (p : Fin 2) (e : Emcy) (t : List Emcy), s.dev.inReset = false → s.dev.can[p].emcy = e :: t →
    s.dev.portTalks p = true → s.dev.fld (F.CANX_STATUS_NMT p.val) ∈ [1, 2] → s.dev.emcyFree p = true →
    Completes (.emergencyMessage p) s fun d => d.can[p].emcy = t ∧ d.can[p].emAt = some s.dev.now ∧
      d.can[p].out = some { id := s.dev.od? 0x1014 0 + s.dev.fld (F.CANX_CFG_NODEID p.val), data := s.dev.emcyBytes p e } ∧
      d.flag (F.CANX_IRQ_EMCY p.val) = true ∧ (∀ q : Fin 2, q ≠ p → d.can[q] = s.dev.can[q]) ∧
      Dev.Frame [.can, .regs] (fun a => a = R.CANX_IRQ p.val) s.dev d) ∧
  (∀ (s : State) (n : Fin 16), s.dev.inReset = false → n ≠ 8 → s.dev.pdoOn 0x1800 n = true → s.dev.tpdoFree n = true →
    s.dev.tpdoData n ≠ (s.dev.ode.tpdo[n]).last ∨ s.dev.tpdoTimer n = true →
    Completes (.tpdoSend n) s fun d =>
      d.can[pdoPort n].out = some { id := s.dev.cobId 0x1800 n % 2048, data := s.dev.tpdoData n } ∧
      d.ode = { s.dev.ode with tpdo := s.dev.ode.tpdo.set n { last := s.dev.tpdoData n, at_ := some s.dev.now } } ∧
      Dev.Frame [.can, .ode] (fun _ => false) s.dev d) ∧
  (∀ s : State, s.dev.inReset = false → s.dev.srdoRuns = true → s.dev.od? 0x1301 1 = 1 →
    Completes .srdo1Send s fun d => d.can[(1 : Fin 2)].sent = s.dev.can[(1 : Fin 2)].sent + 2 ∧
      (d.can[(1 : Fin 2)].out.map fun f => f.id) = some (s.dev.od? 0x1301 6) ∧
      (d.can[(1 : Fin 2)].out.map fun f => f.data.take 1) = some [~~~ by8 s.dev.chA.state] ∧ d.can[(0 : Fin 2)] = s.dev.can[(0 : Fin 2)] ∧
      Dev.Frame [.can] (fun _ => false) s.dev d) ∧
  (∀ (s : State) (b : List Byte), s.dev.inReset = false → s.dev.srdo2On = true → s.dev.srdoRuns = true → b ≠ [] →
    (b.headD 0 = 1 ∧ s.dev.fld (F.SOUT_STO_STATE_HCLASS 0) = 0 ∧ s.dev.fld (F.SOUT_STO_STATE_HCLASS 1) = 0 → s.dev.ode.contra < 2) →
    Completes (.srdo2Received b (b.map fun x => ~~~ x)) s fun d => d.marten = { s.dev.marten with srdoBad := false } ∧
      d.ode.contra = (if b.headD 0 = 1 ∧ s.dev.fld (F.SOUT_STO_STATE_HCLASS 0) = 0 ∧ s.dev.fld (F.SOUT_STO_STATE_HCLASS 1) = 0
        then s.dev.ode.contra + 1 else 0) ∧
      Dev.Frame ([.ode, .marten, .sout] ++ reportParts) (fun a => inBlock 14 a || inBlock 19 a) s.dev d) ∧
  (∀ (s : State) (b : List Byte), s.dev.inReset = false → s.dev.srdo2On = true → s.dev.srdoRuns = true → b.headD 0 = 1 →
    s.dev.fld (F.SOUT_STO_STATE_HCLASS 0) = 0 → s.dev.fld (F.SOUT_STO_STATE_HCLASS 1) = 0 → 2 ≤ s.dev.ode.contra →
    s.dev.outFaultCode 4 = 0 → causesSane s.dev.chA = true →
    Completes (.srdo2Received b (b.map fun x => ~~~ x)) s fun d => d.outFaultCode 4 = 1 ∧ stopped d.chA 0x24 = true ∧ d.chB = s.dev.chB ∧
      Dev.Frame ([.ode, .marten] ++ chanParts) chanRegs s.dev d) ∧
  (∀ (s : State) (kind : Fin 3), s.dev.inReset = false → s.dev.srdo2On = true → s.dev.chA.booting = false →
    Completes (.srdo2Invalid kind) s fun d => d.marten = { s.dev.marten with srdoBad := true } ∧ d.ode = { s.dev.ode with contra := 0 } ∧
      (s.dev.seq = 0 → bitN (d.rd R.SOUT_APERM).toNat 2 = false ∧ bitN (d.rd R.SOUT_APERM).toNat 3 = false) ∧
      Dev.Frame ([.ode, .marten, .sout] ++ reportParts) (fun a => inBlock 14 a || inBlock 19 a) s.dev d)

/-- A write that passes the checks of R324 is staged and changes no entry yet; one that fails changes nothing but the records (R324,
R326). SDO answers with 0 or the abort code (R318); an APPLY fence is a write like another, which takes effect once its client's earlier
writes have (R328). Where these meanings make a choice of the model, it stands in log entry 50. -/
def Obligations.DictionaryWrites : Prop :=
  (∀ (s : State) (c : Client) (idx sub : Nat) (b : List Byte), s.dev.inReset = false → (s.dev.writeCheck c idx sub b).1 = 0 →
    Completes (.dictionaryWrite c idx sub b) s fun d => d.ode = { s.dev.ode with staged := nowStaged s.dev c idx sub b } ∧
      Dev.Frame [.ode, .nv, .regs] (fun a => a = R.ODE_STATUS) s.dev d) ∧
  (∀ (s : State) (c : Client) (idx sub : Nat) (b : List Byte), s.dev.inReset = false → (s.dev.writeCheck c idx sub b).1 ≠ 0 →
    Completes (.dictionaryWrite c idx sub b) s fun d => d.ode = s.dev.ode ∧ Dev.Frame noticeParts (inBlock 19) s.dev d) ∧
  (∀ (s : State) (c : Client) (val : Word), s.dev.inReset = false → (s.dev.writeCheck c 0x2F00 1 (leBytes 4 val.toNat)).1 = 0 →
    Completes (.applyFence c val) s fun d => d.ode = { s.dev.ode with staged := nowStaged s.dev c 0x2F00 1 (leBytes 4 val.toNat) } ∧
      Dev.Frame [.ode, .nv, .regs] (fun a => a = R.ODE_STATUS) s.dev d) ∧
  (∀ (s : State) (c : Client) (w : Staged) (l : List Staged), s.dev.inReset = false → firstFence c s.dev.ode.staged = some (w, l) →
    Completes (.fenceApplied c) s fun d => d.ode.staged = l ∧ d.ode.fences.find? (fun x => x.1 == c) = some (c, ofLe w.bytes) ∧
      Dev.Frame [.ode, .regs] (fun a => a = R.ODE_STATUS) s.dev d) ∧
  (∀ (s : State) (p : Fin 2) (node idx sub : Nat) (b : List Byte), s.dev.inReset = false → s.dev.portTalks p = true →
    (s.dev.writeCheck (.sdo p node) idx sub b).1 = 0 →
    Completes (.sdoDownload p node idx sub b) s fun d =>
      d.can[p].sdo = some { node := node, idx := idx, sub := sub, abort := 0, data := [] } ∧
      d.ode = { s.dev.ode with staged := nowStaged s.dev (.sdo p node) idx sub b } ∧
      Dev.Frame [.can, .ode, .nv, .regs] (fun a => a = R.ODE_STATUS) s.dev d) ∧
  (∀ (s : State) (p : Fin 2) (node idx sub : Nat) (b : List Byte), s.dev.inReset = false → s.dev.portTalks p = true →
    (s.dev.writeCheck (.sdo p node) idx sub b).1 ≠ 0 →
    Completes (.sdoDownload p node idx sub b) s fun d =>
      d.can[p].sdo = some { node := node, idx := idx, sub := sub, abort := (s.dev.writeCheck (.sdo p node) idx sub b).1, data := [] } ∧
      d.ode = s.dev.ode ∧ Dev.Frame noticeParts (inBlock 19) s.dev d) ∧
  (∀ (s : State) (p : Fin 2) (node idx sub : Nat), s.dev.inReset = false → s.dev.portTalks p = true →
    Completes (.sdoUpload p node idx sub) s fun d =>
      d.can[p].sdo = some { node := node, idx := idx, sub := sub, abort := (s.dev.readFor (.sdo p node) idx sub).1,
                            data := (s.dev.readFor (.sdo p node) idx sub).2 } ∧
      Dev.Frame [.can] (fun _ => false) s.dev d) ∧
  (∀ (s : State) (n : Fin 16) (b : List Byte), s.dev.inReset = false → s.dev.pdoOn 0x1400 n = true →
    (∀ e ∈ cutFrame (s.dev.pdoMap 0x1600 n) b, (s.dev.writeCheck (.pdo n) e.1 e.2.1 e.2.2).1 = 0) →
    s.dev.ode.staged.length + (s.dev.pdoMap 0x1600 n).length ≤ 256 →
    Completes (.rpdo n b) s fun d =>
      d.ode = { s.dev.ode with staged := allStaged s.dev (.pdo n) (cutFrame (s.dev.pdoMap 0x1600 n) b) } ∧
      Dev.Frame [.ode, .nv, .regs] (fun a => a = R.ODE_STATUS) s.dev d) ∧
  (∀ (s : State) (n : Fin 16) (b : List Byte), s.dev.inReset = false → s.dev.pdoOn 0x1400 n = true →
    (cutFrame (s.dev.pdoMap 0x1600 n) b).any (fun e => decide ((s.dev.writeCheck (.pdo n) e.1 e.2.1 e.2.2).1 ≠ 0)) = true →
    Completes (.rpdo n b) s fun d => d.ode = s.dev.ode ∧ Dev.Frame noticeParts (inBlock 19) s.dev d)

/-- A read of the dictionary depends on no staged write, and an accepted write leaves what every client reads of the entry as it was
(R325). Where these meanings make a choice of the model, it stands in log entry 50. -/
def Obligations.ReadsShowAppliedValues : Prop :=
  (∀ (d : Dev) (l : List Staged) (c : Client) (idx sub : Nat),
    ({ d with ode := { d.ode with staged := l } } : Dev).readFor c idx sub = d.readFor c idx sub) ∧
  (∀ (s : State) (c c2 : Client) (idx sub : Nat) (b : List Byte), s.dev.inReset = false → (s.dev.writeCheck c idx sub b).1 = 0 →
    Completes (.dictionaryWrite c idx sub b) s fun d => d.readFor c2 idx sub = s.dev.readFor c2 idx sub)

/-- The writes of 0x1010:01, 0x1011:01 and 0x2F01:01 are staged like every accepted write. Applied, STORE keeps every entry of level 0 and
1, RESTORE_DEFAULTS is noted for the next reset (R329), and a commit takes the pending port settings into force and starts each changed
port that is not off anew with its boot-up message, while a port with unchanged settings runs on (R337). A request of a master's local
port ends at once: a read that is not refused leaves the applied value of up to 64 bytes and its length in the master's window, and a
write that passes the checks is staged from it, each with abort code 0 (R334); the first segment of a DOMAIN value, where it is not the
last, is collected (R335). Where these meanings make a choice of the model, it stands in log entries 30, 33, 46, 48, 52. -/
def Obligations.StoredSettings : Prop :=
  (∀ (s : State) (c : Client) (val : Word), s.dev.inReset = false → (s.dev.writeCheck c 0x1010 1 (leBytes 4 val.toNat)).1 = 0 →
    CompletesStaged (.store c val) s c 0x1010 1 (leBytes 4 val.toNat) fun d => d.nv.stored = s.dev.storeList ∧
      Dev.Frame [.nv, .boot, .fresh, .memc] (fun _ => false) s.dev d) ∧
  (∀ (s : State) (c : Client) (val : Word), s.dev.inReset = false → (s.dev.writeCheck c 0x1011 1 (leBytes 4 val.toNat)).1 = 0 →
    CompletesStaged (.restoreDefaults c val) s c 0x1011 1 (leBytes 4 val.toNat) fun d => d.nv.restore = true ∧
      Dev.Frame [.nv] (fun _ => false) s.dev d) ∧
  (∀ (s : State) (c : Client), s.dev.inReset = false → (s.dev.writeCheck c 0x2F01 1 [1]).1 = 0 →
    (∀ p : Fin 2, (s.dev.pendingPort p.val 1 < 4 ∧ s.dev.pendingPort p.val 2 < 128 ∧ s.dev.pendingPort p.val 3 < 8 ∧
      s.dev.pendingPort p.val 4 < 4 ∧ s.dev.pendingPort p.val 5 < 2)) →
    CompletesStaged (.commitPortSettings c true) s c 0x2F01 1 [1] fun d => (∀ p < 2, d.portNow p = portOf (s.dev.pendingPort p)) ∧
      (∀ p : Fin 2, s.dev.portNow p.val ≠ portOf (s.dev.pendingPort p.val) → s.dev.pendingPort p.val 1 ≠ 0 →
        d.can[p].out = some { id := 0x700 + s.dev.pendingPort p.val 2, data := [0] }) ∧
      (∀ p : Fin 2, s.dev.portNow p.val = portOf (s.dev.pendingPort p.val) → d.can[p] = s.dev.can[p]) ∧
      Dev.Frame [.can, .nv, .regs] (fun a => inBlock 10 a || inBlock 11 a) s.dev d) ∧
  (∀ (s : State) (m : Master) (val : Word), s.dev.inReset = false → 1 ≤ m.val → m.val ≤ 5 → s.dev.mayUse m (R.ODE_L_REQ m.val) = true →
    s.dev.flag (F.ODE_L_RES_BUSY m.val) = false → bitN val.toNat 31 = false →
    (entryRow (s.dev.liftIdx (fldOf val (F.ODE_L_REQ_INDEX m.val))) (fldOf val (F.ODE_L_REQ_SUB m.val))).all (fun r => r.ty != .dom) = true →
    ((requested s.dev m val).readFor (.loc m) (fldOf val (F.ODE_L_REQ_INDEX m.val)) (fldOf val (F.ODE_L_REQ_SUB m.val))).1 = 0 →
    ((requested s.dev m val).readFor (.loc m) (fldOf val (F.ODE_L_REQ_INDEX m.val)) (fldOf val (F.ODE_L_REQ_SUB m.val))).2.length ≤ 64 →
    Completes (.localRequest m val) s fun d => d.fld (F.ODE_L_ABORT_VALUE m.val) = 0 ∧
      d.fld (F.ODE_L_RES_LEN m.val) =
        ((requested s.dev m val).readFor (.loc m) (fldOf val (F.ODE_L_REQ_INDEX m.val)) (fldOf val (F.ODE_L_REQ_SUB m.val))).2.length ∧
      d.windowBytes m.val (d.fld (F.ODE_L_RES_LEN m.val)) =
        ((requested s.dev m val).readFor (.loc m) (fldOf val (F.ODE_L_REQ_INDEX m.val)) (fldOf val (F.ODE_L_REQ_SUB m.val))).2 ∧
      Dev.Frame [.regs, .bus] (inBlock 12) s.dev d) ∧
  (∀ (s : State) (m : Master) (val : Word), s.dev.inReset = false → 1 ≤ m.val → m.val ≤ 5 → s.dev.mayUse m (R.ODE_L_REQ m.val) = true →
    s.dev.flag (F.ODE_L_RES_BUSY m.val) = false → bitN val.toNat 31 = true →
    (entryRow (s.dev.liftIdx (fldOf val (F.ODE_L_REQ_INDEX m.val))) (fldOf val (F.ODE_L_REQ_SUB m.val))).all (fun r => r.ty != .dom) = true →
    ((requested s.dev m val).writeCheck (.loc m) (fldOf val (F.ODE_L_REQ_INDEX m.val)) (fldOf val (F.ODE_L_REQ_SUB m.val))
      ((requested s.dev m val).windowBytes m.val (fldOf val (F.ODE_L_REQ_LEN m.val)))).1 = 0 →
    Completes (.localRequest m val) s fun d => d.fld (F.ODE_L_ABORT_VALUE m.val) = 0 ∧
      d.ode.staged = nowStaged s.dev (.loc m) (fldOf val (F.ODE_L_REQ_INDEX m.val)) (fldOf val (F.ODE_L_REQ_SUB m.val))
        ((requested s.dev m val).windowBytes m.val (fldOf val (F.ODE_L_REQ_LEN m.val))) ∧
      Dev.Frame [.ode, .nv, .regs, .bus] (inBlock 12) s.dev d) ∧
  (∀ (s : State) (m : Master) (val : Word), s.dev.inReset = false → 1 ≤ m.val → m.val ≤ 5 → s.dev.mayUse m (R.ODE_L_REQ m.val) = true →
    s.dev.flag (F.ODE_L_RES_BUSY m.val) = false → bitN val.toNat 31 = true → fldOf val (F.ODE_L_REQ_INDEX m.val) = 0x2906 →
    fldOf val (F.ODE_L_REQ_SUB m.val) = 1 → 1 ≤ fldOf val (F.ODE_L_REQ_LEN m.val) → fldOf val (F.ODE_L_REQ_LEN m.val) ≤ 64 →
    s.dev.fld (F.ODE_L_OFS_OFFSET m.val) = 0 → s.dev.flag (F.ODE_L_OFS_END m.val) = false →
    Completes (.localRequest m val) s fun d => d.fld (F.ODE_L_ABORT_VALUE m.val) = 0 ∧
      d.ode = { s.dev.ode with segs := s.dev.ode.segs.set! (m.val - 1) ((requested s.dev m val).windowBytes m.val (fldOf val (F.ODE_L_REQ_LEN m.val))) } ∧
      Dev.Frame [.ode, .regs, .bus] (inBlock 12) s.dev d)

/-- The service port: a connection opens the first free session, with all four open it changes nothing; a close frees the session; a
change of the link shows in ETH.STATUS and leaves the count of sessions there as it was (R331). The requests of the service protocol
outside recovery: each answers its session with the request's header, a status and its data (R332, R380, R384). Where these meanings make
a choice of the model, it stands in log entries 55, 56, 100. -/
def Obligations.ServicePort : Prop :=
  (∀ (s : State) (ip : Word) (i : Fin 4), s.dev.inReset = false → s.dev.sout.pfail = none → s.dev.boot.todo = 0 →
    (List.finRange 4).find? (fun j => (s.dev.ode.sess[j]).isNone) = some i →
    Completes (.sessionOpen ip) s fun d => d.ode = { s.dev.ode with sess := s.dev.ode.sess.set i (some { ip := ip.toNat }) } ∧
      Dev.Frame (.ode :: noticeParts) (fun a => a = R.ETH_STATUS || inBlock 19 a) s.dev d) ∧
  (∀ (s : State) (ip : Word), s.dev.inReset = false → (∀ i : Fin 4, (s.dev.ode.sess[i]).isSome = true) →
    Completes (.sessionOpen ip) s fun d => d = s.dev) ∧
  (∀ (s : State) (i : Fin 4), s.dev.inReset = false → (s.dev.ode.sess[i]).isSome = true →
    Completes (.sessionClose i) s fun d => d.ode = { s.dev.ode with sess := s.dev.ode.sess.set i none } ∧
      Dev.Frame (.ode :: noticeParts) (fun a => a = R.ETH_STATUS || inBlock 19 a) s.dev d) ∧
  (∀ (s : State) (up full : Bool), s.dev.inReset = false →
    Completes (.ethernetLinkChange up full) s fun d => d.flag F.ETH_STATUS_LINK = up ∧ d.flag F.ETH_STATUS_FULL = (up && full) ∧
      d.fld F.ETH_STATUS_SESS = s.dev.fld F.ETH_STATUS_SESS ∧ Dev.Frame [.regs] (fun a => a = R.ETH_STATUS) s.dev d) ∧
  (∀ (s : State) (i : Fin 4) (tag : Fin 256) (idx sub : Nat) (x : Session), s.dev.inReset = false → s.dev.fspOpen i = true →
    s.dev.recovery = false → s.dev.ode.sess[i] = some x →
    Completes (.fspReadEntry i tag idx sub) s fun d =>
      d.ode.sess[i] = some { x with resp := fspBytes 1 tag.val idx sub (s.dev.readFor (.session i) idx sub).1 (s.dev.readFor (.session i) idx sub).2 } ∧
      Dev.Frame [.ode, .regs] (fun a => a = R.ETH_STATUS) s.dev d) ∧
  (∀ (s : State) (i : Fin 4) (tag : Fin 256) (idx sub : Nat) (b : List Byte) (x : Session), s.dev.inReset = false →
    s.dev.fspOpen i = true → s.dev.recovery = false → s.dev.ode.sess[i] = some x →
    (s.dev.writeCheck (.session i) idx sub b).1 = 0 →
    Completes (.fspWriteEntry i tag idx sub b) s fun d =>
      d.ode.sess[i] = some { x with resp := fspBytes 2 tag.val idx sub 0 [] } ∧
      d.ode.staged = nowStaged s.dev (.session i) idx sub b ∧
      Dev.Frame [.ode, .nv, .regs] (fun a => a = R.ETH_STATUS || a = R.ODE_STATUS) s.dev d) ∧
  (∀ (s : State) (i : Fin 4) (tag : Fin 256) (b : List Byte) (x : Session), s.dev.inReset = false →
    s.dev.fspOpen i = true → s.dev.recovery = false → s.dev.ode.sess[i] = some x →
    (∀ e ∈ batchEntries b.length b, (s.dev.writeCheck (.session i) e.1 e.2.1 e.2.2).1 = 0) →
    s.dev.ode.staged.length + (batchEntries b.length b).length ≤ 256 →
    Completes (.fspBatch i tag b) s fun d =>
      d.ode.sess[i] = some { x with resp := fspBytes 3 tag.val 0 0 0 [] } ∧
      d.ode.staged = allStaged s.dev (.session i) (batchEntries b.length b) ∧
      Dev.Frame [.ode, .nv, .regs] (fun a => a = R.ETH_STATUS || a = R.ODE_STATUS) s.dev d) ∧
  (∀ (s : State) (i : Fin 4) (tag : Fin 256) (first cnt n : Nat) (x : Session), s.dev.inReset = false →
    s.dev.fspOpen i = true → s.dev.recovery = false → s.dev.ode.sess[i] = some x → 1 ≤ cnt → cnt ≤ 64 →
    s.dev.recordFor first = some n →
    CompletesAll (.fspReadEvents i tag first cnt) s fun d _ =>
      d.ode.sess[i] = some { x with resp := fspBytes 0x10 tag.val 0 0 0 (recordRun cnt n (s.dev, s.mem)).1 } ∧
      Dev.Frame (.ode :: memoryParts) (fun a => a = R.ETH_STATUS || memoryRegs a) s.dev d) ∧
  (∀ (s : State) (i : Fin 4) (tag : Fin 256) (file off : Nat) (x : Session) (w : StoredWindow), s.dev.inReset = false →
    s.dev.fspOpen i = true → s.dev.recovery = false → s.dev.ode.sess[i] = some x → file < 0xFF00 →
    s.dev.nv.winStore.find? (fun y => y.win.num == file && !y.lost) = some w →
    Completes (.fspReadFile i tag file off) s fun d =>
      d.ode.sess[i] = some { x with resp := fspBytes 0x11 tag.val 0 0 0 ((w.bytes.drop off).take 4096) } ∧
      Dev.Frame [.ode, .regs] (fun a => a = R.ETH_STATUS) s.dev d)

/-! ## The memories, MEMC and SCRUB -/

/-- The bytes at an address are listed one by one, and no flipped bit lies in their words. -/
def Sys2Proof.Machine.plainBytes (m : MemSys) (a : Nat) (l : List Byte) : Bool :=
  ((upTo l.length).all fun i => m.byte (a + i) == l[i]?) && m.faults.all fun f => decide (f.addr + 8 ≤ a) || decide (a + l.length ≤ f.addr)

/-- An access of a master to `n` bytes within one code word of an array. -/
def Sys2Proof.Machine.inWord (s : Dev) (m : Master) (a n : Nat) (r : Region) (write : Bool) : Bool :=
  s.mayAccess m && regionOf a != some .periph && (r == .safety || r == .shared || r == .dram) && 1 ≤ n &&
    s.physical m a % r.wordBytes + n ≤ r.wordBytes && s.reach m a (s.physical m a) write == .ok r &&
    s.reach m a (s.physical m a + (n - 1)) write == .ok r

/-- The code word of an address. -/
def Sys2Proof.Machine.wordOf (r : Region) (pa : Nat) : Nat := pa - pa % r.wordBytes

/-- A read within one code word of an array delivers a clean word's data, delivers the corrected data of a word with one flipped bit and
counts it in CE (R342), and ends in a bus error, counted in UE, at a word that holds no data (R343). None of these changes a memory. A
write within one code word of an array: a whole word, where no flip mask is armed for it, is stored as it is written (R344); a narrower
write is merged into the data of a clean word (R345), and every byte outside the word is as before; one to a word that holds no data ends
in a bus error and changes no memory (R345). Where these meanings make a choice of the model, it stands in log entries 28, 29, 30, 32, 33,
121. -/
def Obligations.MemoryAccesses : Prop :=
  (∀ (s : State) (m : Master) (a n : Nat) (r : Region) (l : List Byte), s.dev.inReset = false → inWord s.dev m a n r false = true →
    s.mem.wordData r (wordOf r (s.dev.physical m a)) = some l → s.mem.fault? (wordOf r (s.dev.physical m a)) = none →
    Completes (.memoryRead m a n) s fun d =>
      d.bus[m] = { data := (l.drop (s.dev.physical m a % r.wordBytes)).take n, err := false } ∧
      Dev.Frame [.bus] (fun _ => false) s.dev d) ∧
  (∀ (s : State) (m : Master) (a n : Nat) (r : Region) (l : List Byte) (f : MemFault), s.dev.inReset = false →
    inWord s.dev m a n r false = true → s.mem.wordData r (wordOf r (s.dev.physical m a)) = some l →
    s.mem.fault? (wordOf r (s.dev.physical m a)) = some f → onesN 64 f.dmask + onesN 8 f.cmask = 1 →
    Completes (.memoryRead m a n) s fun d =>
      d.bus[m] = { data := (l.drop (s.dev.physical m a % r.wordBytes)).take n, err := false } ∧
      (d.rd (R.MEMC_CE r.num)).toNat = min ((s.dev.rd (R.MEMC_CE r.num)).toNat + 1) (2 ^ 32 - 1) ∧ d.flag F.MEMC_IRQ_CE = true ∧
      Dev.Frame memoryParts memoryRegs s.dev d) ∧
  (∀ (s : State) (m : Master) (a n : Nat) (r : Region), s.dev.inReset = false → inWord s.dev m a n r false = true →
    s.mem.wordData r (wordOf r (s.dev.physical m a)) = none →
    Completes (.memoryRead m a n) s fun d => d.bus[m] = { data := [], err := true } ∧
      (d.rd (R.MEMC_UE r.num)).toNat = min ((s.dev.rd (R.MEMC_UE r.num)).toNat + 1) (2 ^ 32 - 1) ∧ d.flag F.MEMC_IRQ_UE = true ∧
      Dev.Frame memoryParts memoryRegs s.dev d) ∧
  (∀ (s : State) (m : Master) (a : Nat) (r : Region) (l : List Byte), s.dev.inReset = false → inWord s.dev m a l.length r true = true →
    l.length = r.wordBytes → s.dev.flipArmed (s.dev.physical m a) = false →
    CompletesAll (.memoryWrite m a l) s fun d q => d.bus[m] = { data := [], err := false } ∧
      q.wordData r (s.dev.physical m a) = some l ∧ q.fault? (s.dev.physical m a) = none ∧
      (∀ x, x < s.dev.physical m a ∨ s.dev.physical m a + l.length ≤ x → q.byte x = s.mem.byte x) ∧
      Dev.Frame [.bus] (fun _ => false) s.dev d) ∧
  (∀ (s : State) (m : Master) (a : Nat) (r : Region) (l old : List Byte), s.dev.inReset = false →
    inWord s.dev m a l.length r true = true → l.length < r.wordBytes →
    s.mem.wordData r (wordOf r (s.dev.physical m a)) = some old → s.mem.fault? (wordOf r (s.dev.physical m a)) = none →
    CompletesAll (.memoryWrite m a l) s fun d q => d.bus[m] = { data := [], err := false } ∧
      q.wordData r (wordOf r (s.dev.physical m a)) = some (patch old (s.dev.physical m a % r.wordBytes) l) ∧
      (∀ x, x < wordOf r (s.dev.physical m a) ∨ wordOf r (s.dev.physical m a) + r.wordBytes ≤ x → q.byte x = s.mem.byte x) ∧
      Dev.Frame [.bus] (fun _ => false) s.dev d) ∧
  (∀ (s : State) (m : Master) (a : Nat) (r : Region) (l : List Byte), s.dev.inReset = false →
    inWord s.dev m a l.length r true = true → l.length < r.wordBytes →
    s.mem.wordData r (wordOf r (s.dev.physical m a)) = none →
    Completes (.memoryWrite m a l) s fun d => d.bus[m] = { data := [], err := true } ∧ d.flag F.MEMC_IRQ_UE = true ∧
      Dev.Frame memoryParts memoryRegs s.dev d)

/-- Marten sees DRAM through its window of 256 MiB alone: an address in the window reaches the DRAM at the window's place, every other
address of Marten is its own, and neither DRAM outside the window nor an address above 32 bits is within its reach. A write of Marten to
MWIN puts the window at its BASE (R19). Where these meanings make a choice of the model, it stands in log entries 28, 29. -/
def Obligations.MartenWindow : Prop :=
  (∀ (d : Dev) (a : Nat), 0xC0000000 ≤ a → a ≤ 0xCFFFFFFF →
    d.physical 5 a = 0x800000000 + d.fld F.MEMC_MWIN_BASE * 0x10000000 + (a - 0xC0000000) ∧
    ∀ w, d.reach 5 a (d.physical 5 a) w = .ok .dram) ∧
  (∀ (d : Dev) (a : Nat) (w : Bool), a < 0xC0000000 ∨ 0xCFFFFFFF < a →
    d.physical 5 a = a ∧ d.reach 5 a (d.physical 5 a) w ≠ .ok .dram ∧
    (2 ^ 32 ≤ a → ∀ r, d.reach 5 a (d.physical 5 a) w ≠ .ok r)) ∧
  (∀ (s : State) (val : Word), s.dev.inReset = false →
    Completes (.registerWrite 5 R.MEMC_MWIN val) s fun d => d.fld F.MEMC_MWIN_BASE = val.toNat % 32 ∧
      d.bus[(5 : Master)] = { data := [], err := false } ∧ Dev.Frame [.bus, .regs] (fun a => a = R.MEMC_MWIN) s.dev d)

/-- FLIP_CTRL arms the mask on a valid address (R347). Ant rewrites an SRAM word with one flipped bit, which then has none, and counts it
(R348). Weevil goes on to the next line when it is due, in a visit while DRAM is in self-refresh (R349). No scrub changes data. Repair at
presence level 2: the programming of a fuse record starts while a record is free, and its end leaves the record and the result done
(R351); a row repair is kept for the next boot while its bank has a spare row, else its result is 3 (R352). The flash's health report
shows, and a first urgent one ends the archive (R353). A write of a block's fence is answered (R356). Once FLSH has been idle for 100 ms
the NAND enters its low-power state, and nothing else changes (R15); before that the row changes nothing. Where these meanings make a
choice of the model, it stands in log entries 30, 32, 33, 34, 110. -/
def Obligations.MemoryCare : Prop :=
  (∀ (s : State) (m : Master) (val : Word), s.dev.inReset = false → s.dev.mayUse m R.MEMC_FLIP_CTRL = true →
    s.dev.flag F.MEMC_FLIP_CTRL_ARM = false → bitN val.toNat 0 = true → flipAddrOk m s.dev.flipAddr = true →
    Completes (.flipArm m val) s fun d => d.flag F.MEMC_FLIP_CTRL_ARM = true ∧
      (bitN val.toNat 1 = true → d.flag F.MEMC_FLIP_CTRL_DONE = false) ∧ Dev.Frame [.regs, .bus] (fun a => a = R.MEMC_FLIP_CTRL) s.dev d) ∧
  (∀ (s : State) (a : Nat) (r : Region) (l : List Byte) (f : MemFault), s.dev.inReset = false → regionOf a = some r →
    r ∈ [.safety, .shared] → s.mem.wordData r (a - a % 4) = some l → s.mem.fault? (a - a % 4) = some f →
    onesN 64 f.dmask + onesN 8 f.cmask = 1 →
    CompletesAll (.antScrub a) s fun d q => q = { s.mem with faults := s.mem.faults.filter fun g => g.addr != a - a % 4 } ∧
      (d.rd (R.MEMC_CE r.num)).toNat = min ((s.dev.rd (R.MEMC_CE r.num)).toNat + 1) (2 ^ 32 - 1) ∧
      Dev.Frame memoryParts (fun x => inBlock 18 x || memoryRegs x) s.dev d) ∧
  (∀ s : State, s.dev.inReset = false → s.dev.memc.selfRefresh = false → s.dev.lineDue ≤ s.dev.now →
    (s.dev.rd R.SCRB_WPOS).toNat + 1 < 134217728 →
    CompletesAll .weevilLine s fun d q => (d.rd R.SCRB_WPOS).toNat = (s.dev.rd R.SCRB_WPOS).toNat + 1 ∧ q.cells = s.mem.cells ∧
      q.fills = s.mem.fills ∧ Dev.Frame memoryParts (fun x => inBlock 18 x || memoryRegs x) s.dev d) ∧
  (∀ s : State, s.dev.inReset = false → s.dev.memc.selfRefresh = true → s.dev.lineDue ≤ s.dev.now →
    (s.dev.rd R.SCRB_WPOS).toNat + 1 < 134217728 →
    s.dev.now < s.dev.memc.weevStart + ((s.dev.rd R.SCRB_WPOS).toNat + 1) * s.dev.lapCyc / 134217728 →
    CompletesAll .weevilVisit s fun d q => (d.rd R.SCRB_WPOS).toNat = (s.dev.rd R.SCRB_WPOS).toNat + 1 ∧ q.cells = s.mem.cells ∧
      q.fills = s.mem.fills ∧ Dev.Frame memoryParts (fun x => inBlock 18 x || memoryRegs x) s.dev d) ∧
  (∀ (s : State) (m : Master) (val : Word), s.dev.inReset = false → s.dev.mayUse m R.MEMC_FUSE_PROG = true → s.dev.level = 2 →
    s.dev.flag F.MEMC_FUSE_STATUS_BUSY = false → bitN val.toNat 31 = true → s.dev.fuseLeft ≠ 0 →
    Completes (.fuseProgram m val) s fun d => d.memc = { s.dev.memc with fuseBusy := some val } ∧
      d.flag F.MEMC_FUSE_STATUS_BUSY = true ∧ d.fld F.MEMC_FUSE_STATUS_RESULT = 0 ∧
      Dev.Frame [.memc, .nv, .bus, .regs] (inBlock 17) s.dev d) ∧
  (∀ (s : State) (v : Word), s.dev.inReset = false → s.dev.memc.fuseBusy = some v → 0 < s.dev.fuseLeft →
    Completes .fuseProgramDone s fun d => (d.rd (R.MEMC_FUSE_REC (64 - s.dev.fuseLeft))).toNat = 2147483648 + v.toNat % 2147483648 ∧
      d.memc = { s.dev.memc with fuseBusy := none } ∧ d.flag F.MEMC_FUSE_STATUS_BUSY = false ∧
      d.fld F.MEMC_FUSE_STATUS_RESULT = 1 ∧ Dev.Frame (.memc :: noticeParts) memoryRegs s.dev d) ∧
  (∀ (s : State) (m : Master) (val : Word), s.dev.inReset = false → s.dev.mayUse m R.MEMC_PPR_REQ = true → s.dev.level = 2 →
    bitN val.toNat 31 = true →
    Completes (.pprRequest m val) s fun d =>
      d.nv.ppr = (if s.dev.spareLeft (val.toNat / 33554432 % 16) = 0 then s.dev.nv.ppr else s.dev.nv.ppr ++ [val]) ∧
      d.fld F.MEMC_PPR_STATUS_RESULT = (if s.dev.spareLeft (val.toNat / 33554432 % 16) = 0 then 3 else 5) ∧
      Dev.Frame [.nv, .bus, .regs] (inBlock 17) s.dev d) ∧
  (∀ (s : State) (life : Nat) (pre : Fin 4), s.dev.inReset = false → life < 2 ^ F.FLSH_HEALTH_LIFE.width →
    Completes (.flashHealthRead life pre) s fun d => d.fld F.FLSH_HEALTH_LIFE = life ∧ d.fld F.FLSH_HEALTH_PREEOL = pre.val ∧
      (pre = 3 → s.dev.fld F.FLSH_HEALTH_PREEOL < 3 → d.flag F.EVR_STATUS_ARCHOFF = true) ∧
      Dev.Frame noticeParts (fun a => a = R.FLSH_HEALTH || inBlock 19 a) s.dev d) ∧
  (∀ (s : State) (m : Master) (blk : Fin 27) (val : Word), s.dev.inReset = false → s.dev.mayUse m (0x4000FFFC + 0x10000 * blk.val) = true →
    Completes (.blockFenceWrite m blk val) s fun d => d.bus[m] = { data := [], err := false } ∧ Dev.Frame [.bus] (fun _ => false) s.dev d) ∧
  (∀ s : State, s.dev.inReset = false → s.dev.memc.flashAt + 100 * msCyc ≤ s.dev.now →
    Completes .nandLowPower s fun d => d.memc.nandLow = true ∧ d = { s.dev with memc := { s.dev.memc with nandLow := true } }) ∧
  (∀ s : State, s.dev.inReset = false → s.dev.now < s.dev.memc.flashAt + 100 * msCyc →
    Completes .nandLowPower s fun d => d = s.dev)

/-- A DMA channel: START takes the descriptor at HEAD, where it passes the checks, and is busy with it. A descriptor that is the last of
its chain, and a fill of whole words or a copy of at most 64 aligned bytes, leaves every byte of its range filled or copied but the two of
its own STAT, and ends the chain with DONE (R358). ABORT of a busy channel stops it with ECODE 5, ERR and its interrupt (R359). Where
these meanings make a choice of the model, it stands in log entries 2, 30, 33, 108. -/
def Obligations.DmaChannels : Prop :=
  (∀ (s : State) (m : Master) (c : Fin 8) (l : List Byte), s.dev.inReset = false → s.dev.mayUse m (R.MEMC_DMA_CTRL c.val) = true → dmaMay m c = true →
    s.dev.dmaBusy c = false → s.dev.dmaHead c % 32 = 0 → regionOf (s.dev.dmaHead c) ∈ [some .shared, some .dram] → l.length = 32 →
    plainBytes s.mem (s.dev.dmaHead c) l = true → dmaInvalid l = false → s.dev.dmaBarred c l = none →
    Completes (.dmaStart m c) s fun d => d.dmaBusy c = true ∧ d.dmaDesc c = l ∧ d.dmaCur c = s.dev.dmaHead c ∧
      (∀ k : Fin 8, k ≠ c → d.dmaDesc k = s.dev.dmaDesc k) ∧ Dev.Frame [.memc, .bus, .regs] (inBlock 17) s.dev d) ∧
  (∀ (s : State) (c : Fin 8), s.dev.inReset = false → s.dev.dmaBusy c = true → dOp (s.dev.dmaDesc c) = 1 →
    fillWhole (dDst (s.dev.dmaDesc c)) (dLen (s.dev.dmaDesc c)) = true → 0 < dLen (s.dev.dmaDesc c) →
    regionOf (lastOf (dDst (s.dev.dmaDesc c)) (dLen (s.dev.dmaDesc c))) = regionOf (dDst (s.dev.dmaDesc c)) →
    dLast (s.dev.dmaDesc c) = true → s.dev.flag F.MEMC_FLIP_CTRL_ARM = false →
    CompletesAll (.dmaDescriptorDone c) s fun d q => d.dmaBusy c = false ∧ d.flag (F.MEMC_DMA_STATUS_DONE c.val) = true ∧
      (∀ x, dDst (s.dev.dmaDesc c) ≤ x → x < dDst (s.dev.dmaDesc c) + dLen (s.dev.dmaDesc c) → x ≠ s.dev.dmaCur c + 22 →
        x ≠ s.dev.dmaCur c + 23 → q.byte x = some (BitVec.ofNat 8 (dSrc (s.dev.dmaDesc c) / 2 ^ (8 * (x % 8))))) ∧
      Dev.Frame memoryParts memoryRegs s.dev d) ∧
  (∀ (s : State) (c : Fin 8) (l : List Byte), s.dev.inReset = false → s.dev.dmaBusy c = true → dOp (s.dev.dmaDesc c) = 0 →
    l.length = dLen (s.dev.dmaDesc c) → 0 < l.length → l.length ≤ 64 → l.length % 8 = 0 → dDst (s.dev.dmaDesc c) % 8 = 0 →
    dSrc (s.dev.dmaDesc c) % 8 = 0 →
    plainBytes s.mem (dSrc (s.dev.dmaDesc c)) l = true →
    regionOf (dSrc (s.dev.dmaDesc c)) ∈ [some .shared, some .dram] → regionOf (dDst (s.dev.dmaDesc c)) ∈ [some .shared, some .dram] →
    regionOf (lastOf (dSrc (s.dev.dmaDesc c)) l.length) = regionOf (dSrc (s.dev.dmaDesc c)) →
    regionOf (lastOf (dDst (s.dev.dmaDesc c)) l.length) = regionOf (dDst (s.dev.dmaDesc c)) →
    dLast (s.dev.dmaDesc c) = true → s.dev.flag F.MEMC_FLIP_CTRL_ARM = false →
    CompletesAll (.dmaDescriptorDone c) s fun d q => d.dmaBusy c = false ∧ d.flag (F.MEMC_DMA_STATUS_DONE c.val) = true ∧
      (∀ i < l.length, dDst (s.dev.dmaDesc c) + i ≠ s.dev.dmaCur c + 22 → dDst (s.dev.dmaDesc c) + i ≠ s.dev.dmaCur c + 23 →
        q.byte (dDst (s.dev.dmaDesc c) + i) = l[i]?) ∧
      Dev.Frame memoryParts memoryRegs s.dev d) ∧
  (∀ (s : State) (m : Master) (c : Fin 8), s.dev.inReset = false → s.dev.mayUse m (R.MEMC_DMA_CTRL c.val) = true → dmaMay m c = true →
    s.dev.dmaBusy c = true → bitN (s.dev.rd (R.MEMC_DMA_CTRL c.val)).toNat 1 = false →
    CompletesAll (.dmaAbort m c) s fun d _ => d.dmaBusy c = false ∧ d.fld (F.MEMC_DMA_STATUS_ECODE c.val) = 5 ∧
      d.flag (F.MEMC_DMA_STATUS_ERR c.val) = true ∧ bitN (d.rd R.MEMC_DMAIRQ).toNat (8 + c.val) = true)

/-! ## MBOX -/

/-- A write to a mailbox channel by its sender, with the channel enabled. -/
def Sys2Proof.Machine.sends (s : Dev) (m : Master) (n : Fin 16) : Bool := s.mayUse m (R.MBOX_CH_DESC n.val) && s.chSend n.val == m.val && s.flag (F.MBOX_CH_CFG_EN n.val)

/-- The bytes stand in memory from an address on. -/
def Sys2Proof.Machine.stands (m : MemSys) (a : Nat) (l : List Byte) : Prop := ∀ i < l.length, m.byte (a + i) = l[i]?

/-- SEND posts a message into an empty channel and raises it to the receiver; with FENCE the channel waits, and the message is posted when
the sender's writes have completed; on a channel that holds a message SEND only sets OVF (R363). TAKE empties the channel and raises that
to the sender (R364). Two opposite full channels that have stood for 256 µs set XWAIT in both (R365). A read by a master but the debug
port takes a free lock and answers 0; a read of another's lock answers its owner and takes nothing. A write of 0 by the owner frees the
lock, and no other write changes it (R368). Where these meanings make a choice of the model, it stands in log entries 30, 33, 35, 38, 39.
-/
def Obligations.Mailboxes : Prop :=
  (∀ (s : State) (m : Master) (n : Fin 16) (val : Word), s.dev.inReset = false → sends s.dev m n = true → s.dev.chHeld n.val = false →
    bitN val.toNat 31 = true → bitN val.toNat 30 = false →
    Completes (.mailboxSend m n val) s fun d => d.chFull n.val = true ∧ d.chWaits n.val = false ∧
      d.fld (F.MBOX_CH_STATUS_TAG n.val) = fldOf val (F.MBOX_CH_DESC_TAG n.val) ∧ d.mbox.postAt[n] = s.dev.now ∧
      bitN (d.rd (R.MBOX_IRQ (s.dev.chRecv n.val))).toNat n.val = true ∧
      Dev.Frame ([.mbox, .bus] ++ noticeParts) (fun a => inBlock 16 a || inBlock 19 a) s.dev d) ∧
  (∀ (s : State) (m : Master) (n : Fin 16) (val : Word), s.dev.inReset = false → sends s.dev m n = true → s.dev.chHeld n.val = false →
    bitN val.toNat 31 = true → bitN val.toNat 30 = true →
    Completes (.mailboxSend m n val) s fun d => d.chFull n.val = false ∧ d.chWaits n.val = true ∧
      d.fld (F.MBOX_CH_STATUS_TAG n.val) = fldOf val (F.MBOX_CH_DESC_TAG n.val) ∧ Dev.Frame [.bus, .regs] (inBlock 16) s.dev d) ∧
  (∀ (s : State) (m : Master) (n : Fin 16) (val : Word), s.dev.inReset = false → sends s.dev m n = true → s.dev.chHeld n.val = true →
    bitN val.toNat 31 = true →
    Completes (.mailboxSend m n val) s fun d => d.flag (F.MBOX_CH_STATUS_OVF n.val) = true ∧
      Dev.Frame (.bus :: noticeParts) (fun a => a = R.MBOX_CH_STATUS n.val || inBlock 19 a) s.dev d) ∧
  (∀ (s : State) (n : Fin 16), s.dev.inReset = false → s.dev.chWaits n.val = true →
    Completes (.mailboxFencePost n) s fun d => d.chFull n.val = true ∧ d.chWaits n.val = false ∧ d.mbox.postAt[n] = s.dev.now ∧
      bitN (d.rd (R.MBOX_IRQ (s.dev.chRecv n.val))).toNat n.val = true ∧
      Dev.Frame (.mbox :: noticeParts) (fun a => inBlock 16 a || inBlock 19 a) s.dev d) ∧
  (∀ (s : State) (m : Master) (n : Fin 16), s.dev.inReset = false → s.dev.mayUse m (R.MBOX_CH_TAKE n.val) = true → s.dev.chRecv n.val = m.val →
    s.dev.chFull n.val = true →
    Completes (.mailboxTake m n) s fun d => d.chFull n.val = false ∧ d.flag (F.MBOX_CH_STATUS_STALE_RX n.val) = false ∧
      d.flag (F.MBOX_CH_STATUS_XWAIT n.val) = false ∧ bitN (d.rd (R.MBOX_IRQ (s.dev.chSend n.val))).toNat (16 + n.val) = true ∧
      Dev.Frame [.bus, .regs] (inBlock 16) s.dev d) ∧
  (∀ (s : State) (a b : Fin 16), s.dev.inReset = false → s.dev.flag (F.MBOX_CH_CFG_EN a.val) = true →
    s.dev.flag (F.MBOX_CH_CFG_EN b.val) = true → s.dev.chFull a.val = true → s.dev.chFull b.val = true →
    s.dev.flag (F.MBOX_CH_STATUS_XWAIT a.val) = false → s.dev.flag (F.MBOX_CH_STATUS_XWAIT b.val) = false →
    s.dev.opposite a.val b.val = true → max s.dev.mbox.postAt[a] s.dev.mbox.postAt[b] + 256 * usCyc ≤ s.dev.now →
    Completes (.crossWait a b) s fun d => d.flag (F.MBOX_CH_STATUS_XWAIT a.val) = true ∧ d.flag (F.MBOX_CH_STATUS_XWAIT b.val) = true ∧
      Dev.Frame noticeParts (fun x => inBlock 16 x || inBlock 19 x) s.dev d) ∧
  (∀ (s : State) (m : Master) (l : Fin 32), s.dev.inReset = false → s.dev.mayUse m (R.MBOX_LOCK l.val) = true → m ≠ 10 →
    s.dev.fld (F.MBOX_LOCK_OWNER l.val) = 0 →
    Completes (.lockRead m l) s fun d => d.fld (F.MBOX_LOCK_OWNER l.val) = m.val ∧ d.bus[m] = { data := [0, 0, 0, 0], err := false } ∧
      Dev.Frame [.bus, .regs] (fun a => a = R.MBOX_LOCK l.val) s.dev d) ∧
  (∀ (s : State) (m : Master) (l : Fin 32), s.dev.inReset = false → s.dev.mayUse m (R.MBOX_LOCK l.val) = true →
    s.dev.fld (F.MBOX_LOCK_OWNER l.val) ≠ 0 → s.dev.fld (F.MBOX_LOCK_OWNER l.val) ≠ m.val →
    Completes (.lockRead m l) s fun d => d.bus[m] = { data := leBytes 4 (s.dev.fld (F.MBOX_LOCK_OWNER l.val)), err := false } ∧
      Dev.Frame [.bus] (fun _ => false) s.dev d) ∧
  (∀ (s : State) (m : Master) (l : Fin 32), s.dev.inReset = false → s.dev.mayUse m (R.MBOX_LOCK l.val) = true →
    s.dev.fld (F.MBOX_LOCK_OWNER l.val) = m.val →
    Completes (.lockRelease m l 0) s fun d => d.fld (F.MBOX_LOCK_OWNER l.val) = 0 ∧
      Dev.Frame [.bus, .regs] (fun a => a = R.MBOX_LOCK l.val) s.dev d) ∧
  (∀ (s : State) (m : Master) (l : Fin 32) (val : Word), s.dev.inReset = false → s.dev.mayUse m (R.MBOX_LOCK l.val) = true →
    val ≠ 0 ∨ s.dev.fld (F.MBOX_LOCK_OWNER l.val) ≠ m.val →
    Completes (.lockRelease m l val) s fun d => Dev.Frame [.bus] (fun _ => false) s.dev d)

/-- Parking: master 1's request is accepted, or refused with its reason, and completes with DRAM in self-refresh (R370); after a waking
post core 0 runs again with DRAM out of self-refresh, and master 1 releases the other cores it names (R371). Where these meanings make a
choice of the model, it stands in log entries 30, 33, 36, 37. -/
def Obligations.ParkingFox : Prop :=
  (∀ (s : State) (h : Fin 16), s.dev.inReset = false → s.dev.fld F.MBOX_PARK_STATE = 0 → s.dev.parkRefusal h.val = 0 →
    Completes (.parkRequest 1 h) s fun d => d.fld F.MBOX_PARK_STATE = 1 ∧ d.fld F.MBOX_PARK_REFUSE = 0 ∧ d.fld F.MBOX_PARK_HALTED = 15 ∧
      Dev.Frame [.bus, .regs] (fun a => a = R.MBOX_PARK) s.dev d) ∧
  (∀ (s : State) (h : Fin 16), s.dev.inReset = false → s.dev.fld F.MBOX_PARK_STATE = 0 → s.dev.parkRefusal h.val ≠ 0 →
    Completes (.parkRequest 1 h) s fun d => d.fld F.MBOX_PARK_STATE = 0 ∧ d.fld F.MBOX_PARK_REFUSE = s.dev.parkRefusal h.val ∧
      d.fld F.MBOX_PARK_HALTED = h.val ∧ Dev.Frame (.bus :: noticeParts) (fun a => a = R.MBOX_PARK || inBlock 19 a) s.dev d) ∧
  (∀ s : State, s.dev.inReset = false → s.dev.fld F.MBOX_PARK_STATE = 1 →
    Completes .parked s fun d => d.fld F.MBOX_PARK_STATE = 2 ∧ d.memc = { s.dev.memc with selfRefresh := true } ∧
      d.mbox = { s.dev.mbox with parkedAt := s.dev.now } ∧
      Dev.Frame ([.mbox, .memc] ++ noticeParts) (fun a => a = R.MBOX_PARK || inBlock 19 a) s.dev d) ∧
  (∀ s : State, s.dev.inReset = false → s.dev.fld F.MBOX_PARK_STATE = 3 →
    Completes .foxWake s fun d => d.fld F.MBOX_PARK_STATE = 0 ∧ d.fld F.MBOX_PARK_HALTED = 14 ∧
      d.memc = { s.dev.memc with selfRefresh := false } ∧
      Dev.Frame (.memc :: noticeParts) (fun a => a = R.MBOX_PARK || inBlock 19 a) s.dev d) ∧
  (∀ (s : State) (val : Word), s.dev.inReset = false → s.dev.fld F.MBOX_PARK_STATE = 0 →
    Completes (.parkStart 1 val) s fun d =>
      d.fld F.MBOX_PARK_HALTED = (s.dev.fld F.MBOX_PARK_HALTED &&& (15 - 2 * fldOf val F.MBOX_PARK_START)) ∧
      Dev.Frame [.bus, .regs] (fun a => a = R.MBOX_PARK) s.dev d)

/-- With no flip mask armed, EVR writes the next event as record N into its slot, N counts on, and every other byte stays (R375, R376);
which event is next is the queue's first, a safety event's queue before the general one (R391), and the first record of all is 0x0040. The
zero fills of R374 leave zeros in their regions and every other byte as it was. A complete block counts as archived and the archive keeps
its limit (R379). A write of CURSOR is kept. Where these meanings make a choice of the model, it stands in log entries 33, 96. -/
def Obligations.EventRecords : Prop :=
  (∀ (s : State) (e : EvRec) (t : Dev), s.dev.inReset = false → s.dev.flag F.EVR_STATUS_EVREADY = true → s.dev.evr.started = true →
    s.dev.nextEvent = some (e, t) → s.dev.flag F.MEMC_FLIP_CTRL_ARM = false →
    CompletesAll .eventRecordWrite s fun d m => d.nv.nextN = s.dev.nv.nextN + 1 ∧
      (d.rd R.EVR_HEAD_LO).toNat = (s.dev.nv.nextN + 1) % 2 ^ 32 ∧
      stands m (slotAddr s.dev.nv.nextN) (evBytes s.dev.nv.nextN e s.dev.evr.gap) ∧
      (∀ x, x < slotAddr s.dev.nv.nextN ∨ slotAddr s.dev.nv.nextN + 32 ≤ x → m.byte x = s.mem.byte x) ∧
      d.evr.safety = t.evr.safety ∧ (s.dev.evr.gap = false → d.evr.general = t.evr.general) ∧
      Dev.Frame [.evr, .nv, .regs] (inBlock 19) s.dev d) ∧
  (∀ s : State, s.dev.inReset = false → s.dev.flag F.EVR_STATUS_EVREADY = true → s.dev.evr.started = false →
    s.dev.flag F.MEMC_FLIP_CTRL_ARM = false →
    CompletesAll .eventRecordWrite s fun d m => d.nv.nextN = s.dev.nv.nextN + 1 ∧ d.evr.started = true ∧
      stands m (slotAddr s.dev.nv.nextN) (evBytes s.dev.nv.nextN
        { ts := s.dev.ns, code := 0x0040, p1 := alGet s.dev.nv.counters 0 0, p2 := s.dev.nv.nextN % 4294967296 } s.dev.evr.gap) ∧
      Dev.Frame [.evr, .nv, .regs] (inBlock 19) s.dev d) ∧
  (∀ s : State, s.dev.inReset = false → s.dev.flag F.EVR_STATUS_EVREADY = false →
    CompletesAll (.ringFillDone false) s fun d m => d.flag F.EVR_STATUS_EVREADY = true ∧
      (∀ x, (dumpRegion ≤ x ∧ x ≤ 0x9FFFFFFFF) ∨ (eventRing ≤ x ∧ x ≤ 0x8EFFFFFFF) → m.byte x = some 0) ∧
      (∀ x, ¬ ((dumpRegion ≤ x ∧ x ≤ 0x9FFFFFFFF) ∨ (eventRing ≤ x ∧ x ≤ 0x8EFFFFFFF)) → m.byte x = s.mem.byte x) ∧
      Dev.Frame [.regs] (fun a => a = R.EVR_STATUS) s.dev d) ∧
  (∀ s : State, s.dev.inReset = false → s.dev.flag F.EVR_STATUS_EVREADY = true → s.dev.flag F.EVR_STATUS_FRREADY = false →
    CompletesAll (.ringFillDone true) s fun d m => d.flag F.EVR_STATUS_FRREADY = true ∧
      (∀ x, flightRing ≤ x → x ≤ 0x9EFFFFFFF → m.byte x = some 0) ∧
      (∀ x, ¬ (flightRing ≤ x ∧ x ≤ 0x9EFFFFFFF) → m.byte x = s.mem.byte x) ∧ Dev.Frame [.regs] (fun a => a = R.EVR_STATUS) s.dev d) ∧
  (∀ s : State, s.dev.inReset = false → s.dev.evr.archNext + 4096 ≤ s.dev.nv.nextN → s.dev.evr.started = true →
    s.dev.flag F.EVR_STATUS_ARCHOFF = false →
    CompletesAll .archiveBlockWrite s fun d m => d.evr.archNext = s.dev.evr.archNext + 4096 ∧
      d.nv.archive.length ≤ 67108864 ∧ m.cells = s.mem.cells ∧ m.fills = s.mem.fills ∧
      Dev.Frame ([.evr, .nv] ++ memoryParts) memoryRegs s.dev d) ∧
  (∀ (s : State) (m : Master) (high : Bool) (val : Word), s.dev.inReset = false → s.dev.mayUse m (if high then R.EVR_CURSOR_HI else R.EVR_CURSOR_LO) = true →
    Completes (.cursorWrite m high val) s fun d => d.rd (if high then R.EVR_CURSOR_HI else R.EVR_CURSOR_LO) = val ∧
      Dev.Frame [.bus, .regs] (fun a => a = if high then R.EVR_CURSOR_HI else R.EVR_CURSOR_LO) s.dev d)

/-- With no other window open, a write of FREEZE freezes a window from 30 s before the present tick, as far as records and earlier windows
leave it, to 5 s after it (R383). At its end its copy starts, a finished copy stands last in Bear's index, and a window is lost instead
where flash is urgent at either moment (R384). Where these meanings make a choice of the model, it stands in log entries 3, 33, 41. -/
def Obligations.FrozenWindows : Prop :=
  (∀ (s : State) (m : Master) (tag : Word), s.dev.inReset = false → s.dev.mayUse m R.EVR_FREEZE = true → m ≠ 10 → s.dev.evr.windows = [] →
    Completes (.freeze m tag) s fun d =>
      d.evr.windows = [{ num := nextWindow s.dev.nv.lastWin, kind := 2, trig := s.dev.tick,
                         last := s.dev.tick + 40000, tag := tag,
                         first := max s.dev.evr.winEnd (max (s.dev.tick - 240000) (s.dev.evr.firstFr.getD s.dev.tick)) }] ∧
      d.nv.lastWin = nextWindow s.dev.nv.lastWin ∧ d.od? 0x2802 2 = nextWindow s.dev.nv.lastWin ∧ d.flag F.EVR_IRQ_FROZEN = true ∧
      Dev.Frame ([.bus, .nv, .od] ++ noticeParts) (inBlock 19) s.dev d) ∧
  (∀ (s : State) (w : Window) (t : List Window), s.dev.inReset = false → s.dev.evr.windows = w :: t → w.copying = false →
    w.last ≤ s.dev.tick → s.dev.fld F.FLSH_HEALTH_PREEOL ≠ 3 →
    Completes .windowCopyStart s fun d => d.evr = { s.dev.evr with windows := { w with copying := true } :: t } ∧
      d.flag F.EVR_STATUS_COPYING = true ∧ Dev.Frame [.evr, .memc, .regs] (fun a => a = R.EVR_STATUS) s.dev d) ∧
  (∀ (s : State) (w : Window) (t : List Window), s.dev.inReset = false → s.dev.evr.windows = w :: t → w.copying = false →
    w.last ≤ s.dev.tick → s.dev.fld F.FLSH_HEALTH_PREEOL = 3 →
    Completes .windowCopyStart s fun d => d.evr.windows = t ∧
      d.nv = { s.dev.nv with winStore := s.dev.nv.winStore ++ [{ win := w, bytes := [], lost := true }] } ∧
      Dev.Frame ([.evr, .nv] ++ noticeParts) (inBlock 19) s.dev d) ∧
  (∀ (s : State) (w : Window) (t : List Window), s.dev.inReset = false → s.dev.evr.windows = w :: t → w.copying = true →
    w.last ≤ w.first + 960000 → s.dev.fld F.FLSH_HEALTH_PREEOL ≠ 3 →
    CompletesAll .windowStored s fun d m => d.evr.windows = t ∧ d.flag F.EVR_STATUS_COPYING = false ∧ d.flag F.EVR_IRQ_STORED = true ∧
      (d.nv.winStore.getLast?.map fun x => (x.win, x.lost)) = some (w, false) ∧ m.cells = s.mem.cells ∧ m.fills = s.mem.fills ∧
      Dev.Frame ([.evr, .nv] ++ memoryParts) memoryRegs s.dev d) ∧
  (∀ (s : State) (w : Window) (t : List Window), s.dev.inReset = false → s.dev.evr.windows = w :: t → w.copying = true →
    s.dev.fld F.FLSH_HEALTH_PREEOL = 3 →
    Completes .windowStored s fun d => d.evr.windows = t ∧ d.flag F.EVR_STATUS_COPYING = false ∧
      (d.nv.winStore.getLast?.map fun x => (x.win, x.lost)) = some (w, true) ∧
      Dev.Frame ([.evr, .nv] ++ noticeParts) (inBlock 19) s.dev d)

/-- A fatal error of a master 1 to 5, with the boot done, opens a dump in Bear, leaves the dump in its region where that is filled with
every other byte as it was, and shows a warm reset in RSTCAUSE (R390). The operating hours count up to their limit and no other counter
moves (R387). The predicted lives of items 5 to 48 are those of their counts of 30 days before, and today's counts join the 30 that are
kept (R389). Where these meanings make a choice of the model, it stands in log entries 3, 93, 98, 99, 100, 105. -/
def Obligations.FatalAndWear : Prop :=
  (∀ (s : State) (m : Master) (code : Word) (dump : List Byte), s.dev.inReset = false → 1 ≤ m.val → m.val ≤ 5 → s.dev.boot.todo = 0 →
    dump.length + 64 ≤ 0x10000000 →
    CompletesAll (.fatalError m code dump) s fun d q => d.nv.dumpOpen = some m.val ∧ bitN (d.rd R.SYS_RSTCAUSE).toNat 3 = true ∧
      (s.dev.flag F.EVR_STATUS_EVREADY = true → stands q dumpRegion (dumpHead m.val s.dev.tick (64 + dump.length) ++ dump)) ∧
      (∀ x, x < dumpRegion ∨ dumpRegion + 64 + dump.length ≤ x → q.byte x = s.mem.byte x)) ∧
  (∀ s : State, s.dev.inReset = false →
    Completes .operatingHour s fun d => alGet d.nv.counters 1 0 = min 4294967295 (alGet s.dev.nv.counters 1 0 + 1) ∧
      (∀ i, i ≠ 1 → alGet d.nv.counters i 0 = alGet s.dev.nv.counters i 0) ∧ Dev.Frame [.nv] (fun _ => false) s.dev d) ∧
  (∀ s : State, s.dev.inReset = false →
    Completes .lifeRecompute s fun d =>
      (∀ i, 5 ≤ i → i ≤ 48 → d.od? 0x2805 (i - 4) = s.dev.lifeDays i ((s.dev.nv.daily.getD 29 []).getD (i - 5) 0)) ∧
      d.nv = { s.dev.nv with daily := (wearItems.map s.dev.counter :: s.dev.nv.daily).take 30 } ∧
      Dev.Frame [.od, .nv] (fun _ => false) s.dev d)

/-! ## Images, boot, handover -/

/-- The answer of an image request stands in the session. -/
def Sys2Proof.Machine.imgAnswer (tag status : Nat) : List Byte := fspBytes 0x20 tag 0 0 status []

def Sys2Proof.Machine.imgRegs (a : Nat) : Bool := a = R.ETH_STATUS || inBlock 19 a

/-- What the handover may change: its own state, the registers of BOOT, and the records. -/
def Sys2Proof.Machine.bootRegs (a : Nat) : Bool := a = R.BOOT_STATUS || inBlock 19 a

def Sys2Proof.Machine.presParts : List Part := .pres :: noticeParts
def Sys2Proof.Machine.presRegs (a : Nat) : Bool := a = R.PRES_STATUS || inBlock 19 a

/-- OPEN, where its checks pass, erases the inactive slot of its kind and no other one, and is refused with their status where they do
not; DATA puts bytes into that slot alone; outside recovery CLOSE of a kind but the car backup answers whether the image in it passes the
checks of R395 (R396). Where these meanings make a choice of the model, it stands in log entries 43, 57. -/
def Obligations.ImageTransfer : Prop :=
  (∀ (s : State) (i : Fin 4) (tag : Fin 256) (kind : Nat) (x : Session), s.dev.inReset = false → s.dev.fspOpen i = true →
    s.dev.ode.sess[i] = some x → s.dev.openStatus kind = 0 →
    Completes (.imageOpen i tag kind) s fun d =>
      d.slot (s.dev.openSlot kind) = { erased := true, writes := [] } ∧
      (∀ j, j ≠ s.dev.openSlot kind → d.slot j = s.dev.slot j) ∧
      d.ode.sess[i] = some { x with img := some kind, bars := 0, resp := imgAnswer tag.val 0 } ∧
      Dev.Frame [.nv, .ode, .memc, .regs] (fun a => a = R.ETH_STATUS) s.dev d) ∧
  (∀ (s : State) (i : Fin 4) (tag : Fin 256) (kind : Nat) (x : Session), s.dev.inReset = false → s.dev.fspOpen i = true →
    s.dev.ode.sess[i] = some x → s.dev.openStatus kind ≠ 0 →
    Completes (.imageOpen i tag kind) s fun d =>
      d.ode.sess[i] = some { x with img := none, bars := s.dev.openStatus kind, resp := imgAnswer tag.val (s.dev.openStatus kind) } ∧
      Dev.Frame (.ode :: noticeParts) imgRegs s.dev d) ∧
  (∀ (s : State) (i : Fin 4) (tag : Fin 256) (off k : Nat) (b : List Byte) (x : Session), s.dev.inReset = false →
    s.dev.fspOpen i = true → s.dev.ode.sess[i] = some x → x.img = some k → b.length ≤ 4092 →
    off + b.length ≤ (if k = 3 then 65536 else 268435456) →
    Completes (.imageData i tag off b) s fun d =>
      d.slot (s.dev.openSlot k) = { erased := true, writes := (off, b) :: (s.dev.slot (s.dev.openSlot k)).writes } ∧
      (∀ j, j ≠ s.dev.openSlot k → d.slot j = s.dev.slot j) ∧
      d.ode.sess[i] = some { x with resp := imgAnswer tag.val 0 } ∧
      Dev.Frame [.nv, .ode, .memc, .regs] (fun a => a = R.ETH_STATUS) s.dev d) ∧
  (∀ (s : State) (i : Fin 4) (tag : Fin 256) (k : Nat) (x : Session), s.dev.inReset = false →
    s.dev.fspOpen i = true → s.dev.ode.sess[i] = some x → x.img = some k → k ≠ 3 → s.dev.recovery = false →
    Completes (.imageClose i tag) s fun d =>
      d.ode.sess[i] = some { x with img := none, bars := 0x08000022,
                                    resp := imgAnswer tag.val (if s.dev.imgValid (s.dev.openSlot k) then 0 else 0x08000024) } ∧
      Dev.Frame (.ode :: noticeParts) imgRegs s.dev d)

/-- The boot (R397, R399, R420): it ends at once in recovery and else waits for the HOLD capacitor, and with that charged it ends with
both channels out of their boot HOLD. After a whole reset the memories are initialised (R341); Bear keeps its bytes. After a SAFE reset
Marten alone boots. A capacitor that is charged is recorded with its measured values, and ends a boot that waits for it. Where these
meanings make a choice of the model, it stands in log entry 100. -/
def Obligations.BootSteps : Prop :=
  (∀ s : State, s.dev.inReset = false → s.dev.boot.todo = 1 → s.dev.boot.waits = false → s.dev.boot.holdOk = false →
    CompletesAll .boot s fun d m => (if d.recovery then d.boot.todo = 0 else d.boot.todo = 1 ∧ d.boot.waits = true) ∧
      m.safeInit = true ∧ (∀ a, (0x18000000 ≤ a ∧ a ≤ 0x183FFFFF) ∨ (0x800000000 ≤ a ∧ a ≤ 0x9FFFFFFFF) → cellGet m.cells a = none) ∧
      (∀ a, 0x20000000 ≤ a → a ≤ 0x203FFFFF → m.byte a = s.mem.byte a) ∧
      d.now = s.dev.now ∧ d.inReset = false ∧ d.chA = s.dev.chA ∧ d.chB = s.dev.chB) ∧
  (∀ s : State, s.dev.inReset = false → s.dev.boot.todo = 2 → s.dev.boot.waits = false → s.dev.boot.holdOk = false →
    CompletesAll .boot s fun d m => (if d.recovery then d.boot.todo = 0 else d.boot.todo = 2 ∧ d.boot.waits = true) ∧
      m = s.mem ∧ d.now = s.dev.now ∧ d.inReset = false ∧ d.chA = s.dev.chA ∧ d.chB = s.dev.chB) ∧
  (∀ s : State, s.dev.inReset = false → s.dev.boot.todo = 1 → s.dev.boot.waits = false → s.dev.boot.holdOk = true →
    CompletesAll .boot s fun d m => d.boot.todo = 0 ∧ (d.recovery = false → d.chA.booting = false ∧ d.chB.booting = false) ∧
      (∀ a, 0x20000000 ≤ a → a ≤ 0x203FFFFF → m.byte a = s.mem.byte a) ∧ d.now = s.dev.now ∧ d.inReset = false) ∧
  (∀ s : State, s.dev.inReset = false → s.dev.boot.todo = 3 → s.dev.boot.waits = false →
    Completes .boot s fun d => d.boot = { s.dev.boot with todo := 0 } ∧ d.chA.booting = false ∧ d.chA.tpf = s.dev.nv.tpf ∧
      Dev.Frame (.boot :: .od :: .nv :: chanParts) (fun a => chanRegs a || inBlock 13 a) s.dev d) ∧
  (∀ (s : State) (ms mv : Nat), s.dev.inReset = false → s.dev.boot.holdOk = false → s.dev.boot.waits = false →
    Completes (.holdCharged ms mv) s fun d => d.boot = { s.dev.boot with holdOk := true } ∧
      d.rd R.ANA_HOLDCAP = BitVec.ofNat 32 ((holdC ms % 65536).toNat * 65536 + (holdE ms mv % 65536).toNat) ∧
      Dev.Frame (.boot :: noticeParts) (fun a => a = R.ANA_HOLDCAP || inBlock 19 a) s.dev d) ∧
  (∀ (s : State) (ms mv : Nat), s.dev.inReset = false → s.dev.boot.holdOk = false → s.dev.boot.waits = true →
    CompletesAll (.holdCharged ms mv) s fun d m => d.boot.todo = 0 ∧ d.boot.waits = false ∧ d.boot.holdOk = true ∧ d.chA.booting = false ∧
      (∀ a, 0x20000000 ≤ a → a ≤ 0x203FFFFF → m.byte a = s.mem.byte a) ∧ d.now = s.dev.now ∧ d.inReset = false)

/-- The candidate of a handover: master 1 loads it, outside a boot and recovery, where the inactive slot holds a valid image; it is ready
where the LEVEL of its image is listed and dropped where it is not; master 1 has it wait for the quiet point or discards it; the commands
of another master change nothing (R401). The handover itself (R402, R403): the quarantine at tick q, the snapshot at q + 1, the
candidate's authority from q + 2; then CONFIRM within the window makes the new slot the active one and raises the minimum SECVER, and a
window that has passed or a fatal error ends it with the snapshot's DOMAIN value; both end the quarantine but for an unlisted combination.
Where these meanings make a choice of the model, it stands in log entries 14, 33, 100, 105. -/
def Obligations.Handover : Prop :=
  (∀ s : State, s.dev.inReset = false → s.dev.mayUse 1 R.BOOT_HOCMD = true → s.dev.hoState = 0 ∨ s.dev.hoState = 6 → s.dev.boot.todo = 0 →
    s.dev.recovery = false →
    Completes (.handoverLoad 1) s fun d =>
      (if s.dev.imgValid (s.dev.openSlot 2) then d.hoState = 1 ∧ d.boot = { s.dev.boot with cand := some (s.dev.openSlot 2) }
       else d.hoState = s.dev.hoState ∧ d.boot = s.dev.boot) ∧
      Dev.Frame [.bus, .boot, .regs] (fun a => a = R.BOOT_STATUS) s.dev d) ∧
  (∀ (s : State) (i off : Nat), s.dev.inReset = false → s.dev.boot.cand = some i → s.dev.hoState = 1 →
    Completes (.candidateReady off) s fun d =>
      (if s.dev.levelListed (s.dev.imgLevel i) then d.hoState = 2 ∧ d.boot = s.dev.boot
       else d.hoState = 6 ∧ d.boot = { s.dev.boot with cand := none }) ∧
      Dev.Frame (.now :: .boot :: noticeParts) bootRegs s.dev d) ∧
  (∀ s : State, s.dev.inReset = false → s.dev.mayUse 1 R.BOOT_HOCMD = true → s.dev.hoState = 2 →
    Completes (.handoverRequest 1) s fun d => d.hoState = 3 ∧ Dev.Frame [.bus, .regs] (fun a => a = R.BOOT_STATUS) s.dev d) ∧
  (∀ s : State, s.dev.inReset = false → s.dev.mayUse 1 R.BOOT_HOCMD = true → s.dev.hoState = 2 ∨ s.dev.hoState = 3 →
    Completes (.handoverDiscard 1) s fun d => d.hoState = 0 ∧ d.boot = { s.dev.boot with cand := none } ∧
      Dev.Frame [.bus, .boot, .regs] (fun a => a = R.BOOT_STATUS) s.dev d) ∧
  (∀ (s : State) (m : Master), s.dev.inReset = false → s.dev.mayUse m R.BOOT_HOCMD = true → m ≠ 1 →
    Completes (.handoverLoad m) s (fun d => Dev.Frame [.bus] (fun _ => false) s.dev d) ∧
    Completes (.handoverRequest m) s (fun d => Dev.Frame [.bus] (fun _ => false) s.dev d) ∧
    Completes (.handoverDiscard m) s (fun d => Dev.Frame [.bus] (fun _ => false) s.dev d)) ∧
  (∀ s : State, s.dev.inReset = false → s.dev.hoState = 3 → s.dev.quietPoint = true → s.dev.bothRun = true → s.dev.bid.eval = none →
    Completes .handoverStart s fun d => d.hoState = 4 ∧ d.flag F.BOOT_STATUS_QUAR = true ∧
      d.boot = { s.dev.boot with hoTick := s.dev.tick } ∧ Dev.Frame [.boot, .regs] (fun a => a = R.BOOT_STATUS) s.dev d) ∧
  (∀ s : State, s.dev.inReset = false → s.dev.hoState = 4 → s.dev.tick = s.dev.boot.hoTick + 1 →
    Completes .handoverSnapshot s fun d => d.boot = { s.dev.boot with snap := s.dev.od, snapDom := s.dev.ode.dom } ∧
      Dev.Frame [.boot] (fun _ => false) s.dev d) ∧
  (∀ s : State, s.dev.inReset = false → s.dev.hoState = 4 → s.dev.boot.hoTick + 2 ≤ s.dev.tick →
    Completes .handoverAuthority s fun d => d.hoState = 5 ∧ d.boot = { s.dev.boot with hoAt := s.dev.tick * tickCyc } ∧
      Dev.Frame [.boot, .regs] (fun a => a = R.BOOT_STATUS) s.dev d) ∧
  (∀ (s : State) (m : Master) (val : Word) (i : Nat), s.dev.inReset = false → s.dev.mayUse m R.BOOT_CONFIRM = true → s.dev.boot.cand = some i →
    i = 2 ∨ i = 3 → s.dev.hoState = 5 → bitN val.toNat 0 = true → s.dev.hoWindow = true →
    Completes (.confirm m val) s fun d => d.hoState = 0 ∧ d.flag F.BOOT_STATUS_QUAR = s.dev.flag F.BOOT_STATUS_UNLISTED ∧
      d.fld F.BOOT_STATUS_APPSLOT = i - 2 ∧ d.nv = { s.dev.nv with appSlot := i - 2, minSec := d.nv.minSec } ∧
      d.nv.minSec.toList = s.dev.nv.minSec.toList.set 1 (max (s.dev.nv.minSec.toList.getD 1 0) (s.dev.imgSec i)) ∧
      d.boot = { s.dev.boot with cand := none, app := true, snap := [], snapDom := [] } ∧
      Dev.Frame ([.bus, .boot, .nv] ++ noticeParts) bootRegs s.dev d) ∧
  (∀ (s : State) (fatal : Bool) (i : Nat), s.dev.inReset = false → s.dev.boot.cand = some i → s.dev.hoState = 5 →
    fatal = true ∨ s.dev.hoWindow = false →
    Completes (.handoverRevert fatal) s fun d => d.hoState = 6 ∧ d.flag F.BOOT_STATUS_QUAR = s.dev.flag F.BOOT_STATUS_UNLISTED ∧
      d.boot = { s.dev.boot with cand := none, snap := [], snapDom := [] } ∧ d.ode = { s.dev.ode with dom := s.dev.boot.snapDom } ∧
      Dev.Frame ([.boot, .ode] ++ noticeParts) bootRegs s.dev d)

/-- The inputs of PRES: after every change of KEY, SEAL, a press or SAFEOK, and at a timeout, LEVEL is the one that `presLevel` gives
(R405); KEY counts only while both inputs are active and there is no KEY fault; inputs that differ for 500 ms set KEYFLT and inputs alike
for 1 s clear it; a stuck lid button takes no press until it is armed again; only master 5 writes SAFEOK (R404, R405). At level 2 a write
of 1 enables master 10 (R407), and the write stands in the presence log (R406); below level 2 nothing is enabled. Where these meanings
make a choice of the model, it stands in log entries 33, 97. -/
def Obligations.Presence : Prop :=
  (∀ (s : State) (a b : Bool), s.dev.inReset = false →
    Completes (.keyInput a b) s fun d => d.flag F.PRES_STATUS_KEY = (a && b && !s.dev.flag F.PRES_STATUS_KEYFLT) ∧ d.level = d.presLevel ∧
      d.pres = { s.dev.pres with keys := b2n a + 2 * b2n b, diff := if a != b then some (s.dev.pres.diff.getD s.dev.now) else none,
                                 same := if a != b then none else some (s.dev.pres.same.getD s.dev.now) } ∧
      Dev.Frame presParts presRegs s.dev d) ∧
  (∀ (s : State) (c : Bool), s.dev.inReset = false →
    Completes (.sealInput c) s fun d => d.flag F.PRES_STATUS_SEAL = !c ∧ d.level = d.presLevel ∧ Dev.Frame noticeParts presRegs s.dev d) ∧
  (∀ s : State, s.dev.inReset = false → s.dev.flag F.PRES_STATUS_STUCK = false →
    Completes .lidButtonPress s fun d => d.level = d.presLevel ∧
      d.pres = { s.dev.pres with press := some s.dev.now, press2 := if s.dev.flag F.PRES_STATUS_SEAL && s.dev.flag F.PRES_STATUS_SAFEOK
                                   then some s.dev.now else s.dev.pres.press2 } ∧
      Dev.Frame presParts presRegs s.dev d) ∧
  (∀ s : State, s.dev.inReset = false → s.dev.flag F.PRES_STATUS_STUCK = true →
    Completes .lidButtonPress s (fun d => d = s.dev) ∧
    Completes .lidButtonRearm s (fun d => d.flag F.PRES_STATUS_STUCK = false ∧ d.level = s.dev.level ∧
      Dev.Frame [.regs] (fun a => a = R.PRES_STATUS) s.dev d)) ∧
  (∀ s : State, s.dev.inReset = false → s.dev.flag F.PRES_STATUS_STUCK = false →
    Completes .lidButtonStuck s fun d => d.flag F.PRES_STATUS_STUCK = true ∧ d.level = s.dev.level ∧
      Dev.Frame noticeParts presRegs s.dev d) ∧
  (∀ (s : State) (val : Word), s.dev.inReset = false → s.dev.mayUse 5 R.PRES_SAFEOK = true →
    Completes (.safeokWrite 5 val) s fun d => d.flag F.PRES_SAFEOK_VALUE = bitN val.toNat 0 ∧
      d.flag F.PRES_STATUS_SAFEOK = bitN val.toNat 0 ∧ d.level = d.presLevel ∧
      Dev.Frame (.bus :: noticeParts) (fun a => a = R.PRES_SAFEOK || presRegs a) s.dev d) ∧
  (∀ (s : State) (m : Master) (val : Word), s.dev.inReset = false → s.dev.mayUse m R.PRES_SAFEOK = true → m ≠ 5 →
    Completes (.safeokWrite m val) s fun d => Dev.Frame [.bus] (fun _ => false) s.dev d) ∧
  (∀ s : State, s.dev.inReset = false →
    Completes .presenceTimeout s fun d => d.level = d.presLevel ∧ Dev.Frame noticeParts presRegs s.dev d) ∧
  (∀ (s : State) (t : Nat), s.dev.inReset = false → s.dev.pres.diff = some t → t + 500 * msCyc ≤ s.dev.now →
    s.dev.flag F.PRES_STATUS_KEYFLT = false →
    Completes .keyChannelsDisagree s fun d => d.flag F.PRES_STATUS_KEYFLT = true ∧ d.flag F.PRES_STATUS_KEY = false ∧
      d.level = d.presLevel ∧ Dev.Frame noticeParts presRegs s.dev d) ∧
  (∀ (s : State) (t : Nat), s.dev.inReset = false → s.dev.pres.same = some t → t + 1000 * msCyc ≤ s.dev.now →
    s.dev.flag F.PRES_STATUS_KEYFLT = true →
    Completes .keyChannelsAgree s fun d => d.flag F.PRES_STATUS_KEYFLT = false ∧
      d.flag F.PRES_STATUS_KEY = decide (s.dev.pres.keys = 3) ∧ d.level = d.presLevel ∧ Dev.Frame noticeParts presRegs s.dev d) ∧
  (∀ (s : State) (m : Master) (val : Word), s.dev.inReset = false → s.dev.mayUse m R.PRES_DEBUG = true → s.dev.level = 2 →
    s.dev.flag F.PRES_DEBUG_VALUE = false → bitN val.toNat 0 = true →
    Completes (.debugUnlock m val) s fun d => d.flag F.PRES_DEBUG_VALUE = true ∧ d.flag F.PRES_STATUS_DEBUG = true ∧
      (d.nv.presLog.getLast?.map fun r => (r.kind, r.place, r.old, r.new)) = some (4, R.PRES_DEBUG, 0, 1) ∧
      Dev.Frame ([.bus, .nv] ++ noticeParts) (fun a => a = R.PRES_DEBUG || presRegs a) s.dev d) ∧
  (∀ (s : State) (m : Master) (val : Word), s.dev.inReset = false → s.dev.mayUse m R.PRES_DEBUG = true → s.dev.level < 2 →
    s.dev.flag F.PRES_DEBUG_VALUE = false →
    Completes (.debugUnlock m val) s fun d => d.flag F.PRES_DEBUG_VALUE = false ∧
      Dev.Frame (.bus :: noticeParts) (inBlock 19) s.dev d)

/-- A car of a group sends its backup in chunks of 14 bytes and the next one in a later ring cycle (R408). An adoption is a staged write,
which once applied takes the installation ID and asks the group for the backup; with a complete matching backup there, the adoption is
recorded with the set's serial number and leaves the verification due, and without one nothing changes (R409). The verification run goes
the learning legs (R410): its start is a staged write, which once applied begins the leg down in WAIT_START; a leg down that has captured
its switch is followed by the leg up; the run passes where every landing and both switches lie within the tolerance of the adopted map,
which clears VERIFYPEND, and fails where one landing does not, which leaves it set. Where these meanings make a choice of the model, it
stands in log entries 46, 74, 79, 100. -/
def Obligations.ModuleExchange : Prop :=
  (∀ s : State, s.dev.inReset = false → s.dev.boot.bkOut ≠ [] → s.dev.boot.bkCycle ≤ s.dev.cycleNo → s.dev.od? 0x2500 2 = 1 →
    Completes .backupChunkSend s fun d =>
      d.boot = { s.dev.boot with bkOut := s.dev.boot.bkOut.drop 14, bkNext := s.dev.boot.bkNext + 1, bkCycle := s.dev.cycleNo + 1 } ∧
      d.bid.out = s.dev.bid.out ++ [[0x50, 22, by8 s.dev.car, by8 (b2n (s.dev.boot.bkNext == 0) + 2 * b2n (s.dev.boot.bkOut.drop 14).isEmpty)] ++
        leBytes 4 s.dev.nv.bkGen ++ leBytes 2 s.dev.boot.bkNext ++ (s.dev.boot.bkOut.take 14 ++ List.replicate 14 0).take 14] ∧
      Dev.Frame [.boot, .bid] (fun _ => false) s.dev d) ∧
  (∀ (s : State) (c : Client) (inst car : Nat), s.dev.inReset = false → inst < 2 ^ 32 → car < 256 → s.dev.od? 0x2500 2 = 1 →
    (s.dev.writeCheck c 0x2904 1 (leBytes 8 (inst + car * 2 ^ 32))).1 = 0 →
    CompletesStaged (.adopt c inst car) s c 0x2904 1 (leBytes 8 (inst + car * 2 ^ 32)) fun d => d.boot = { s.dev.boot with want := some (inst, car) } ∧ d.od? 0x2904 6 = inst ∧
      d.od? 0x2904 2 = 1 ∧ (d.bid.out.getLast?.map fun l => l.take 8) = some ([0x51, 6, 0, by8 car] ++ leBytes 4 inst) ∧
      Dev.Frame [.boot, .bid, .od] (fun _ => false) s.dev d) ∧
  (∀ (s : State) (i c : Nat), s.dev.inReset = false → s.dev.boot.want = some (i, c) →
    Completes .backupApplied s fun d =>
      (s.dev.backupFor i c = none → d = s.dev) ∧
      (∀ img, s.dev.backupFor i c = some img → d.nv.adopted = some (i, c, (bodyOf img).serial) ∧ d.nv.verify = true ∧
        d.boot.want = none ∧ d.flag F.BOOT_STATUS_ADOPTED = true ∧ d.flag F.BOOT_STATUS_VERIFYPEND = true ∧ d.od? 0x2904 2 = 3) ∧
      d.now = s.dev.now ∧ d.inReset = false ∧ d.nv.aset = s.dev.nv.aset ∧ d.nv.amap = s.dev.nv.amap) ∧
  (∀ (s : State) (c : Client), s.dev.inReset = false → (s.dev.writeCheck c 0x2904 3 [1]).1 = 0 → s.dev.learnMay = true →
    s.dev.od? 0x2109 1 ≠ 0xFF → s.dev.od? 0x2109 2 ≠ 0xFF → s.dev.odI 0x2104 1 < s.dev.odI 0x2104 4 →
    CompletesStaged (.verificationStart c) s c 0x2904 3 [1] fun d =>
      d.cmpl.learn.leg = 1 ∧ d.cmpl.learn.verify = true ∧ d.cmpl.learn.found = [] ∧ d.pgen.tgt = some (s.dev.odI 0x2104 1) ∧
      d.pgState = 1 ∧ d.od? 0x2904 3 = 1 ∧ d.od? 0x2904 4 = 1 ∧
      Dev.Frame (.cmpl :: .pgen :: .od :: noticeParts) (fun a => showsTarget a || inBlock 19 a) s.dev d) ∧
  (∀ s : State, s.dev.inReset = false → s.dev.cmpl.learn.leg = 1 → s.dev.cmpl.learn.started = true → s.dev.cmpl.learn.bad = false →
    s.dev.cmpl.learn.swLow ≠ none → s.dev.cmpl.learn.verify = true → s.dev.pgState = 0 → s.dev.atRest = true →
    Completes .verificationEnd s fun d => d.cmpl.learn.leg = 2 ∧ d.cmpl.learn.verify = true ∧ d.pgen.tgt = some (s.dev.odI 0x2104 4) ∧
      d.pgState = 1 ∧ Dev.Frame (.cmpl :: .pgen :: .od :: noticeParts) (fun a => showsTarget a || inBlock 19 a) s.dev d) ∧
  (∀ (s : State) (p q : Int), s.dev.inReset = false → s.dev.cmpl.learn.leg = 2 → s.dev.cmpl.learn.started = true →
    s.dev.cmpl.learn.bad = false → s.dev.cmpl.learn.verify = true → s.dev.pgState = 0 →
    s.dev.atRest = true → s.dev.cmpl.learn.found.length = s.dev.landings →
    (∀ k < s.dev.landings, |s.dev.cmpl.learn.found.getD k 0 - s.dev.A k| ≤ s.dev.od? 0x2904 5) →
    s.dev.cmpl.learn.swLow = some p → |p - s.dev.odI 0x2104 2| ≤ s.dev.od? 0x2904 5 →
    s.dev.cmpl.learn.swHigh = some q → |q - s.dev.odI 0x2104 3| ≤ s.dev.od? 0x2904 5 →
    Completes .verificationEnd s fun d => d.cmpl.learn = {} ∧ d.nv = { s.dev.nv with verify := false } ∧
      d.flag F.BOOT_STATUS_VERIFYPEND = false ∧ d.od? 0x2904 4 = 2 ∧ Dev.Frame ([.cmpl, .od, .nv] ++ noticeParts) bootRegs s.dev d) ∧
  (∀ (s : State) (k : Nat), s.dev.inReset = false → s.dev.cmpl.learn.leg = 2 → s.dev.cmpl.learn.started = true →
    s.dev.cmpl.learn.bad = false → s.dev.cmpl.learn.swHigh ≠ none → s.dev.cmpl.learn.verify = true → s.dev.pgState = 0 →
    s.dev.atRest = true → k < s.dev.cmpl.learn.found.length →
    s.dev.od? 0x2904 5 < |s.dev.cmpl.learn.found.getD k 0 - s.dev.A k| →
    Completes .verificationEnd s fun d => d.cmpl.learn = {} ∧ d.nv = s.dev.nv ∧ d.od? 0x2904 4 = 3 ∧
      Dev.Frame ([.cmpl, .od] ++ noticeParts) (inBlock 19) s.dev d)

/-! ## Power and resets -/

/-- The reset of the whole module (R30, R341): every register at its reset word but the fuse records that the devices hold, the reset cause
and what the event log shows; TICK at 0, the boot due, Bear with its bytes and no other byte of memory listed. -/
def Sys2Proof.Machine.wholeDone (s d : Dev) (n m : MemSys) : Prop :=
  d.now = 0 ∧ d.inReset = s.inReset ∧ d.boot.todo = 1 ∧ d.boot.waits = false ∧
  (∀ a, fuseReg a = false → a ≠ R.SYS_RSTCAUSE → inBlock 19 a = false → d.rd a = resetWord a) ∧
  (∀ a, fuseReg a = true → d.rd a = s.rd a) ∧
  d.nv = { s.nv with winStore := d.nv.winStore, lockouts := d.nv.lockouts, tpf := d.nv.tpf } ∧
  (∀ a, 0x20000000 ≤ a → a ≤ 0x203FFFFF → m.byte a = n.byte a) ∧
  (∀ a, a < 0x20000000 ∨ 0x203FFFFF < a → m.byte a = none) ∧
  ∀ p ∈ [Part.od, .odPend, .bus, .latch, .posx, .cmpl, .pgen, .ceng, .doors, .motion, .ring, .bid, .chA, .chB, .marten, .badger, .sout, .io,
         .ode, .mbox, .pres, .ana, .memc], p.Same State.reset.dev d

/-- A warm reset has run (R425): the registers outside the AON domain are at their reset words, AON keeps its own, TICK counts on, Badger holds
cause 0x45, and the boot is due. -/
def Sys2Proof.Machine.warmDone (s d : Dev) : Prop :=
  d.now = s.now ∧ d.inReset = s.inReset ∧ d.boot = { todo := 2, holdOk := s.boot.holdOk, por := s.boot.por } ∧ d.chB.has 0x45 = true ∧
  (∀ a, warmKeeps a = false → (inBlock 14 a || inBlock 15 a || inBlock 19 a) = false → d.rd a = resetWord a) ∧
  (∀ a, warmKeeps a = true → (inBlock 16 a || inBlock 19 a) = false → a ≠ R.SYS_RSTCAUSE → d.rd a = s.rd a) ∧
  d.pres = s.pres ∧ d.ana = s.ana ∧ d.latch = s.latch ∧
  ∀ p ∈ [Part.posx, .cmpl, .pgen, .ceng, .doors, .motion, .ring, .bid, .chA, .marten, .io, .ode, .odPend], p.Same State.reset.dev d

/-- POWER_ON_RESET_RELEASE ends power-on reset with the whole reset, RSTCAUSE naming power-on and a power fail before it (R421); nMRST
gives the same reset and adds its bit to RSTCAUSE (R429, R425). While power-on reset holds every other command leaves the state as it is
(the model's choice, log 118). Where these meanings make a choice of the model, it stands in log entries 2, 94, 95, 118. -/
def Obligations.WholeResets : Prop :=
  (∀ s : State,
    CompletesAll .powerOnResetRelease s fun d m => wholeDone { s.dev with inReset := false } d s.mem m ∧
      d.boot = { todo := 1, holdOk := false, por := true } ∧
      (d.rd R.SYS_RSTCAUSE).toNat = 1 + 2 * b2n s.dev.sout.pfail.isSome) ∧
  (∀ s : State, s.dev.inReset = false →
    CompletesAll .nmrst s fun d m => wholeDone s.dev d s.mem m ∧
      d.boot = { todo := 1, holdOk := s.dev.boot.holdOk, por := s.dev.boot.por } ∧
      ∀ i < 32, bitN (d.rd R.SYS_RSTCAUSE).toNat i = (i == 2 || bitN (s.dev.rd R.SYS_RSTCAUSE).toNat i)) ∧
  (∀ (i : Instr) (s : State), s.dev.inReset = true → i ≠ .powerOnResetRelease → exec i s = .next s)

/-- Power fail opens every switch, withdraws the permits and takes DO, TP, the gates, the ring and the CAN pads away at once, whatever the
channels demand; at its end power-on reset holds (R423). Low VIN is recorded as 0x9002 and nothing else; VSAFE counts as low from below 18
V until it is at 20 V again (R422). Where these meanings make a choice of the model, it stands in log entries 3, 93. -/
def Obligations.PowerFails : Prop :=
  (∀ s : State, s.dev.inReset = false → s.dev.sout.pfail = none →
    CompletesAll .powerFail s fun d m => d.sout.pfail = some s.dev.now ∧ (∀ k : Fin 10, d.sout.cl[k] = false) ∧
      d.rd R.SOUT_APERM = 0 ∧ d.rd R.SOUT_BPERM = 0 ∧ d.io.tpOn = false ∧ (∀ p : Fin 36, d.flag (F.IO24_OUTSTAT_ON p.val) = false) ∧
      (∀ k : Fin 2, d.flag (F.DOOR_STATUS_DRVEN k.val) = false) ∧ (∀ k : Fin 2, d.fld (F.CANX_CFG_MODE k.val) = 0) ∧
      d.fld F.LRING_STATUS_STATE = 0 ∧ m.cells = s.mem.cells ∧ m.fills = s.mem.fills ∧
      d.now = s.dev.now ∧ d.inReset = false ∧ d.chA = s.dev.chA ∧ d.chB = s.dev.chB ∧ d.pres = s.dev.pres) ∧
  (∀ s : State, s.dev.inReset = false → s.dev.sout.pfail.isSome = true →
    CompletesAll .powerFailReset s fun d m => d.inReset = true ∧ m.cells = s.mem.cells ∧ m.fills = s.mem.fills ∧
      Dev.Frame ([.inReset, .evr, .nv] ++ memoryParts) memoryRegs s.dev d) ∧
  (∀ (s : State) (mv : Nat), s.dev.inReset = false →
    Completes (.vinLow mv) s fun d => d = s.dev.log 0x9002 (mv / 10) 0 0 ∧ Dev.Frame noticeParts (inBlock 19) s.dev d) ∧
  (∀ (s : State) (mv : Nat), s.dev.inReset = false → mv < 18000 → s.dev.sout.vsLow = false →
    Completes (.vsafeCrossing mv) s fun d => d.sout = { s.dev.sout with vsLow := true } ∧
      Dev.Frame (.sout :: noticeParts) (inBlock 19) s.dev d) ∧
  (∀ (s : State) (mv : Nat), s.dev.inReset = false → 20000 ≤ mv → s.dev.sout.vsLow = true →
    Completes (.vsafeCrossing mv) s fun d => d.sout = { s.dev.sout with vsLow := false } ∧
      Dev.Frame (.sout :: noticeParts) (inBlock 19) s.dev d)

/-- A write to RSTREQ with the key, from a master that may ask for its KIND, resets what the KIND names and sets its bit in RSTCAUSE
(R425): a warm reset, CORE as a warm reset, the whole module with the arrays cleared and Bear kept, Marten with its channel, permits and
cause 0x45 at Badger, or the Fox cores with their locks released. A request without the key, or from another master than 5 for the KINDs
that are Marten's alone, resets nothing: what changes lies within its record in the event log and the answer (R425). Once Marten is up and
8 verdicts have followed, Badger's cause 0x45 passes (R425). Where these meanings make a choice of the model, it stands in log entries 30,
33, 83, 91. -/
def Obligations.ResetRequests : Prop :=
  (∀ (s : State) (m : Master) (key : Word), s.dev.inReset = false → s.dev.mayUse m R.SYS_RSTREQ = true → key.toNat % 65536 = 0xA5C3 →
    1 ≤ m.val → m.val ≤ 5 →
    Completes (.warmReset m key) s fun d => warmDone s.dev d ∧ bitN (d.rd R.SYS_RSTCAUSE).toNat 3 = true) ∧
  (∀ (s : State) (key : Word), s.dev.inReset = false → s.dev.mayUse 5 R.SYS_RSTREQ = true → key.toNat % 65536 = 0xA5C3 →
    Completes (.coreDomainReset 5 key) s fun d => warmDone s.dev d ∧ bitN (d.rd R.SYS_RSTCAUSE).toNat 7 = true) ∧
  (∀ (s : State) (key : Word), s.dev.inReset = false → s.dev.mayUse 5 R.SYS_RSTREQ = true → key.toNat % 65536 = 0xA5C3 →
    CompletesAll (.moduleReset 5 key) s fun d m => d.now = 0 ∧ d.boot.todo = 1 ∧ bitN (d.rd R.SYS_RSTCAUSE).toNat 6 = true ∧
      (∀ a, fuseReg a = false → a ≠ R.SYS_RSTCAUSE → inBlock 19 a = false → d.rd a = resetWord a) ∧
      (∀ a, 0x20000000 ≤ a → a ≤ 0x203FFFFF → m.byte a = s.mem.byte a) ∧
      (∀ a, a < 0x20000000 ∨ 0x203FFFFF < a → m.byte a = none)) ∧
  (∀ (s : State) (key : Word), s.dev.inReset = false → s.dev.mayUse 5 R.SYS_RSTREQ = true → key.toNat % 65536 = 0xA5C3 →
    Completes (.safeDomainReset 5 key) s fun d => d.chA = {} ∧ d.marten = {} ∧ d.boot = { s.dev.boot with todo := 3 } ∧
      d.rd R.SOUT_APERM = 0 ∧ d.chB.has 0x45 = true ∧ bitN (d.rd R.SYS_RSTCAUSE).toNat 4 = true ∧
      Dev.Frame ([.boot, .bus, .marten, .memc, .mbox] ++ chanParts) (fun a => chanRegs a || inBlock 16 a || a = R.SYS_RSTCAUSE) s.dev d) ∧
  (∀ (s : State) (m : Master) (key : Word), s.dev.inReset = false → s.dev.mayUse m R.SYS_RSTREQ = true → key.toNat % 65536 = 0xA5C3 →
    1 ≤ m.val → m.val ≤ 5 →
    Completes (.appDomainReset m key) s fun d => bitN (d.rd R.SYS_RSTCAUSE).toNat 5 = true ∧
      (∀ l : Fin 32, 1 ≤ s.dev.fld (F.MBOX_LOCK_OWNER l.val) → s.dev.fld (F.MBOX_LOCK_OWNER l.val) ≤ 4 →
        d.fld (F.MBOX_LOCK_OWNER l.val) = 0) ∧
      Dev.Frame ([.bus, .mbox] ++ noticeParts) (fun a => inBlock 16 a || inBlock 19 a || a = R.SYS_RSTCAUSE) s.dev d) ∧
  (∀ (s : State) (m : Master) (key : Word), s.dev.inReset = false → s.dev.mayUse m R.SYS_RSTREQ = true → key.toNat % 65536 ≠ 0xA5C3 →
    Completes (.warmReset m key) s (fun d => Dev.Frame (.bus :: noticeParts) (inBlock 19) s.dev d) ∧
    Completes (.appDomainReset m key) s (fun d => Dev.Frame (.bus :: noticeParts) (inBlock 19) s.dev d)) ∧
  (∀ (s : State) (m : Master) (key : Word), s.dev.inReset = false → s.dev.mayUse m R.SYS_RSTREQ = true → m ≠ 5 →
    Completes (.moduleReset m key) s (fun d => Dev.Frame (.bus :: noticeParts) (inBlock 19) s.dev d) ∧
    Completes (.safeDomainReset m key) s (fun d => Dev.Frame (.bus :: noticeParts) (inBlock 19) s.dev d) ∧
    Completes (.coreDomainReset m key) s (fun d => Dev.Frame (.bus :: noticeParts) (inBlock 19) s.dev d)) ∧
  (∀ s : State, s.dev.inReset = false → s.dev.chB.has 0x45 = true → s.dev.chA.booting = false → 8 ≤ s.dev.badger.vrun →
    Completes .partnerResetEnd s fun d => d.chB.has 0x45 = false ∧ d.chA = s.dev.chA ∧ Dev.Frame chanParts chanRegs s.dev d)

/-- A write of the calibration step is staged; applied while the car stands, the step waits for the next slow tick, and a span step
applied while the car moves is refused with result 3 (R435). A slow tick runs once in the first tick of each 100 ms and in no other (R29):
ANA shows the supplies, the lid, and of each enabled load channel the mean of its conversions and their lowest excitation; a waiting
calibration step is made, and after a zero step its result stands in 0x2021:03 (R435). Where these meanings make a choice of the model, it
stands in log entries 20, 46, 111. -/
def Obligations.LoadAndSlowTick : Prop :=
  (∀ (s : State) (c : Client), s.dev.inReset = false → (s.dev.writeCheck c 0x2021 1 [1]).1 = 0 → s.dev.atRest = true →
    CompletesStaged (.loadCalibrateZero c) s c 0x2021 1 [1] fun d => d.ana = { s.dev.ana with step := 1 } ∧
      Dev.Frame [.ana] (fun _ => false) s.dev d) ∧
  (∀ (s : State) (c : Client), s.dev.inReset = false → (s.dev.writeCheck c 0x2021 1 [2]).1 = 0 → s.dev.atRest = true →
    CompletesStaged (.loadCalibrateSpan c) s c 0x2021 1 [2] fun d => d.ana = { s.dev.ana with step := 2 } ∧
      Dev.Frame [.ana] (fun _ => false) s.dev d) ∧
  (∀ (s : State) (c : Client), s.dev.inReset = false → (s.dev.writeCheck c 0x2021 1 [2]).1 = 0 → s.dev.atRest = false →
    CompletesStaged (.loadCalibrateSpan c) s c 0x2021 1 [2] fun d => d.od? 0x2021 3 = 3 ∧
      Dev.Frame (.od :: noticeParts) (inBlock 19) s.dev d) ∧
  (∀ (s : State) (inp : SlowIn), s.dev.inReset = false → s.dev.tick % 800 = 0 → s.dev.ana.done ≠ some s.dev.tick →
    Completes (.slowTick inp) s fun d => d.ana.done = some s.dev.tick ∧ d.ana.step = 0 ∧
      d.rd R.ANA_VIN = BitVec.ofNat 32 (inp.vin / 10) ∧ d.rd R.ANA_VSAFE = BitVec.ofNat 32 (inp.vsafe / 10) ∧
      d.rd R.ANA_HOLD = BitVec.ofNat 32 (inp.hold / 10) ∧ d.rd R.ANA_LIDTEMP = BitVec.ofInt 32 inp.lid ∧
      (∀ c < 2, s.dev.lcOn c = true → d.rd (R.ANA_LC_RATIO c) = BitVec.ofInt 32 (bridgeMean (inp.lc.getD c [])) ∧
        d.rd (R.ANA_LC_EXC c) = BitVec.ofNat 32 (bridgeExc (inp.lc.getD c []))) ∧
      (s.dev.ana.step = 1 → d.od? 0x2021 3 = 1) ∧
      Dev.Frame ([.ana, .od, .bid, .evr, .nv, .cmpl, .boot, .fresh, .memc] ++ noticeParts)
        (fun a => inBlock 6 a || inBlock 7 a || inBlock 9 a || inBlock 19 a || inBlock 23 a) s.dev d) ∧
  (∀ (s : State) (inp : SlowIn), s.dev.inReset = false → s.dev.tick % 800 ≠ 0 ∨ s.dev.ana.done = some s.dev.tick →
    Completes (.slowTick inp) s fun d => d = s.dev)

/-- The machine after reset has its memory in the canonical form, and holds nothing in it and no waiting command. -/
def Obligations.ResetMemoryCanonical : Prop :=
  State.reset.mem.wf = true ∧
  State.reset.mem.cells = [] ∧
  State.reset.pending = []

/-- The memory's canonical form (addresses strictly rising, no entry equal to what an unlisted address reads as) survives every step. -/
def Obligations.StepKeepsMemoryCanonical : Prop :=
  ∀ s t : State, s.mem.wf = true → step s = .next t → t.mem.wf = true
end

