-- ==== Sys2Proof/Laws/Memory.lean ====
section
/-! SUPPORT. The byte store: what its operations write, what they leave alone, and that each of them keeps the canonical form. -/

namespace Sys2Proof.Machine

/-! ## The list of cells -/

theorem cellGet_put (l : List Host.Cell) (a x : Nat) (b : Byte) :
    cellGet (cellPut l a b) x = if x = a then some b else cellGet l x := by
  induction l with
  | nil =>
    by_cases h : x = a
    · simp [cellPut, cellGet, h]
    · have hk : a ≠ x := fun e => h e.symm
      simp [cellPut, cellGet, h, hk]
  | cons c t ih =>
    obtain ⟨k, v⟩ := c
    unfold cellPut
    by_cases h1 : a < k
    · rw [if_pos h1]
      by_cases h : x = a
      · simp [cellGet, h]
      · rw [cellGet, if_neg (fun e => h e.symm), if_neg h]
    · rw [if_neg h1]
      by_cases h2 : k = a
      · rw [if_pos h2]
        by_cases h : x = a
        · simp [cellGet, h, h2]
        · have hk : k ≠ x := fun e => h (e.symm.trans h2)
          rw [cellGet, if_neg hk, if_neg h, cellGet, if_neg hk]
      · rw [if_neg h2]
        by_cases h : k = x
        · have hx : x ≠ a := fun e => h2 (h.trans e)
          simp [cellGet, h, hx]
        · rw [cellGet, if_neg h, ih, cellGet, if_neg h]

theorem cellGet_filter (l : List Host.Cell) (p : Nat → Bool) (x : Nat) :
    cellGet (l.filter fun c => p c.1) x = if p x then cellGet l x else none := by
  induction l with
  | nil => simp [cellGet]
  | cons c t ih =>
    obtain ⟨k, v⟩ := c
    by_cases hk : k = x
    · subst hk
      cases hp : p k <;> simp [List.filter, cellGet, hp, ih]
    · cases hp : p k <;> simp [List.filter, cellGet, hp, hk, ih]

theorem cellGet_drop (l : List Host.Cell) (a x : Nat) : cellGet (cellDrop l a) x = if x = a then none else cellGet l x := by
  unfold cellDrop
  rw [cellGet_filter l (fun k => k != a)]
  by_cases h : x = a <;> simp [h]

theorem mem_cellPut {l : List Host.Cell} {a : Nat} {b : Byte} {c : Host.Cell} (h : c ∈ cellPut l a b) : c = (a, b) ∨ c ∈ l := by
  induction l with
  | nil => exact .inl (List.mem_singleton.mp h)
  | cons d t ih =>
    obtain ⟨k, v⟩ := d
    unfold cellPut at h
    split at h
    · exact (List.mem_cons.mp h)
    · split at h
      · rename_i hk
        rcases List.mem_cons.mp h with h | h
        · exact .inl (by rw [h, hk])
        · exact .inr (List.mem_cons_of_mem _ h)
      · rcases List.mem_cons.mp h with h | h
        · exact .inr (h ▸ List.mem_cons_self ..)
        · exact (ih h).imp id (List.mem_cons_of_mem _)

/-- Strictly rising addresses. -/
def rising (l : List Host.Cell) : Prop := l.Pairwise fun x y => x.1 < y.1

theorem rising_put {l : List Host.Cell} (a : Nat) (b : Byte) (h : rising l) : rising (cellPut l a b) := by
  induction l with
  | nil => exact List.pairwise_singleton ..
  | cons c t ih =>
    obtain ⟨k, v⟩ := c
    have hc := List.pairwise_cons.mp h
    unfold cellPut
    split
    · rename_i hk
      refine List.pairwise_cons.mpr ⟨fun y hy => ?_, h⟩
      rcases List.mem_cons.mp hy with e | hy
      · rw [e]; exact hk
      · exact Nat.lt_trans hk (hc.1 y hy)
    · split
      · exact List.pairwise_cons.mpr ⟨hc.1, hc.2⟩
      · rename_i h1 h2
        refine List.pairwise_cons.mpr ⟨fun y hy => ?_, ih hc.2⟩
        rcases mem_cellPut hy with e | hy
        · rw [e]; simp only; omega
        · exact hc.1 y hy

theorem rising_filter {l : List Host.Cell} (p : Host.Cell → Bool) (h : rising l) : rising (l.filter p) := List.Pairwise.filter p h

/-! ## The canonical form -/

theorem MemSys.wf_iff (m : MemSys) : m.wf = true ↔ rising m.cells ∧ ∀ c ∈ m.cells, m.absent c.1 ≠ some c.2 := by
  simp [MemSys.wf, rising]

theorem MemSys.wf_empty : ({} : MemSys).wf = true := by decide

@[simp] theorem MemSys.absent_putByte (m : MemSys) (a x : Nat) (b : Byte) : (m.putByte a b).absent x = m.absent x := rfl

/-- Storing a byte: it reads back, and every other address reads as before. -/
theorem MemSys.byte_putByte (m : MemSys) (a x : Nat) (b : Byte) : (m.putByte a b).byte x = if x = a then some b else m.byte x := by
  unfold MemSys.byte
  rw [MemSys.absent_putByte]
  unfold MemSys.putByte
  by_cases h : m.absent a = some b
  · simp only [if_pos h, cellGet_drop]
    by_cases hx : x = a
    · simp [hx, h]
    · simp [hx]
  · simp only [if_neg h, cellGet_put]
    by_cases hx : x = a <;> simp [hx]

theorem MemSys.wf_putByte {m : MemSys} (a : Nat) (b : Byte) (h : m.wf = true) : (m.putByte a b).wf = true := by
  rw [MemSys.wf_iff] at h ⊢
  simp only [MemSys.absent_putByte]
  unfold MemSys.putByte
  by_cases hb : m.absent a = some b
  · simp only [if_pos hb]
    exact ⟨rising_filter _ h.1, fun c hc => h.2 c (List.mem_of_mem_filter hc)⟩
  · simp only [if_neg hb]
    refine ⟨rising_put a b h.1, fun c hc => ?_⟩
    rcases mem_cellPut hc with e | hc
    · rw [e]; exact hb
    · exact h.2 c hc

theorem MemSys.wf_putBytes {m : MemSys} (a : Nat) (l : List Byte) (h : m.wf = true) : (m.putBytes a l).wf = true := by
  induction l generalizing m a with
  | nil => exact h
  | cons b t ih => exact ih (a + 1) (MemSys.wf_putByte a b h)

theorem MemSys.byte_putBytes_out (m : MemSys) (a x : Nat) (l : List Byte) (h : x < a ∨ a + l.length ≤ x) : (m.putBytes a l).byte x = m.byte x := by
  induction l generalizing m a with
  | nil => rfl
  | cons b t ih =>
    rw [List.length_cons] at h
    rw [MemSys.putBytes, ih _ _ (by omega), MemSys.byte_putByte, if_neg (by omega)]

theorem MemSys.byte_putBytes_in (m : MemSys) (a i : Nat) (l : List Byte) (h : i < l.length) : (m.putBytes a l).byte (a + i) = l[i]? := by
  induction l generalizing m a i with
  | nil => simp at h
  | cons b t ih =>
    rw [MemSys.putBytes]
    cases i with
    | zero => rw [MemSys.byte_putBytes_out _ _ _ _ (by omega), MemSys.byte_putByte]; simp
    | succ n =>
      have hn : n < t.length := by simpa using h
      rw [show a + (n + 1) = a + 1 + n by omega, ih _ _ _ hn]; simp

/-! ## Ranges -/

theorem MemSys.absent_fill_out (m : MemSys) {lo hi pat x : Nat} (h : x < lo ∨ hi < x) : (m.fill lo hi pat).absent x = m.absent x := by
  unfold MemSys.absent MemSys.fill
  simp only [fillByte]
  rw [if_neg (c := lo ≤ x ∧ x ≤ hi) (by omega)]

theorem MemSys.wf_fill {m : MemSys} (lo hi pat : Nat) (h : m.wf = true) : (m.fill lo hi pat).wf = true := by
  rw [MemSys.wf_iff] at h ⊢
  refine ⟨rising_filter _ h.1, fun c hc => ?_⟩
  have hm := List.mem_filter.mp hc
  have ho : c.1 < lo ∨ hi < c.1 := by
    have := hm.2
    simp only [Bool.not_eq_true', Bool.and_eq_false_iff, decide_eq_false_iff_not] at this
    omega
  rw [MemSys.absent_fill_out m ho]
  exact h.2 c hm.1

/-- A filled range: outside it every byte reads as before. -/
theorem MemSys.byte_fill_out (m : MemSys) {lo hi pat x : Nat} (h : x < lo ∨ hi < x) : (m.fill lo hi pat).byte x = m.byte x := by
  have hp : (!(decide (lo ≤ x) && decide (x ≤ hi))) = true := by
    simp only [Bool.not_eq_true', Bool.and_eq_false_iff, decide_eq_false_iff_not]; omega
  have hc : cellGet (m.fill lo hi pat).cells x = cellGet m.cells x := by
    unfold MemSys.fill
    rw [cellGet_filter m.cells fun k => !(decide (lo ≤ k) && decide (k ≤ hi)), if_pos hp]
  unfold MemSys.byte
  rw [hc, MemSys.absent_fill_out m h]

/-- A byte of a filled range outside the MRAM reads as the pattern's byte. -/
theorem MemSys.byte_fill_in (m : MemSys) {lo hi pat x : Nat} (h1 : lo ≤ x) (h2 : x ≤ hi) (hm : x < 0x20000000 ∨ 0x203FFFFF < x) :
    (m.fill lo hi pat).byte x = some (BitVec.ofNat 8 (pat / 2 ^ (8 * (x % 8)))) := by
  have hp : ¬ (!(decide (lo ≤ x) && decide (x ≤ hi))) = true := by simp [h1, h2]
  have hc : cellGet (m.fill lo hi pat).cells x = none := by
    unfold MemSys.fill
    rw [cellGet_filter m.cells fun k => !(decide (lo ≤ k) && decide (k ≤ hi)), if_neg hp]
  have ha : (m.fill lo hi pat).absent x = some (BitVec.ofNat 8 (pat / 2 ^ (8 * (x % 8)))) := by
    unfold MemSys.absent MemSys.fill
    simp only [fillByte]
    rw [if_neg (by omega), if_pos (And.intro h1 h2)]
  unfold MemSys.byte
  rw [hc, ha]

theorem fillByte_drop (l : List MemFill) {lo hi x : Nat} (h : x < lo ∨ hi < x) :
    fillByte (l.filter fun f => !(decide (lo ≤ f.lo) && decide (f.hi ≤ hi))) x = fillByte l x := by
  induction l with
  | nil => rfl
  | cons f t ih =>
    cases hf : (!(decide (lo ≤ f.lo) && decide (f.hi ≤ hi)))
    · rw [List.filter_cons_of_neg (by simp [hf]), ih, fillByte]
      have : lo ≤ f.lo ∧ f.hi ≤ hi := by simpa using hf
      rw [if_neg (c := f.lo ≤ x ∧ x ≤ f.hi) (by omega)]
    · rw [List.filter_cons_of_pos (by exact hf), fillByte, fillByte, ih]

theorem MemSys.absent_poison_out (m : MemSys) {lo hi x : Nat} (h : x < lo ∨ hi < x) : (m.poison lo hi).absent x = m.absent x := by
  unfold MemSys.absent MemSys.poison
  simp only [fillByte_drop m.fills h]

theorem MemSys.wf_poison {m : MemSys} (lo hi : Nat) (h : m.wf = true) : (m.poison lo hi).wf = true := by
  rw [MemSys.wf_iff] at h ⊢
  refine ⟨rising_filter _ h.1, fun c hc => ?_⟩
  have hm := List.mem_filter.mp hc
  have ho : c.1 < lo ∨ hi < c.1 := by
    have := hm.2
    simp only [Bool.not_eq_true', Bool.and_eq_false_iff, decide_eq_false_iff_not] at this
    omega
  rw [MemSys.absent_poison_out m ho]
  exact h.2 c hm.1

/-- Poison takes no byte outside its region away. -/
theorem MemSys.byte_poison_out (m : MemSys) {lo hi x : Nat} (h : x < lo ∨ hi < x) : (m.poison lo hi).byte x = m.byte x := by
  have hp : (!(decide (lo ≤ x) && decide (x ≤ hi))) = true := by
    simp only [Bool.not_eq_true', Bool.and_eq_false_iff, decide_eq_false_iff_not]; omega
  have hc : cellGet (m.poison lo hi).cells x = cellGet m.cells x := by
    unfold MemSys.poison
    rw [cellGet_filter m.cells fun k => !(decide (lo ≤ k) && decide (k ≤ hi)), if_pos hp]
  unfold MemSys.byte
  rw [hc, MemSys.absent_poison_out m h]

/-- A change of the faults or of the initialisation of the safety SRAM keeps the form. -/
theorem MemSys.wf_of_cells {m n : MemSys} (hc : n.cells = m.cells) (hf : n.fills = m.fills) (h : m.wf = true) : n.wf = true := by
  rw [MemSys.wf_iff] at h ⊢
  rw [hc]
  exact ⟨h.1, fun c hm => by
    have e : n.absent c.1 = m.absent c.1 := by unfold MemSys.absent; rw [hf]
    rw [e]; exact h.2 c hm⟩

/-- What a whole reset leaves of the memories (R341): Bear's cells alone, in the canonical form. -/
theorem MemSys.wf_bear {m : MemSys} (h : m.wf = true) :
    ({ cells := m.cells.filter fun (c : Host.Cell) => decide (0x20000000 ≤ c.1) && decide (c.1 < 0x20400000) } : MemSys).wf = true := by
  rw [MemSys.wf_iff] at h ⊢
  refine ⟨rising_filter _ h.1, fun c hc => ?_⟩
  have hm := List.mem_filter.mp hc
  have hr : 0x20000000 ≤ c.1 ∧ c.1 ≤ 0x203FFFFF := by
    have h2 := hm.2
    simp only [Bool.and_eq_true, decide_eq_true_eq] at h2
    omega
  have h0 := h.2 c hm.1
  unfold MemSys.absent at h0 ⊢
  rw [if_pos hr] at h0 ⊢
  exact h0

end Sys2Proof.Machine
end

