-- ==== Sys2Proof/WellFormed.lean ====
section
/-! DEFINITION. Well-formed commands: every operand within the range of the thing it stands for. -/

namespace Sys2Proof

/-- A readback: mV and mA of 16 bits. -/
def OutReading.wf (r : OutReading) : Bool := decide (r.hi < 65536 ∧ r.lo < 65536 ∧ r.ih < 65536 ∧ r.il < 65536)

/-- The readings of a sample point: at most one per pad, each of 16 bits, and of the 16 slots as many as completed. -/
def SampleIn.wf (i : SampleIn) : Bool :=
  decide (i.outs.length ≤ 4 ∧ i.sto.length ≤ 2 ∧ i.pads.length ≤ 36 ∧ i.vfield.length ≤ 2 ∧ i.vsafe < 65536 ∧ i.vin < 65536 ∧ i.probe < 65536 ∧
      i.period < 65536 ∧ i.slotsDone ≤ 16) &&
    (i.outs.all OutReading.wf && (i.sto ++ i.pads).all fun x => decide (x.1 < 65536 ∧ x.2 < 65536))

/-- The readings of a slow tick: two bridges of at most 100 conversions, three codes of 14 bits for each door. -/
def SlowIn.wf (i : SlowIn) : Bool :=
  decide (i.vin < 65536 ∧ i.vsafe < 65536 ∧ i.hold < 65536 ∧ i.lc.length ≤ 2 ∧ i.zero.length ≤ 2) &&
    i.lc.all (fun l => decide (l.length ≤ 100) && l.all fun x => decide (x.exc < 65536 ∧ x.ratio.natAbs < 2 ^ 31)) &&
    i.zero.all fun l => decide (l.length ≤ 3) && l.all fun x => decide (x < 16384)

/-- A frame: words of at most 64 bits, a CRC of 6 bits (R55), an end within two ticks. -/
def AbsFrame.wf (f : AbsFrame) : Bool := decide (f.data < 2 ^ 64 ∧ f.data2 < 2 ^ 64 ∧ f.crc < 64 ∧ f.endCyc < 100000)

/-- The codes of a carrier period have 14 bits (R137). -/
def CarrierAdc.wf (x : CarrierAdc) : Bool :=
  decide (x.iu < 16384 ∧ x.iv < 16384 ∧ x.iw < 16384 ∧ x.vu < 16384 ∧ x.vv < 16384 ∧ x.vw < 16384 ∧ x.vdc < 16384)

/-- The command's operands lie in their ranges. (DESIGN CHOICE, log 32) -/
def Instr.wf (i : Instr) : Bool :=
  match i with
  | .samplePoint inp => SampleIn.wf inp
  | .phaseMiss _ => true
  | .ringCycleStart => true
  | .slowTick inp => SlowIn.wf inp
  | .alarm _ => true
  | .readNowLo _ off => decide (off < 50000)
  | .registerWrite _ addr _ => decide (addr < 2 ^ 64)
  | .wrongWidthAccess _ addr width => decide (addr < 2 ^ 64 ∧ 1 ≤ width ∧ width ≤ 64)
  | .accessOutsideMap _ addr => decide (addr < 2 ^ 64)
  | .accessOutsideRights _ addr => decide (addr < 2 ^ 64)
  | .nandLowPower => true
  | .lockSet _ _ => true
  | .cntEdge _ _ _ ed => decide (ed.off < 50000)
  | .zEdge _ ed => decide (ed.off < 50000)
  | .lineFault _ mask => decide (mask ≠ 0)
  | .stillTimeout _ => true
  | .absFrameReceived _ fr => AbsFrame.wf fr
  | .absFrameTimeout _ => true
  | .abslostEntered => true
  | .abslostRecovery => true
  | .inclostEntered => true
  | .inclostCleared => true
  | .fusionInvalid => true
  | .hallSectorChange _ _ ed => decide (ed.off < 50000)
  | .emuOutputEdge off => decide (off < 50000)
  | .latchCapture src _ ed => decide ((src.val < 52 ∨ 64 ≤ src.val) ∧ ed.off < 50000)
  | .latchReport _ => true
  | .latchSoftwareTrigger _ _ off => decide (off < 50000)
  | .learningStart _ => true
  | .learningAbort _ => true
  | .learningLegEnd => true
  | .mapAccept _ _ => true
  | .pgenGo _ _ _ _ _ => true
  | .pgenStop _ _ => true
  | .pgenResume _ _ => true
  | .pgenStart _ _ => true
  | .pgenCancel _ _ => true
  | .pgenMode _ _ _ => true
  | .pgenUnknownOp _ op _ => decide (op = 0 ∨ 6 < op.val)
  | .tripStart => true
  | .startTimeout => true
  | .tripArrival => true
  | .stopComplete => true
  | .relevelStart => true
  | .driveStatusTimeout => true
  | .driveReferenceRelease => true
  | .overrunStopRequest _ => true
  | .followingErrorWarn _ => true
  | .followingErrorStop _ => true
  | .slotCfgWrite _ _ _ => true
  | .bankselWrite _ _ => true
  | .bankSwap _ => true
  | .carrierPeriodStart _ adc => CarrierAdc.wf adc
  | .bridgeFault _ => true
  | .doorFaultClear _ _ _ _ => true
  | .doorAlign _ _ => true
  | .alignStepEnd _ => true
  | .doorOpen _ _ _ => true
  | .doorClose _ _ _ => true
  | .doorMoveto _ _ _ _ => true
  | .doorPause _ _ _ => true
  | .doorResume _ _ _ => true
  | .doorNudge _ _ _ => true
  | .doorRelease _ _ _ => true
  | .doorLearn _ _ _ => true
  | .doorUnknownOp _ _ op _ => decide (op = 0 ∨ 8 < op.val)
  | .doorArrival _ => true
  | .holdingReduction _ => true
  | .obstructionTrip _ cause => decide (1 ≤ cause.val ∧ cause.val ≤ 6 ∧ cause.val ≠ 5)
  | .reversalComplete _ => true
  | .lightCurtainActive _ => true
  | .doorZoneWrite _ _ _ => true
  | .doorPermitWrite _ _ _ => true
  | .doorLearnStepEnd _ => true
  | .ringFrameReceived _ bytes endCyc => decide (bytes.length ≤ 2048 ∧ endCyc < 800000)
  | .ringReceiveWindowEnd => true
  | .nodeLost a => decide (1 ≤ a ∧ a ≤ 192)
  | .nodeRegained a => decide (1 ≤ a ∧ a ≤ 192)
  | .nodeCountFault => true
  | .ringSideLost _ => true
  | .ringSideRegained _ => true
  | .dualModeLeave => true
  | .payloadEntryDropped a => decide (1 ≤ a ∧ a ≤ 192)
  | .enumerate _ => true
  | .assignAddress _ _ => true
  | .enumerationEnd => true
  | .ringEnable => true
  | .syncEnd => true
  | .ringDisable => true
  | .badgerRingCycleClose => true
  | .bidCarCall _ _ _ => true
  | .bidHallCall _ _ _ => true
  | .bidDestinationCall _ _ _ => true
  | .bidServed _ _ _ => true
  | .bidClearCarCalls _ _ _ => true
  | .bidReleaseAll _ _ => true
  | .bidUnknownOp _ op _ => decide (op = 0 ∨ 6 < op.val)
  | .announce content => decide (content.length ≤ 22)
  | .bid content => decide (content.length ≤ 22)
  | .award content => decide (content.length ≤ 22)
  | .heartbeat content => decide (content.length ≤ 22)
  | .groupRelease content => decide (content.length ≤ 22)
  | .groupServed content => decide (content.length ≤ 22)
  | .accept content => decide (content.length ≤ 22)
  | .backup content => decide (content.length ≤ 22)
  | .backupReq content => decide (content.length ≤ 22)
  | .bidEvaluation => true
  | .evaluationEnd us => decide (us < 2 ^ 32)
  | .auctionDeadline id => decide (id < 65536)
  | .reannounceTimer id => decide (id < 65536)
  | .reauctionTimer id => decide (id < 65536)
  | .acceptTimeout id => decide (id < 65536)
  | .heartbeatLoss car => decide (1 ≤ car ∧ car ≤ 16)
  | .aCommit _ _ => true
  | .crossComparisonTrip => true
  | .verdictMissing => true
  | .tickPeriodFault counts => decide (counts < 65536)
  | .badgerReferenced => true
  | .badgerResync => true
  | .martenDegraded => true
  | .standstill _ => true
  | .pairDiscrepancy _ _ => true
  | .doorPermitRemoved _ => true
  | .doorPermitReturn _ => true
  | .parameterConfirm _ _ => true
  | .parameterDiscard _ => true
  | .bparamWrite _ _ => true
  | .bmapWrite _ _ => true
  | .apermWrite _ _ => true
  | .seqContact => true
  | .seqRelease => true
  | .seqRun => true
  | .seqApply => true
  | .seqDisable => true
  | .seqOff => true
  | .economyStart _ => true
  | .outputTestStart rd => OutReading.wf rd
  | .outputTestEnd off rd others => decide (off < 50000) && OutReading.wf rd && decide (others.length ≤ 4)
  | .testOverdue _ => true
  | .testAgeLimit _ => true
  | .outputOvercurrent _ => true
  | .releaseMonitorFault _ => true
  | .torqueTestDue => true
  | .torqueTestStart => true
  | .torqueTestStepEnd => true
  | .torqueTestOverdue => true
  | .onSiteResetEdge _ => true
  | .stuckReset _ => true
  | .resetPadsDisagree _ => true
  | .resetPadsRearm => true
  | .inputLevelAccepted _ _ ed => decide (ed.off < 50000)
  | .testPulseWindow _ => true
  | .testPulseJudge _ _ => true
  | .chainTapOrder => true
  | .outsetWrite _ _ => true
  | .outclrWrite _ _ => true
  | .thermalShutdown _ ma off => decide (ma < 65536 ∧ off < 50000)
  | .thermalRestart _ => true
  | .openLoad _ ma => decide (ma < 65536)
  | .clearFault _ _ off => decide (off < 50000)
  | .fieldSupplyStateChange _ _ mv => decide (mv < 65536)
  | .channelRemap _ out n _ => decide (out = false ∨ n.val < 32)
  | .nmtStartRemoteNode _ node => decide (node < 128)
  | .nmtStopRemoteNode _ node => decide (node < 128)
  | .nmtEnterPreOperational _ node => decide (node < 128)
  | .nmtResetCommunication _ node => decide (node < 128)
  | .nmtResetNode _ node => decide (node < 128)
  | .sdoDownload _ node idx sub bytes => decide (node < 128 ∧ idx < 65536 ∧ sub < 256 ∧ bytes.length ≤ 65536)
  | .sdoUpload _ node idx sub => decide (node < 128 ∧ idx < 65536 ∧ sub < 256)
  | .rpdo _ bytes => decide (bytes.length ≤ 64)
  | .tpdoSend _ => true
  | .srdo1Send => true
  | .srdo2Received bytes inv => decide (bytes.length ≤ 64 ∧ inv.length ≤ 64)
  | .srdo2Invalid _ => true
  | .busOff _ tec => decide (tec < 512)
  | .busOffRecovery _ => true
  | .errorPassive _ tec rec => decide (tec < 512 ∧ rec < 256)
  | .canopenHeartbeat _ => true
  | .emergencyMessage _ => true
  | .dictionaryWrite _ idx sub bytes => decide (idx < 65536 ∧ sub < 256 ∧ bytes.length ≤ 65536)
  | .applyFence _ _ => true
  | .fenceApplied _ => true
  | .store _ _ => true
  | .restoreDefaults _ _ => true
  | .commitPortSettings _ _ => true
  | .sessionOpen _ => true
  | .sessionClose _ => true
  | .fspReadEntry _ _ idx sub => decide (idx < 65536 ∧ sub < 256)
  | .fspWriteEntry _ _ idx sub bytes => decide (idx < 65536 ∧ sub < 256 ∧ bytes.length ≤ 65536)
  | .fspBatch _ _ bytes => decide (bytes.length ≤ 65536)
  | .fspReadEvents _ _ first cnt => decide (first < 2 ^ 32 ∧ cnt < 65536)
  | .fspReadFile _ _ file offset => decide (file < 65536 ∧ offset < 2 ^ 32)
  | .localRequest _ _ => true
  | .memoryRead _ addr len => decide (addr < 2 ^ 64 ∧ 1 ≤ len ∧ len ≤ 64)
  | .memoryWrite _ addr bytes => decide (addr < 2 ^ 64 ∧ 1 ≤ bytes.length ∧ bytes.length ≤ 64)
  | .flipArm _ _ => true
  | .antScrub addr => decide (addr < 2 ^ 64)
  | .weevilLine => true
  | .weevilVisit => true
  | .fuseProgram _ _ => true
  | .fuseProgramDone => true
  | .pprRequest _ _ => true
  | .flashHealthRead life _ => decide (life < 65536)
  | .blockFenceWrite _ _ _ => true
  | .dmaStart _ _ => true
  | .dmaAbort _ _ => true
  | .dmaDescriptorDone _ => true
  | .mailboxSend _ _ _ => true
  | .mailboxFencePost _ => true
  | .mailboxTake _ _ => true
  | .crossWait a b => decide (a ≠ b)
  | .lockRead _ _ => true
  | .lockRelease _ _ _ => true
  | .parkRequest _ _ => true
  | .parked => true
  | .foxWake => true
  | .parkStart _ _ => true
  | .eventRecordWrite => true
  | .archiveBlockWrite => true
  | .ringFillDone _ => true
  | .freeze _ _ => true
  | .windowCopyStart => true
  | .windowStored => true
  | .cursorWrite _ _ _ => true
  | .fatalError m _ dump => decide (1 ≤ m.val ∧ m.val ≤ 5 ∧ dump.length < 2 ^ 28)
  | .operatingHour => true
  | .lifeRecompute => true
  | .imageOpen _ _ kind => decide (kind < 256)
  | .imageData _ _ offset bytes => decide (offset < 2 ^ 32 ∧ bytes.length ≤ 65536)
  | .imageClose _ _ => true
  | .boot => true
  | .handoverLoad _ => true
  | .candidateReady off => decide (off < 50000)
  | .handoverRequest _ => true
  | .handoverDiscard _ => true
  | .handoverStart => true
  | .handoverSnapshot => true
  | .handoverAuthority => true
  | .confirm _ _ => true
  | .handoverRevert _ => true
  | .keyInput _ _ => true
  | .sealInput _ => true
  | .lidButtonPress => true
  | .lidButtonStuck => true
  | .safeokWrite _ _ => true
  | .presenceTimeout => true
  | .debugUnlock _ _ => true
  | .backupChunkSend => true
  | .adopt _ inst car => decide (inst < 2 ^ 32 ∧ car < 2 ^ 32)
  | .backupApplied => true
  | .verificationStart _ => true
  | .verificationEnd => true
  | .powerOnResetRelease => true
  | .powerFail => true
  | .powerFailReset => true
  | .vinLow mv => decide (mv < 65536)
  | .vsafeCrossing mv => decide (mv < 65536)
  | .nmrst => true
  | .warmReset _ _ => true
  | .moduleReset _ _ => true
  | .safeDomainReset _ _ => true
  | .appDomainReset _ _ => true
  | .coreDomainReset _ _ => true
  | .partnerResetEnd => true
  | .loadCalibrateZero _ => true
  | .loadCalibrateSpan _ => true
  | .keyChannelsDisagree => true
  | .keyChannelsAgree => true
  | .lidButtonRearm => true
  | .lineFaultCleared _ mask => decide (mask ≠ 0)
  | .errorActiveReturn _ tec rec => decide (tec < 512 ∧ rec < 256)
  | .ethernetLinkChange _ _ => true
  | .holdCharged ms mv => decide (ms < 65536 ∧ mv < 65536)

/-- The instant in the tick that a command carries, in fabric cycles after the tick start (R29). -/
def Instr.off? (i : Instr) : Option Nat :=
  match i with
  | .samplePoint _ => none
  | .phaseMiss _ => none
  | .ringCycleStart => none
  | .slowTick _ => none
  | .alarm _ => none
  | .readNowLo _ off => some off
  | .registerWrite _ _ _ => none
  | .wrongWidthAccess _ _ _ => none
  | .accessOutsideMap _ _ => none
  | .accessOutsideRights _ _ => none
  | .nandLowPower => none
  | .lockSet _ _ => none
  | .cntEdge _ _ _ ed => some ed.off
  | .zEdge _ ed => some ed.off
  | .lineFault _ _ => none
  | .stillTimeout _ => none
  | .absFrameReceived _ _ => none
  | .absFrameTimeout _ => none
  | .abslostEntered => none
  | .abslostRecovery => none
  | .inclostEntered => none
  | .inclostCleared => none
  | .fusionInvalid => none
  | .hallSectorChange _ _ ed => some ed.off
  | .emuOutputEdge off => some off
  | .latchCapture _ _ ed => some ed.off
  | .latchReport _ => none
  | .latchSoftwareTrigger _ _ off => some off
  | .learningStart _ => none
  | .learningAbort _ => none
  | .learningLegEnd => none
  | .mapAccept _ _ => none
  | .pgenGo _ _ _ _ _ => none
  | .pgenStop _ _ => none
  | .pgenResume _ _ => none
  | .pgenStart _ _ => none
  | .pgenCancel _ _ => none
  | .pgenMode _ _ _ => none
  | .pgenUnknownOp _ _ _ => none
  | .tripStart => none
  | .startTimeout => none
  | .tripArrival => none
  | .stopComplete => none
  | .relevelStart => none
  | .driveStatusTimeout => none
  | .driveReferenceRelease => none
  | .overrunStopRequest _ => none
  | .followingErrorWarn _ => none
  | .followingErrorStop _ => none
  | .slotCfgWrite _ _ _ => none
  | .bankselWrite _ _ => none
  | .bankSwap _ => none
  | .carrierPeriodStart _ _ => none
  | .bridgeFault _ => none
  | .doorFaultClear _ _ _ _ => none
  | .doorAlign _ _ => none
  | .alignStepEnd _ => none
  | .doorOpen _ _ _ => none
  | .doorClose _ _ _ => none
  | .doorMoveto _ _ _ _ => none
  | .doorPause _ _ _ => none
  | .doorResume _ _ _ => none
  | .doorNudge _ _ _ => none
  | .doorRelease _ _ _ => none
  | .doorLearn _ _ _ => none
  | .doorUnknownOp _ _ _ _ => none
  | .doorArrival _ => none
  | .holdingReduction _ => none
  | .obstructionTrip _ _ => none
  | .reversalComplete _ => none
  | .lightCurtainActive _ => none
  | .doorZoneWrite _ _ _ => none
  | .doorPermitWrite _ _ _ => none
  | .doorLearnStepEnd _ => none
  | .ringFrameReceived _ _ _ => none
  | .ringReceiveWindowEnd => none
  | .nodeLost _ => none
  | .nodeRegained _ => none
  | .nodeCountFault => none
  | .ringSideLost _ => none
  | .ringSideRegained _ => none
  | .dualModeLeave => none
  | .payloadEntryDropped _ => none
  | .enumerate _ => none
  | .assignAddress _ _ => none
  | .enumerationEnd => none
  | .ringEnable => none
  | .syncEnd => none
  | .ringDisable => none
  | .badgerRingCycleClose => none
  | .bidCarCall _ _ _ => none
  | .bidHallCall _ _ _ => none
  | .bidDestinationCall _ _ _ => none
  | .bidServed _ _ _ => none
  | .bidClearCarCalls _ _ _ => none
  | .bidReleaseAll _ _ => none
  | .bidUnknownOp _ _ _ => none
  | .announce _ => none
  | .bid _ => none
  | .award _ => none
  | .heartbeat _ => none
  | .groupRelease _ => none
  | .groupServed _ => none
  | .accept _ => none
  | .backup _ => none
  | .backupReq _ => none
  | .bidEvaluation => none
  | .evaluationEnd _ => none
  | .auctionDeadline _ => none
  | .reannounceTimer _ => none
  | .reauctionTimer _ => none
  | .acceptTimeout _ => none
  | .heartbeatLoss _ => none
  | .aCommit _ _ => none
  | .crossComparisonTrip => none
  | .verdictMissing => none
  | .tickPeriodFault _ => none
  | .badgerReferenced => none
  | .badgerResync => none
  | .martenDegraded => none
  | .standstill _ => none
  | .pairDiscrepancy _ _ => none
  | .doorPermitRemoved _ => none
  | .doorPermitReturn _ => none
  | .parameterConfirm _ _ => none
  | .parameterDiscard _ => none
  | .bparamWrite _ _ => none
  | .bmapWrite _ _ => none
  | .apermWrite _ _ => none
  | .seqContact => none
  | .seqRelease => none
  | .seqRun => none
  | .seqApply => none
  | .seqDisable => none
  | .seqOff => none
  | .economyStart _ => none
  | .outputTestStart _ => none
  | .outputTestEnd off _ _ => some off
  | .testOverdue _ => none
  | .testAgeLimit _ => none
  | .outputOvercurrent _ => none
  | .releaseMonitorFault _ => none
  | .torqueTestDue => none
  | .torqueTestStart => none
  | .torqueTestStepEnd => none
  | .torqueTestOverdue => none
  | .onSiteResetEdge _ => none
  | .stuckReset _ => none
  | .resetPadsDisagree _ => none
  | .resetPadsRearm => none
  | .inputLevelAccepted _ _ ed => some ed.off
  | .testPulseWindow _ => none
  | .testPulseJudge _ _ => none
  | .chainTapOrder => none
  | .outsetWrite _ _ => none
  | .outclrWrite _ _ => none
  | .thermalShutdown _ _ off => some off
  | .thermalRestart _ => none
  | .openLoad _ _ => none
  | .clearFault _ _ off => some off
  | .fieldSupplyStateChange _ _ _ => none
  | .channelRemap _ _ _ _ => none
  | .nmtStartRemoteNode _ _ => none
  | .nmtStopRemoteNode _ _ => none
  | .nmtEnterPreOperational _ _ => none
  | .nmtResetCommunication _ _ => none
  | .nmtResetNode _ _ => none
  | .sdoDownload _ _ _ _ _ => none
  | .sdoUpload _ _ _ _ => none
  | .rpdo _ _ => none
  | .tpdoSend _ => none
  | .srdo1Send => none
  | .srdo2Received _ _ => none
  | .srdo2Invalid _ => none
  | .busOff _ _ => none
  | .busOffRecovery _ => none
  | .errorPassive _ _ _ => none
  | .canopenHeartbeat _ => none
  | .emergencyMessage _ => none
  | .dictionaryWrite _ _ _ _ => none
  | .applyFence _ _ => none
  | .fenceApplied _ => none
  | .store _ _ => none
  | .restoreDefaults _ _ => none
  | .commitPortSettings _ _ => none
  | .sessionOpen _ => none
  | .sessionClose _ => none
  | .fspReadEntry _ _ _ _ => none
  | .fspWriteEntry _ _ _ _ _ => none
  | .fspBatch _ _ _ => none
  | .fspReadEvents _ _ _ _ => none
  | .fspReadFile _ _ _ _ => none
  | .localRequest _ _ => none
  | .memoryRead _ _ _ => none
  | .memoryWrite _ _ _ => none
  | .flipArm _ _ => none
  | .antScrub _ => none
  | .weevilLine => none
  | .weevilVisit => none
  | .fuseProgram _ _ => none
  | .fuseProgramDone => none
  | .pprRequest _ _ => none
  | .flashHealthRead _ _ => none
  | .blockFenceWrite _ _ _ => none
  | .dmaStart _ _ => none
  | .dmaAbort _ _ => none
  | .dmaDescriptorDone _ => none
  | .mailboxSend _ _ _ => none
  | .mailboxFencePost _ => none
  | .mailboxTake _ _ => none
  | .crossWait _ _ => none
  | .lockRead _ _ => none
  | .lockRelease _ _ _ => none
  | .parkRequest _ _ => none
  | .parked => none
  | .foxWake => none
  | .parkStart _ _ => none
  | .eventRecordWrite => none
  | .archiveBlockWrite => none
  | .ringFillDone _ => none
  | .freeze _ _ => none
  | .windowCopyStart => none
  | .windowStored => none
  | .cursorWrite _ _ _ => none
  | .fatalError _ _ _ => none
  | .operatingHour => none
  | .lifeRecompute => none
  | .imageOpen _ _ _ => none
  | .imageData _ _ _ _ => none
  | .imageClose _ _ => none
  | .boot => none
  | .handoverLoad _ => none
  | .candidateReady off => some off
  | .handoverRequest _ => none
  | .handoverDiscard _ => none
  | .handoverStart => none
  | .handoverSnapshot => none
  | .handoverAuthority => none
  | .confirm _ _ => none
  | .handoverRevert _ => none
  | .keyInput _ _ => none
  | .sealInput _ => none
  | .lidButtonPress => none
  | .lidButtonStuck => none
  | .safeokWrite _ _ => none
  | .presenceTimeout => none
  | .debugUnlock _ _ => none
  | .backupChunkSend => none
  | .adopt _ _ _ => none
  | .backupApplied => none
  | .verificationStart _ => none
  | .verificationEnd => none
  | .powerOnResetRelease => none
  | .powerFail => none
  | .powerFailReset => none
  | .vinLow _ => none
  | .vsafeCrossing _ => none
  | .nmrst => none
  | .warmReset _ _ => none
  | .moduleReset _ _ => none
  | .safeDomainReset _ _ => none
  | .appDomainReset _ _ => none
  | .coreDomainReset _ _ => none
  | .partnerResetEnd => none
  | .loadCalibrateZero _ => none
  | .loadCalibrateSpan _ => none
  | .keyChannelsDisagree => none
  | .keyChannelsAgree => none
  | .lidButtonRearm => none
  | .lineFaultCleared _ _ => none
  | .errorActiveReturn _ _ _ => none
  | .ethernetLinkChange _ _ => none
  | .holdCharged _ _ => none

end Sys2Proof
end

