-- ==== Sys2Proof/Laws/PerInstr.lean ====
section
/-! SUPPORT. A statement about every command as syntax: the instant that a well-formed command carries lies within its tick. -/

namespace Sys2Proof.Laws.Wf

/-- A well-formed command's cycle offset is one of the 50,000 cycles of a tick (R29). -/
def Statement (i : Instr) : Prop := i.wf = true → ∀ o, i.off? = some o → o < 50000

theorem samplePoint (inp : SampleIn) : Statement (Instr.samplePoint inp) := fun _ _ ho => nomatch ho

theorem phaseMiss (p : Fin 9) : Statement (Instr.phaseMiss p) := fun _ _ ho => nomatch ho

theorem ringCycleStart : Statement (Instr.ringCycleStart) := fun _ _ ho => nomatch ho

theorem slowTick (inp : SlowIn) : Statement (Instr.slowTick inp) := fun _ _ ho => nomatch ho

theorem alarm (n : Fin 4) : Statement (Instr.alarm n) := fun _ _ ho => nomatch ho

theorem readNowLo (m : Master) (off : Nat) : Statement (Instr.readNowLo m off) := fun h _ ho => Option.some.inj ho ▸ (of_decide_eq_true h)

theorem registerWrite (m : Master) (addr : Nat) (val : Word) : Statement (Instr.registerWrite m addr val) := fun _ _ ho => nomatch ho

theorem wrongWidthAccess (m : Master) (addr : Nat) (width : Nat) : Statement (Instr.wrongWidthAccess m addr width) := fun _ _ ho => nomatch ho

theorem accessOutsideMap (m : Master) (addr : Nat) : Statement (Instr.accessOutsideMap m addr) := fun _ _ ho => nomatch ho

theorem accessOutsideRights (m : Master) (addr : Nat) : Statement (Instr.accessOutsideRights m addr) := fun _ _ ho => nomatch ho

theorem nandLowPower : Statement (Instr.nandLowPower) := fun _ _ ho => nomatch ho

theorem lockSet (m : Master) (blk : LockBlock) : Statement (Instr.lockSet m blk) := fun _ _ ho => nomatch ho

theorem cntEdge (n : Fin 4) (a : Bool) (b : Bool) (ed : EdgeAt) : Statement (Instr.cntEdge n a b ed) := fun h _ ho => Option.some.inj ho ▸ (of_decide_eq_true h)

theorem zEdge (n : Fin 4) (ed : EdgeAt) : Statement (Instr.zEdge n ed) := fun h _ ho => Option.some.inj ho ▸ (of_decide_eq_true h)

theorem lineFault (src : Fin 6) (mask : Fin 8) : Statement (Instr.lineFault src mask) := fun _ _ ho => nomatch ho

theorem stillTimeout (n : Fin 4) : Statement (Instr.stillTimeout n) := fun _ _ ho => nomatch ho

theorem absFrameReceived (n : Fin 2) (fr : AbsFrame) : Statement (Instr.absFrameReceived n fr) := fun _ _ ho => nomatch ho

theorem absFrameTimeout (n : Fin 2) : Statement (Instr.absFrameTimeout n) := fun _ _ ho => nomatch ho

theorem abslostEntered : Statement (Instr.abslostEntered) := fun _ _ ho => nomatch ho

theorem abslostRecovery : Statement (Instr.abslostRecovery) := fun _ _ ho => nomatch ho

theorem inclostEntered : Statement (Instr.inclostEntered) := fun _ _ ho => nomatch ho

theorem inclostCleared : Statement (Instr.inclostCleared) := fun _ _ ho => nomatch ho

theorem fusionInvalid : Statement (Instr.fusionInvalid) := fun _ _ ho => nomatch ho

theorem hallSectorChange (h : Fin 2) (uvw : Fin 8) (ed : EdgeAt) : Statement (Instr.hallSectorChange h uvw ed) := fun h _ ho => Option.some.inj ho ▸ (of_decide_eq_true h)

theorem emuOutputEdge (off : Nat) : Statement (Instr.emuOutputEdge off) := fun h _ ho => Option.some.inj ho ▸ (of_decide_eq_true h)

theorem latchCapture (src : Fin 86) (rising : Bool) (ed : EdgeAt) : Statement (Instr.latchCapture src rising ed) := fun h _ ho => Option.some.inj ho ▸ (of_decide_eq_true h).2

theorem latchReport (n : Fin 16) : Statement (Instr.latchReport n) := fun _ _ ho => nomatch ho

theorem latchSoftwareTrigger (m : Master) (n : Fin 16) (off : Nat) : Statement (Instr.latchSoftwareTrigger m n off) := fun h _ ho => Option.some.inj ho ▸ (of_decide_eq_true h)

theorem learningStart (c : Client) : Statement (Instr.learningStart c) := fun _ _ ho => nomatch ho

theorem learningAbort (c : Client) : Statement (Instr.learningAbort c) := fun _ _ ho => nomatch ho

theorem learningLegEnd : Statement (Instr.learningLegEnd) := fun _ _ ho => nomatch ho

theorem mapAccept (c : Client) (crc : Word) : Statement (Instr.mapAccept c crc) := fun _ _ ho => nomatch ho

theorem pgenGo (m : Master) (target : Word) (postgt : Bool) (earliest : Bool) (tag : Fin 256) : Statement (Instr.pgenGo m target postgt earliest tag) := fun _ _ ho => nomatch ho

theorem pgenStop (m : Master) (tag : Fin 256) : Statement (Instr.pgenStop m tag) := fun _ _ ho => nomatch ho

theorem pgenResume (m : Master) (tag : Fin 256) : Statement (Instr.pgenResume m tag) := fun _ _ ho => nomatch ho

theorem pgenStart (m : Master) (tag : Fin 256) : Statement (Instr.pgenStart m tag) := fun _ _ ho => nomatch ho

theorem pgenCancel (m : Master) (tag : Fin 256) : Statement (Instr.pgenCancel m tag) := fun _ _ ho => nomatch ho

theorem pgenMode (m : Master) (code : Word) (tag : Fin 256) : Statement (Instr.pgenMode m code tag) := fun _ _ ho => nomatch ho

theorem pgenUnknownOp (m : Master) (op : Fin 16) (tag : Fin 256) : Statement (Instr.pgenUnknownOp m op tag) := fun _ _ ho => nomatch ho

theorem tripStart : Statement (Instr.tripStart) := fun _ _ ho => nomatch ho

theorem startTimeout : Statement (Instr.startTimeout) := fun _ _ ho => nomatch ho

theorem tripArrival : Statement (Instr.tripArrival) := fun _ _ ho => nomatch ho

theorem stopComplete : Statement (Instr.stopComplete) := fun _ _ ho => nomatch ho

theorem relevelStart : Statement (Instr.relevelStart) := fun _ _ ho => nomatch ho

theorem driveStatusTimeout : Statement (Instr.driveStatusTimeout) := fun _ _ ho => nomatch ho

theorem driveReferenceRelease : Statement (Instr.driveReferenceRelease) := fun _ _ ho => nomatch ho

theorem overrunStopRequest (n : Fin 16) : Statement (Instr.overrunStopRequest n) := fun _ _ ho => nomatch ho

theorem followingErrorWarn (n : Fin 16) : Statement (Instr.followingErrorWarn n) := fun _ _ ho => nomatch ho

theorem followingErrorStop (n : Fin 16) : Statement (Instr.followingErrorStop n) := fun _ _ ho => nomatch ho

theorem slotCfgWrite (m : Master) (n : Fin 16) (val : Word) : Statement (Instr.slotCfgWrite m n val) := fun _ _ ho => nomatch ho

theorem bankselWrite (m : Master) (val : Word) : Statement (Instr.bankselWrite m val) := fun _ _ ho => nomatch ho

theorem bankSwap (n : Fin 16) : Statement (Instr.bankSwap n) := fun _ _ ho => nomatch ho

theorem carrierPeriodStart (d : Fin 2) (adc : CarrierAdc) : Statement (Instr.carrierPeriodStart d adc) := fun _ _ ho => nomatch ho

theorem bridgeFault (d : Fin 2) : Statement (Instr.bridgeFault d) := fun _ _ ho => nomatch ho

theorem doorFaultClear (m : Master) (d : Fin 2) (val : Word) (bflt : Bool) : Statement (Instr.doorFaultClear m d val bflt) := fun _ _ ho => nomatch ho

theorem doorAlign (m : Master) (d : Fin 2) : Statement (Instr.doorAlign m d) := fun _ _ ho => nomatch ho

theorem alignStepEnd (d : Fin 2) : Statement (Instr.alignStepEnd d) := fun _ _ ho => nomatch ho

theorem doorOpen (m : Master) (d : Fin 2) (tag : Fin 256) : Statement (Instr.doorOpen m d tag) := fun _ _ ho => nomatch ho

theorem doorClose (m : Master) (d : Fin 2) (tag : Fin 256) : Statement (Instr.doorClose m d tag) := fun _ _ ho => nomatch ho

theorem doorMoveto (m : Master) (d : Fin 2) (mtgt : Word) (tag : Fin 256) : Statement (Instr.doorMoveto m d mtgt tag) := fun _ _ ho => nomatch ho

theorem doorPause (m : Master) (d : Fin 2) (tag : Fin 256) : Statement (Instr.doorPause m d tag) := fun _ _ ho => nomatch ho

theorem doorResume (m : Master) (d : Fin 2) (tag : Fin 256) : Statement (Instr.doorResume m d tag) := fun _ _ ho => nomatch ho

theorem doorNudge (m : Master) (d : Fin 2) (tag : Fin 256) : Statement (Instr.doorNudge m d tag) := fun _ _ ho => nomatch ho

theorem doorRelease (m : Master) (d : Fin 2) (tag : Fin 256) : Statement (Instr.doorRelease m d tag) := fun _ _ ho => nomatch ho

theorem doorLearn (m : Master) (d : Fin 2) (tag : Fin 256) : Statement (Instr.doorLearn m d tag) := fun _ _ ho => nomatch ho

theorem doorUnknownOp (m : Master) (d : Fin 2) (op : Fin 16) (tag : Fin 256) : Statement (Instr.doorUnknownOp m d op tag) := fun _ _ ho => nomatch ho

theorem doorArrival (d : Fin 2) : Statement (Instr.doorArrival d) := fun _ _ ho => nomatch ho

theorem holdingReduction (d : Fin 2) : Statement (Instr.holdingReduction d) := fun _ _ ho => nomatch ho

theorem obstructionTrip (d : Fin 2) (cause : Fin 8) : Statement (Instr.obstructionTrip d cause) := fun _ _ ho => nomatch ho

theorem reversalComplete (d : Fin 2) : Statement (Instr.reversalComplete d) := fun _ _ ho => nomatch ho

theorem lightCurtainActive (d : Fin 2) : Statement (Instr.lightCurtainActive d) := fun _ _ ho => nomatch ho

theorem doorZoneWrite (m : Master) (d : Fin 2) (val : Word) : Statement (Instr.doorZoneWrite m d val) := fun _ _ ho => nomatch ho

theorem doorPermitWrite (m : Master) (d : Fin 2) (val : Word) : Statement (Instr.doorPermitWrite m d val) := fun _ _ ho => nomatch ho

theorem doorLearnStepEnd (d : Fin 2) : Statement (Instr.doorLearnStepEnd d) := fun _ _ ho => nomatch ho

theorem ringFrameReceived (port : Fin 2) (bytes : List (Option Byte)) (endCyc : Nat) : Statement (Instr.ringFrameReceived port bytes endCyc) := fun _ _ ho => nomatch ho

theorem ringReceiveWindowEnd : Statement (Instr.ringReceiveWindowEnd) := fun _ _ ho => nomatch ho

theorem nodeLost (a : Nat) : Statement (Instr.nodeLost a) := fun _ _ ho => nomatch ho

theorem nodeRegained (a : Nat) : Statement (Instr.nodeRegained a) := fun _ _ ho => nomatch ho

theorem nodeCountFault : Statement (Instr.nodeCountFault) := fun _ _ ho => nomatch ho

theorem ringSideLost (p : Fin 2) : Statement (Instr.ringSideLost p) := fun _ _ ho => nomatch ho

theorem ringSideRegained (p : Fin 2) : Statement (Instr.ringSideRegained p) := fun _ _ ho => nomatch ho

theorem dualModeLeave : Statement (Instr.dualModeLeave) := fun _ _ ho => nomatch ho

theorem payloadEntryDropped (a : Nat) : Statement (Instr.payloadEntryDropped a) := fun _ _ ho => nomatch ho

theorem enumerate (c : Client) : Statement (Instr.enumerate c) := fun _ _ ho => nomatch ho

theorem assignAddress (c : Client) (val : Word) : Statement (Instr.assignAddress c val) := fun _ _ ho => nomatch ho

theorem enumerationEnd : Statement (Instr.enumerationEnd) := fun _ _ ho => nomatch ho

theorem ringEnable : Statement (Instr.ringEnable) := fun _ _ ho => nomatch ho

theorem syncEnd : Statement (Instr.syncEnd) := fun _ _ ho => nomatch ho

theorem ringDisable : Statement (Instr.ringDisable) := fun _ _ ho => nomatch ho

theorem badgerRingCycleClose : Statement (Instr.badgerRingCycleClose) := fun _ _ ho => nomatch ho

theorem bidCarCall (m : Master) (arg : Word) (tag : Fin 256) : Statement (Instr.bidCarCall m arg tag) := fun _ _ ho => nomatch ho

theorem bidHallCall (m : Master) (arg : Word) (tag : Fin 256) : Statement (Instr.bidHallCall m arg tag) := fun _ _ ho => nomatch ho

theorem bidDestinationCall (m : Master) (arg : Word) (tag : Fin 256) : Statement (Instr.bidDestinationCall m arg tag) := fun _ _ ho => nomatch ho

theorem bidServed (m : Master) (arg : Word) (tag : Fin 256) : Statement (Instr.bidServed m arg tag) := fun _ _ ho => nomatch ho

theorem bidClearCarCalls (m : Master) (arg : Word) (tag : Fin 256) : Statement (Instr.bidClearCarCalls m arg tag) := fun _ _ ho => nomatch ho

theorem bidReleaseAll (m : Master) (tag : Fin 256) : Statement (Instr.bidReleaseAll m tag) := fun _ _ ho => nomatch ho

theorem bidUnknownOp (m : Master) (op : Fin 16) (tag : Fin 256) : Statement (Instr.bidUnknownOp m op tag) := fun _ _ ho => nomatch ho

theorem announce (content : List Byte) : Statement (Instr.announce content) := fun _ _ ho => nomatch ho

theorem bid (content : List Byte) : Statement (Instr.bid content) := fun _ _ ho => nomatch ho

theorem award (content : List Byte) : Statement (Instr.award content) := fun _ _ ho => nomatch ho

theorem heartbeat (content : List Byte) : Statement (Instr.heartbeat content) := fun _ _ ho => nomatch ho

theorem groupRelease (content : List Byte) : Statement (Instr.groupRelease content) := fun _ _ ho => nomatch ho

theorem groupServed (content : List Byte) : Statement (Instr.groupServed content) := fun _ _ ho => nomatch ho

theorem accept (content : List Byte) : Statement (Instr.accept content) := fun _ _ ho => nomatch ho

theorem backup (content : List Byte) : Statement (Instr.backup content) := fun _ _ ho => nomatch ho

theorem backupReq (content : List Byte) : Statement (Instr.backupReq content) := fun _ _ ho => nomatch ho

theorem bidEvaluation : Statement (Instr.bidEvaluation) := fun _ _ ho => nomatch ho

theorem evaluationEnd (us : Nat) : Statement (Instr.evaluationEnd us) := fun _ _ ho => nomatch ho

theorem auctionDeadline (id : Nat) : Statement (Instr.auctionDeadline id) := fun _ _ ho => nomatch ho

theorem reannounceTimer (id : Nat) : Statement (Instr.reannounceTimer id) := fun _ _ ho => nomatch ho

theorem reauctionTimer (id : Nat) : Statement (Instr.reauctionTimer id) := fun _ _ ho => nomatch ho

theorem acceptTimeout (id : Nat) : Statement (Instr.acceptTimeout id) := fun _ _ ho => nomatch ho

theorem heartbeatLoss (car : Nat) : Statement (Instr.heartbeatLoss car) := fun _ _ ho => nomatch ho

theorem aCommit (m : Master) (val : Word) : Statement (Instr.aCommit m val) := fun _ _ ho => nomatch ho

theorem crossComparisonTrip : Statement (Instr.crossComparisonTrip) := fun _ _ ho => nomatch ho

theorem verdictMissing : Statement (Instr.verdictMissing) := fun _ _ ho => nomatch ho

theorem tickPeriodFault (counts : Nat) : Statement (Instr.tickPeriodFault counts) := fun _ _ ho => nomatch ho

theorem badgerReferenced : Statement (Instr.badgerReferenced) := fun _ _ ho => nomatch ho

theorem badgerResync : Statement (Instr.badgerResync) := fun _ _ ho => nomatch ho

theorem martenDegraded : Statement (Instr.martenDegraded) := fun _ _ ho => nomatch ho

theorem standstill (ch : Chan) : Statement (Instr.standstill ch) := fun _ _ ho => nomatch ho

theorem pairDiscrepancy (ch : Chan) (pair : Fin 8) : Statement (Instr.pairDiscrepancy ch pair) := fun _ _ ho => nomatch ho

theorem doorPermitRemoved (d : Fin 2) : Statement (Instr.doorPermitRemoved d) := fun _ _ ho => nomatch ho

theorem doorPermitReturn (d : Fin 2) : Statement (Instr.doorPermitReturn d) := fun _ _ ho => nomatch ho

theorem parameterConfirm (c : Client) (crc : Word) : Statement (Instr.parameterConfirm c crc) := fun _ _ ho => nomatch ho

theorem parameterDiscard (c : Client) : Statement (Instr.parameterDiscard c) := fun _ _ ho => nomatch ho

theorem bparamWrite (m : Master) (val : Word) : Statement (Instr.bparamWrite m val) := fun _ _ ho => nomatch ho

theorem bmapWrite (m : Master) (val : Word) : Statement (Instr.bmapWrite m val) := fun _ _ ho => nomatch ho

theorem apermWrite (m : Master) (val : Word) : Statement (Instr.apermWrite m val) := fun _ _ ho => nomatch ho

theorem seqContact : Statement (Instr.seqContact) := fun _ _ ho => nomatch ho

theorem seqRelease : Statement (Instr.seqRelease) := fun _ _ ho => nomatch ho

theorem seqRun : Statement (Instr.seqRun) := fun _ _ ho => nomatch ho

theorem seqApply : Statement (Instr.seqApply) := fun _ _ ho => nomatch ho

theorem seqDisable : Statement (Instr.seqDisable) := fun _ _ ho => nomatch ho

theorem seqOff : Statement (Instr.seqOff) := fun _ _ ho => nomatch ho

theorem economyStart (b : Fin 2) : Statement (Instr.economyStart b) := fun _ _ ho => nomatch ho

theorem outputTestStart (rd : OutReading) : Statement (Instr.outputTestStart rd) := fun _ _ ho => nomatch ho

theorem outputTestEnd (off : Nat) (rd : OutReading) (others : List OutReading) : Statement (Instr.outputTestEnd off rd others) := fun h _ ho => Option.some.inj ho ▸ (of_decide_eq_true (Bool.and_elim_left (Bool.and_elim_left h)))

theorem testOverdue (i : Fin 10) : Statement (Instr.testOverdue i) := fun _ _ ho => nomatch ho

theorem testAgeLimit (i : Fin 10) : Statement (Instr.testAgeLimit i) := fun _ _ ho => nomatch ho

theorem outputOvercurrent (x : Fin 6) : Statement (Instr.outputOvercurrent x) := fun _ _ ho => nomatch ho

theorem releaseMonitorFault (x : Fin 4) : Statement (Instr.releaseMonitorFault x) := fun _ _ ho => nomatch ho

theorem torqueTestDue : Statement (Instr.torqueTestDue) := fun _ _ ho => nomatch ho

theorem torqueTestStart : Statement (Instr.torqueTestStart) := fun _ _ ho => nomatch ho

theorem torqueTestStepEnd : Statement (Instr.torqueTestStepEnd) := fun _ _ ho => nomatch ho

theorem torqueTestOverdue : Statement (Instr.torqueTestOverdue) := fun _ _ ho => nomatch ho

theorem onSiteResetEdge (r : ResetEdge) : Statement (Instr.onSiteResetEdge r) := fun _ _ ho => nomatch ho

theorem stuckReset (mask : Fin 4) : Statement (Instr.stuckReset mask) := fun _ _ ho => nomatch ho

theorem resetPadsDisagree (levels : Fin 4) : Statement (Instr.resetPadsDisagree levels) := fun _ _ ho => nomatch ho

theorem resetPadsRearm : Statement (Instr.resetPadsRearm) := fun _ _ ho => nomatch ho

theorem inputLevelAccepted (pin : InPin) (lvl : Bool) (ed : EdgeAt) : Statement (Instr.inputLevelAccepted pin lvl ed) := fun h _ ho => Option.some.inj ho ▸ (of_decide_eq_true h)

theorem testPulseWindow (t : Fin 4) : Statement (Instr.testPulseWindow t) := fun _ _ ho => nomatch ho

theorem testPulseJudge (t : Fin 4) (j : PulseReading) : Statement (Instr.testPulseJudge t j) := fun _ _ ho => nomatch ho

theorem chainTapOrder : Statement (Instr.chainTapOrder) := fun _ _ ho => nomatch ho

theorem outsetWrite (m : Master) (val : Word) : Statement (Instr.outsetWrite m val) := fun _ _ ho => nomatch ho

theorem outclrWrite (m : Master) (val : Word) : Statement (Instr.outclrWrite m val) := fun _ _ ho => nomatch ho

theorem thermalShutdown (p : Fin 36) (ma : Nat) (off : Nat) : Statement (Instr.thermalShutdown p ma off) := fun h _ ho => Option.some.inj ho ▸ ((of_decide_eq_true h).2)

theorem thermalRestart (p : Fin 36) : Statement (Instr.thermalRestart p) := fun _ _ ho => nomatch ho

theorem openLoad (p : Fin 36) (ma : Nat) : Statement (Instr.openLoad p ma) := fun _ _ ho => nomatch ho

theorem clearFault (m : Master) (val : Word) (off : Nat) : Statement (Instr.clearFault m val off) := fun h _ ho => Option.some.inj ho ▸ (of_decide_eq_true h)

theorem fieldSupplyStateChange (f : Fin 2) (st : SupplyState) (mv : Nat) : Statement (Instr.fieldSupplyStateChange f st mv) := fun _ _ ho => nomatch ho

theorem channelRemap (m : Master) (out : Bool) (n : Fin 52) (val : Word) : Statement (Instr.channelRemap m out n val) := fun _ _ ho => nomatch ho

theorem nmtStartRemoteNode (p : Fin 2) (node : Nat) : Statement (Instr.nmtStartRemoteNode p node) := fun _ _ ho => nomatch ho

theorem nmtStopRemoteNode (p : Fin 2) (node : Nat) : Statement (Instr.nmtStopRemoteNode p node) := fun _ _ ho => nomatch ho

theorem nmtEnterPreOperational (p : Fin 2) (node : Nat) : Statement (Instr.nmtEnterPreOperational p node) := fun _ _ ho => nomatch ho

theorem nmtResetCommunication (p : Fin 2) (node : Nat) : Statement (Instr.nmtResetCommunication p node) := fun _ _ ho => nomatch ho

theorem nmtResetNode (p : Fin 2) (node : Nat) : Statement (Instr.nmtResetNode p node) := fun _ _ ho => nomatch ho

theorem sdoDownload (p : Fin 2) (node : Nat) (idx : Nat) (sub : Nat) (bytes : List Byte) : Statement (Instr.sdoDownload p node idx sub bytes) := fun _ _ ho => nomatch ho

theorem sdoUpload (p : Fin 2) (node : Nat) (idx : Nat) (sub : Nat) : Statement (Instr.sdoUpload p node idx sub) := fun _ _ ho => nomatch ho

theorem rpdo (n : Fin 16) (bytes : List Byte) : Statement (Instr.rpdo n bytes) := fun _ _ ho => nomatch ho

theorem tpdoSend (n : Fin 16) : Statement (Instr.tpdoSend n) := fun _ _ ho => nomatch ho

theorem srdo1Send : Statement (Instr.srdo1Send) := fun _ _ ho => nomatch ho

theorem srdo2Received (bytes : List Byte) (inv : List Byte) : Statement (Instr.srdo2Received bytes inv) := fun _ _ ho => nomatch ho

theorem srdo2Invalid (kind : Fin 3) : Statement (Instr.srdo2Invalid kind) := fun _ _ ho => nomatch ho

theorem busOff (p : Fin 2) (tec : Nat) : Statement (Instr.busOff p tec) := fun _ _ ho => nomatch ho

theorem busOffRecovery (p : Fin 2) : Statement (Instr.busOffRecovery p) := fun _ _ ho => nomatch ho

theorem errorPassive (p : Fin 2) (tec : Nat) (rec : Nat) : Statement (Instr.errorPassive p tec rec) := fun _ _ ho => nomatch ho

theorem canopenHeartbeat (p : Fin 2) : Statement (Instr.canopenHeartbeat p) := fun _ _ ho => nomatch ho

theorem emergencyMessage (p : Fin 2) : Statement (Instr.emergencyMessage p) := fun _ _ ho => nomatch ho

theorem dictionaryWrite (c : Client) (idx : Nat) (sub : Nat) (bytes : List Byte) : Statement (Instr.dictionaryWrite c idx sub bytes) := fun _ _ ho => nomatch ho

theorem applyFence (c : Client) (val : Word) : Statement (Instr.applyFence c val) := fun _ _ ho => nomatch ho

theorem fenceApplied (c : Client) : Statement (Instr.fenceApplied c) := fun _ _ ho => nomatch ho

theorem store (c : Client) (val : Word) : Statement (Instr.store c val) := fun _ _ ho => nomatch ho

theorem restoreDefaults (c : Client) (val : Word) : Statement (Instr.restoreDefaults c val) := fun _ _ ho => nomatch ho

theorem commitPortSettings (c : Client) (val : Bool) : Statement (Instr.commitPortSettings c val) := fun _ _ ho => nomatch ho

theorem sessionOpen (ip : Word) : Statement (Instr.sessionOpen ip) := fun _ _ ho => nomatch ho

theorem sessionClose (i : Fin 4) : Statement (Instr.sessionClose i) := fun _ _ ho => nomatch ho

theorem fspReadEntry (i : Fin 4) (tag : Fin 256) (idx : Nat) (sub : Nat) : Statement (Instr.fspReadEntry i tag idx sub) := fun _ _ ho => nomatch ho

theorem fspWriteEntry (i : Fin 4) (tag : Fin 256) (idx : Nat) (sub : Nat) (bytes : List Byte) : Statement (Instr.fspWriteEntry i tag idx sub bytes) := fun _ _ ho => nomatch ho

theorem fspBatch (i : Fin 4) (tag : Fin 256) (bytes : List Byte) : Statement (Instr.fspBatch i tag bytes) := fun _ _ ho => nomatch ho

theorem fspReadEvents (i : Fin 4) (tag : Fin 256) (first : Nat) (cnt : Nat) : Statement (Instr.fspReadEvents i tag first cnt) := fun _ _ ho => nomatch ho

theorem fspReadFile (i : Fin 4) (tag : Fin 256) (file : Nat) (offset : Nat) : Statement (Instr.fspReadFile i tag file offset) := fun _ _ ho => nomatch ho

theorem localRequest (m : Master) (val : Word) : Statement (Instr.localRequest m val) := fun _ _ ho => nomatch ho

theorem memoryRead (m : Master) (addr : Nat) (len : Nat) : Statement (Instr.memoryRead m addr len) := fun _ _ ho => nomatch ho

theorem memoryWrite (m : Master) (addr : Nat) (bytes : List Byte) : Statement (Instr.memoryWrite m addr bytes) := fun _ _ ho => nomatch ho

theorem flipArm (m : Master) (val : Word) : Statement (Instr.flipArm m val) := fun _ _ ho => nomatch ho

theorem antScrub (addr : Nat) : Statement (Instr.antScrub addr) := fun _ _ ho => nomatch ho

theorem weevilLine : Statement (Instr.weevilLine) := fun _ _ ho => nomatch ho

theorem weevilVisit : Statement (Instr.weevilVisit) := fun _ _ ho => nomatch ho

theorem fuseProgram (m : Master) (val : Word) : Statement (Instr.fuseProgram m val) := fun _ _ ho => nomatch ho

theorem fuseProgramDone : Statement (Instr.fuseProgramDone) := fun _ _ ho => nomatch ho

theorem pprRequest (m : Master) (val : Word) : Statement (Instr.pprRequest m val) := fun _ _ ho => nomatch ho

theorem flashHealthRead (life : Nat) (preeol : Fin 4) : Statement (Instr.flashHealthRead life preeol) := fun _ _ ho => nomatch ho

theorem blockFenceWrite (m : Master) (blk : Fin 27) (val : Word) : Statement (Instr.blockFenceWrite m blk val) := fun _ _ ho => nomatch ho

theorem dmaStart (m : Master) (c : Fin 8) : Statement (Instr.dmaStart m c) := fun _ _ ho => nomatch ho

theorem dmaAbort (m : Master) (c : Fin 8) : Statement (Instr.dmaAbort m c) := fun _ _ ho => nomatch ho

theorem dmaDescriptorDone (c : Fin 8) : Statement (Instr.dmaDescriptorDone c) := fun _ _ ho => nomatch ho

theorem mailboxSend (m : Master) (n : Fin 16) (val : Word) : Statement (Instr.mailboxSend m n val) := fun _ _ ho => nomatch ho

theorem mailboxFencePost (n : Fin 16) : Statement (Instr.mailboxFencePost n) := fun _ _ ho => nomatch ho

theorem mailboxTake (m : Master) (n : Fin 16) : Statement (Instr.mailboxTake m n) := fun _ _ ho => nomatch ho

theorem crossWait (a : Fin 16) (b : Fin 16) : Statement (Instr.crossWait a b) := fun _ _ ho => nomatch ho

theorem lockRead (m : Master) (l : Fin 32) : Statement (Instr.lockRead m l) := fun _ _ ho => nomatch ho

theorem lockRelease (m : Master) (l : Fin 32) (val : Word) : Statement (Instr.lockRelease m l val) := fun _ _ ho => nomatch ho

theorem parkRequest (m : Master) (halted : Fin 16) : Statement (Instr.parkRequest m halted) := fun _ _ ho => nomatch ho

theorem parked : Statement (Instr.parked) := fun _ _ ho => nomatch ho

theorem foxWake : Statement (Instr.foxWake) := fun _ _ ho => nomatch ho

theorem parkStart (m : Master) (val : Word) : Statement (Instr.parkStart m val) := fun _ _ ho => nomatch ho

theorem eventRecordWrite : Statement (Instr.eventRecordWrite) := fun _ _ ho => nomatch ho

theorem archiveBlockWrite : Statement (Instr.archiveBlockWrite) := fun _ _ ho => nomatch ho

theorem ringFillDone (flight : Bool) : Statement (Instr.ringFillDone flight) := fun _ _ ho => nomatch ho

theorem freeze (m : Master) (tag : Word) : Statement (Instr.freeze m tag) := fun _ _ ho => nomatch ho

theorem windowCopyStart : Statement (Instr.windowCopyStart) := fun _ _ ho => nomatch ho

theorem windowStored : Statement (Instr.windowStored) := fun _ _ ho => nomatch ho

theorem cursorWrite (m : Master) (high : Bool) (val : Word) : Statement (Instr.cursorWrite m high val) := fun _ _ ho => nomatch ho

theorem fatalError (m : Master) (code : Word) (dump : List Byte) : Statement (Instr.fatalError m code dump) := fun _ _ ho => nomatch ho

theorem operatingHour : Statement (Instr.operatingHour) := fun _ _ ho => nomatch ho

theorem lifeRecompute : Statement (Instr.lifeRecompute) := fun _ _ ho => nomatch ho

theorem imageOpen (i : Fin 4) (tag : Fin 256) (kind : Nat) : Statement (Instr.imageOpen i tag kind) := fun _ _ ho => nomatch ho

theorem imageData (i : Fin 4) (tag : Fin 256) (offset : Nat) (bytes : List Byte) : Statement (Instr.imageData i tag offset bytes) := fun _ _ ho => nomatch ho

theorem imageClose (i : Fin 4) (tag : Fin 256) : Statement (Instr.imageClose i tag) := fun _ _ ho => nomatch ho

theorem boot : Statement (Instr.boot) := fun _ _ ho => nomatch ho

theorem handoverLoad (m : Master) : Statement (Instr.handoverLoad m) := fun _ _ ho => nomatch ho

theorem candidateReady (off : Nat) : Statement (Instr.candidateReady off) := fun h _ ho => Option.some.inj ho ▸ (of_decide_eq_true h)

theorem handoverRequest (m : Master) : Statement (Instr.handoverRequest m) := fun _ _ ho => nomatch ho

theorem handoverDiscard (m : Master) : Statement (Instr.handoverDiscard m) := fun _ _ ho => nomatch ho

theorem handoverStart : Statement (Instr.handoverStart) := fun _ _ ho => nomatch ho

theorem handoverSnapshot : Statement (Instr.handoverSnapshot) := fun _ _ ho => nomatch ho

theorem handoverAuthority : Statement (Instr.handoverAuthority) := fun _ _ ho => nomatch ho

theorem confirm (m : Master) (val : Word) : Statement (Instr.confirm m val) := fun _ _ ho => nomatch ho

theorem handoverRevert (fatal : Bool) : Statement (Instr.handoverRevert fatal) := fun _ _ ho => nomatch ho

theorem keyInput (l0 : Bool) (l1 : Bool) : Statement (Instr.keyInput l0 l1) := fun _ _ ho => nomatch ho

theorem sealInput (closed : Bool) : Statement (Instr.sealInput closed) := fun _ _ ho => nomatch ho

theorem lidButtonPress : Statement (Instr.lidButtonPress) := fun _ _ ho => nomatch ho

theorem lidButtonStuck : Statement (Instr.lidButtonStuck) := fun _ _ ho => nomatch ho

theorem safeokWrite (m : Master) (val : Word) : Statement (Instr.safeokWrite m val) := fun _ _ ho => nomatch ho

theorem presenceTimeout : Statement (Instr.presenceTimeout) := fun _ _ ho => nomatch ho

theorem debugUnlock (m : Master) (val : Word) : Statement (Instr.debugUnlock m val) := fun _ _ ho => nomatch ho

theorem backupChunkSend : Statement (Instr.backupChunkSend) := fun _ _ ho => nomatch ho

theorem adopt (c : Client) (inst : Nat) (car : Nat) : Statement (Instr.adopt c inst car) := fun _ _ ho => nomatch ho

theorem backupApplied : Statement (Instr.backupApplied) := fun _ _ ho => nomatch ho

theorem verificationStart (c : Client) : Statement (Instr.verificationStart c) := fun _ _ ho => nomatch ho

theorem verificationEnd : Statement (Instr.verificationEnd) := fun _ _ ho => nomatch ho

theorem powerOnResetRelease : Statement (Instr.powerOnResetRelease) := fun _ _ ho => nomatch ho

theorem powerFail : Statement (Instr.powerFail) := fun _ _ ho => nomatch ho

theorem powerFailReset : Statement (Instr.powerFailReset) := fun _ _ ho => nomatch ho

theorem vinLow (mv : Nat) : Statement (Instr.vinLow mv) := fun _ _ ho => nomatch ho

theorem vsafeCrossing (mv : Nat) : Statement (Instr.vsafeCrossing mv) := fun _ _ ho => nomatch ho

theorem nmrst : Statement (Instr.nmrst) := fun _ _ ho => nomatch ho

theorem warmReset (m : Master) (key : Word) : Statement (Instr.warmReset m key) := fun _ _ ho => nomatch ho

theorem moduleReset (m : Master) (key : Word) : Statement (Instr.moduleReset m key) := fun _ _ ho => nomatch ho

theorem safeDomainReset (m : Master) (key : Word) : Statement (Instr.safeDomainReset m key) := fun _ _ ho => nomatch ho

theorem appDomainReset (m : Master) (key : Word) : Statement (Instr.appDomainReset m key) := fun _ _ ho => nomatch ho

theorem coreDomainReset (m : Master) (key : Word) : Statement (Instr.coreDomainReset m key) := fun _ _ ho => nomatch ho

theorem partnerResetEnd : Statement (Instr.partnerResetEnd) := fun _ _ ho => nomatch ho

theorem loadCalibrateZero (c : Client) : Statement (Instr.loadCalibrateZero c) := fun _ _ ho => nomatch ho

theorem loadCalibrateSpan (c : Client) : Statement (Instr.loadCalibrateSpan c) := fun _ _ ho => nomatch ho

theorem keyChannelsDisagree : Statement (Instr.keyChannelsDisagree) := fun _ _ ho => nomatch ho

theorem keyChannelsAgree : Statement (Instr.keyChannelsAgree) := fun _ _ ho => nomatch ho

theorem lidButtonRearm : Statement (Instr.lidButtonRearm) := fun _ _ ho => nomatch ho

theorem lineFaultCleared (n : Fin 4) (mask : Fin 8) : Statement (Instr.lineFaultCleared n mask) := fun _ _ ho => nomatch ho

theorem errorActiveReturn (p : Fin 2) (tec : Nat) (rec : Nat) : Statement (Instr.errorActiveReturn p tec rec) := fun _ _ ho => nomatch ho

theorem ethernetLinkChange (up : Bool) (full : Bool) : Statement (Instr.ethernetLinkChange up full) := fun _ _ ho => nomatch ho

theorem holdCharged (ms : Nat) (mv : Nat) : Statement (Instr.holdCharged ms mv) := fun _ _ ho => nomatch ho

end Sys2Proof.Laws.Wf
end

