-- ==== Sys2Proof/Tests/Slice0.lean ====
section
/-! SUPPORT. Tests: ill-formed commands that the checks refuse, values that the spec's own examples and tables give, and for every statement
a state and operands that meet its hypotheses. -/

set_option Elab.async false

open Sys2Proof Sys2Proof.Machine

/-! ## Ill-formed commands -/

/-- Readings, instants and accesses out of range. -/
theorem test_illformed_inputs : ([.samplePoint { outs := List.replicate 5 {} }, .samplePoint { outs := [{ hi := 65536 }] }, .samplePoint { outs := [{ il := 65536 }]
    }, .samplePoint { sto := List.replicate 3 (0, 0) }, .samplePoint { pads := List.replicate 37 (0, 0) }, .samplePoint { pads := [(0,
    65536)] }, .samplePoint { vfield := [0, 0, 0] }, .samplePoint { vsafe := 65536 }, .samplePoint { vin := 65536 }, .samplePoint {
    probe := 65536 }, .samplePoint { period := 65536 }, .samplePoint { slotsDone := 17 }, .slowTick { vin := 65536 }, .slowTick { hold
    := 65536 }, .slowTick { lc := [[], [], []] }, .slowTick { lc := [[{ exc := 65536 }]] }, .slowTick { lc := [List.replicate 101 {}]
    }, .slowTick { zero := [[16384]] }, .slowTick { zero := [[0, 0, 0, 0]] }, .readNowLo 0 50000, .registerWrite 0 (2 ^ 64) 0,
    .wrongWidthAccess 0 (2 ^ 64) 1, .wrongWidthAccess 0 0 0, .wrongWidthAccess 0 0 65, .accessOutsideMap 0 (2 ^ 64),
    .accessOutsideRights 0 (2 ^ 64), .cntEdge 0 false false { off := 50000 }, .zEdge 0 { off := 50000 }, .lineFault 0 0,
    .absFrameReceived 0 { data := 2 ^ 64 }, .absFrameReceived 0 { crc := 64 }, .absFrameReceived 0 { endCyc := 100000 },
    .hallSectorChange 0 0 { off := 50000 }, .emuOutputEdge 50000, .latchCapture 0 false { off := 50000 }, .latchCapture 52 false {},
    .latchSoftwareTrigger 0 0 50000] : List Instr).all (fun i => !i.wf) = true := by
  decide +kernel

/-- Commands of the drive, the doors, the ring and BID out of range. -/
theorem test_illformed_motion : ([.pgenUnknownOp 0 1 0, .pgenUnknownOp 0 6 0, .carrierPeriodStart 0 { iu := 16384 }, .carrierPeriodStart 0 { vdc := 16384 },
    .doorUnknownOp 0 0 8 0, .obstructionTrip 0 0, .obstructionTrip 0 5, .ringFrameReceived 0 (List.replicate 2049 none) 0,
    .ringFrameReceived 0 [] 800000, .nodeLost 0, .nodeRegained 193, .payloadEntryDropped 0, .bidUnknownOp 0 6 0, .announce
    (List.replicate 23 0), .bid (List.replicate 23 0), .award (List.replicate 23 0), .heartbeat (List.replicate 23 0), .groupRelease
    (List.replicate 23 0), .groupServed (List.replicate 23 0), .accept (List.replicate 23 0), .backup (List.replicate 23 0),
    .backupReq (List.replicate 23 0), .evaluationEnd (2 ^ 32), .auctionDeadline 65536, .reannounceTimer 65536, .reauctionTimer 65536,
    .acceptTimeout 65536, .heartbeatLoss 0, .heartbeatLoss 17, .tickPeriodFault 65536] : List Instr).all (fun i => !i.wf) = true := by
  decide +kernel

/-- Commands of the outputs, the ports and the dictionary out of range. -/
theorem test_illformed_outputs : ([.outputTestStart { lo := 65536 }, .outputTestEnd 50000 {} [], .outputTestEnd 0 { ih := 65536 } [], .outputTestEnd 0 {}
    (List.replicate 5 {}), .inputLevelAccepted (.gen 0) false { off := 50000 }, .clearFault 0 0 50000, .candidateReady 50000,
    .thermalShutdown 0 65536 0, .thermalShutdown 0 0 50000, .openLoad 0 65536, .fieldSupplyStateChange 0 .ok 65536, .channelRemap 0
    true 32 0, .nmtStartRemoteNode 0 128, .nmtStopRemoteNode 0 128, .nmtEnterPreOperational 0 128, .nmtResetCommunication 0 128,
    .nmtResetNode 0 128, .sdoDownload 0 128 0 0 [], .sdoUpload 0 128 0 0, .sdoDownload 0 0 65536 0 [], .sdoDownload 0 0 0 256 [],
    .sdoUpload 0 0 65536 0, .sdoUpload 0 0 0 256, .rpdo 0 (List.replicate 65 0), .srdo2Received (List.replicate 65 0) [],
    .srdo2Received [] (List.replicate 65 0), .busOff 0 512, .errorPassive 0 512 0, .errorPassive 0 0 256, .errorActiveReturn 0 512 0,
    .errorActiveReturn 0 0 256, .dictionaryWrite (.loc 0) 65536 0 [], .dictionaryWrite (.loc 0) 0 256 [], .fspReadEntry 0 0 65536 0,
    .fspReadEntry 0 0 0 256, .fspWriteEntry 0 0 65536 0 [], .fspWriteEntry 0 0 0 256 [], .fspReadEvents 0 0 (2 ^ 32) 0, .fspReadEvents
    0 0 0 65536, .fspReadFile 0 0 65536 0, .fspReadFile 0 0 0 (2 ^ 32)] : List Instr).all (fun i => !i.wf) = true := by
  decide +kernel

/-- Commands of the memories, the cores, the images and the supplies out of range. -/
theorem test_illformed_memory : ([.memoryRead 0 (2 ^ 64) 1, .memoryRead 0 0 0, .memoryRead 0 0 65, .memoryWrite 0 (2 ^ 64) [0], .memoryWrite 0 0 [], .memoryWrite 0
    0 (List.replicate 65 0), .antScrub (2 ^ 64), .flashHealthRead 65536 0, .crossWait 3 3, .fatalError 0 0 [], .fatalError 6 0 [],
    .imageOpen 0 0 256, .imageData 0 0 (2 ^ 32) [], .adopt (.loc 0) (2 ^ 32) 0, .adopt (.loc 0) 0 (2 ^ 32), .vinLow 65536,
    .vsafeCrossing 65536, .lineFaultCleared 0 0, .holdCharged 65536 0, .holdCharged 0 65536] : List Instr).all (fun i => !i.wf) = true := by
  decide +kernel

/-- Values longer than any transfer brings. -/
theorem test_illformed_long : ([.sdoDownload 0 0 0 0 (List.replicate 65537 0), .dictionaryWrite (.loc 0) 0 0 (List.replicate 65537 0), .fspWriteEntry 0 0 0 0
    (List.replicate 65537 0), .fspBatch 0 0 (List.replicate 65537 0), .imageData 0 0 0 (List.replicate 65537 0)] : List Instr).all (fun i => !i.wf) = true := by
  decide +kernel
/-- A machine after reset but for what `f` does to its module. -/
def Sys2Proof.Machine.afterReset (f : Dev → Dev) : State := { State.reset with dev := f State.reset.dev }

/-- The settings as they stand come into force. -/
def Sys2Proof.Machine.Dev.settled (s : Dev) : Dev := { s with force := s.regs }

/-! ## The spec's own examples and tables -/

/-- The CRC-32 of "123456789" (R441). -/
theorem test_crc_check_value : crc32 [0x31, 0x32, 0x33, 0x34, 0x35, 0x36, 0x37, 0x38, 0x39] = 0xFC891918 := by decide +kernel

/-- The on-times of the phases U, V and W in "Example: one carrier period" of the door drive. -/
theorem test_on_times : [18539, 14128, -32668].map (onTime 20000 21601 48000) = [15092, 13881, 1027] := by decide +kernel

/-- The speed caps of "Example: a 120 kg door set": 10 J closing and 4 J nudging. -/
theorem test_energy_caps : (capSpeed 10000 1200, capSpeed 4000 1200) = (some 408248, some 258198) := by decide +kernel

/-- A state of fusion as in "Example: fusion while running upward": GAIN 3, CORRMAX 20 µm, REJECT 20 mm. -/
def Sys2Proof.Machine.fusing (off : Int) : Dev :=
  let d := (((State.reset.dev.setFld F.POSX_FUSE_CFG_GAIN 3).setFld F.POSX_FUSE_CFG_CORRMAX 20).setFld F.POSX_FUSE_CFG_REJECT 20).settled
  { d with posx := { d.posx with fuse := { d.posx.fuse with off := off, seeded := true } } }

/-- The three ticks of that example: corrections of 10 µm and 8 µm, and a rejected reading. -/
theorem test_fusion_example : ((fusing 12400).fuseNormal 45012480 45000000).posx.fuse.off = 12410 ∧
    ((fusing 12410).fuseNormal 45012730 45000250).posx.fuse.off = 12418 ∧
    ((fusing 12418).fuseNormal 45040000 45000500).posx.fuse.off = 12418 ∧
    ((fusing 12418).fuseNormal 45040000 45000500).fld F.POSX_FUSE_STATUS_REJCNT = 1 := by decide +kernel

/-- "Example: a flood of rejected slots": the token of 11.000 s in a bucket that was emptied at 10.007 s, with t0 = 10.000 s. -/
theorem test_bucket_refill :
    (Bucket.refill { code := 0x3003, tokens := 0, t0 := 4000000000 } 8 60 4399999999).tokens = 0 ∧
    (Bucket.refill { code := 0x3003, tokens := 0, t0 := 4000000000 } 8 60 4400000000).tokens = 1 := by decide +kernel

/-- One step of a command at the front of the queue. -/
def Sys2Proof.Machine.stepped (i : Instr) (s : State) : Option Dev :=
  match step { s with pending := [i] } with
  | .next t => some t.dev
  | _ => none

/-- The table of R64: the state 0b110 of UVW is sector 3, 0b111 is illegal and leaves the sector. -/
theorem test_hall_table : let s := afterReset fun d => (d.setFlag (F.POSX_HALL_CFG_EN 1) true).settled
    (stepped (.hallSectorChange 1 6 {}) s).map (fun d => d.fld (F.POSX_HALL_STATE_SECTOR 1)) = some 3 ∧
    (stepped (.hallSectorChange 1 7 {}) s).map (fun d => (d.fld (F.POSX_HALL_STATE_SECTOR 1), d.flag (F.POSX_HALL_STATE_ILLEGAL 1))) =
      some (0, true) := by decide +kernel

/-- R64: with FILT = 10 µs a state that holds for one cycle less than 10 µs is no state, and one that holds for 10 µs is. -/
theorem test_hall_filter : let s := afterReset fun d => ((d.setFlag (F.POSX_HALL_CFG_EN 1) true).setFld (F.POSX_HALL_CFG_FILT 1) 10).settled
    (stepped (.hallSectorChange 1 6 { held := 3999 }) s).map (fun d => d.fld (F.POSX_HALL_STATE_SECTOR 1)) = some 0 ∧
    (stepped (.hallSectorChange 1 6 { held := 4000 }) s).map (fun d => d.fld (F.POSX_HALL_STATE_SECTOR 1)) = some 3 := by decide +kernel

/-- R11, R403: a window is open at its end, so a CONFIRM exactly 0x2901:03 ms after T(q + 2) is too late. -/
theorem test_window_open_at_end :
    ({ State.reset.dev with now := 5000 * msCyc - 1, od := [(odKey 0x2901 3, 5000)] } : Dev).hoWindow = true ∧
    ({ State.reset.dev with now := 5000 * msCyc, od := [(odKey 0x2901 3, 5000)] } : Dev).hoWindow = false := by decide +kernel

/-- R24, R307: a write of CLRF clears nothing before the next sample point. -/
theorem test_clear_waits :
    (stepped (.clearFault 1 7 9) (afterReset fun d => d.setFld (F.IO24_OUTSTAT_FAULT 7) 3)).map (fun d => (d.padFault 7, d.io.clr)) =
      some (3, some 7) := by decide +kernel

/-- R368: the first reader of a free lock owns it, the next one reads the owner's number. -/
theorem test_lock_first_reader :
    (stepped (.lockRead 2 7) State.reset).map (fun d => (d.fld (F.MBOX_LOCK_OWNER 7), (d.bus[(2 : Master)]).data)) = some (2, [0, 0, 0, 0]) ∧
    (stepped (.lockRead 5 7) (afterReset fun d => d.setFld (F.MBOX_LOCK_OWNER 7) 2)).map (fun d => (d.bus[(5 : Master)]).data) = some [2, 0, 0, 0] := by
  decide +kernel

/-- R289, R271: after reset both channels are in HOLD, SEQ is OFF and no permit is given. -/
theorem test_reset_safe : State.reset.dev.chA.state = 4 ∧ State.reset.dev.chB.state = 4 ∧ State.reset.dev.fld F.SOUT_STATUS_SEQ = 0 ∧
    State.reset.dev.rd R.SOUT_APERM = 0 ∧ State.reset.dev.rd R.SOUT_BPERM = 0 ∧ (State.reset.dev.sout.cl.toList.all fun b => !b) = true := by
  decide +kernel

/-- The canonical form of memory: what an unlisted address reads as is never listed, and entries rise. -/
theorem test_memory_form :
    let m := ((({} : MemSys).putByte 0x20000005 7).putByte 0x20000003 9).putByte 0x20000005 0
    m.cells = [(0x20000003, 9)] ∧ m.wf = true ∧ m.byte 0x20000005 = some 0 ∧ m.byte 0x18000000 = none := by decide +kernel

/-- No word of the table spells a command, so the queue is left as it is. -/
theorem test_no_table_word : decodeTableWord 32 5 = none ∧ (State.reset.withFetchWord 32 5).pending = [] := by decide +kernel

/-! ## States that meet the hypotheses of the statements -/

theorem witness_TickEvents :
    (∃ (s : State), s.dev.inReset = false ∧ s.dev.begun = true) ∧
    (∃ (s : State), s.dev.inReset = false ∧ s.dev.begun = false) ∧
    (∃ (s : State) (p : Fin 9), s.dev.inReset = false ∧ s.dev.missTick[p] ≠ s.dev.nextTick + 1) ∧
    (∃ (s : State) (p : Fin 9), s.dev.inReset = false ∧ s.dev.missTick[p] = s.dev.nextTick + 1) ∧
    (∃ (s : State) (n : Fin 4), s.dev.inReset = false ∧ s.dev.alarmDue[n] = true ∧ s.dev.fldF (F.TICK_ALARM_OFFSET n.val) < 124998) ∧
    (∃ (s : State) (n : Fin 4), s.dev.inReset = false ∧ 124998 ≤ s.dev.fldF (F.TICK_ALARM_OFFSET n.val)) :=
  ⟨⟨afterReset fun d => { d with begun := true, now := 60000 }, by decide +kernel⟩,
   ⟨State.reset, by decide +kernel⟩,
   ⟨State.reset, 3, by decide +kernel⟩,
   ⟨afterReset fun d => { d with missTick := Vector.replicate 9 1 }, 3, by decide +kernel⟩,
   ⟨afterReset fun d => { (d.setFld (F.TICK_ALARM_RATE 1) 3).settled with alarmDue := d.alarmDue.set 1 true }, 1, by decide +kernel⟩,
   ⟨afterReset fun d => (d.setFld (F.TICK_ALARM_OFFSET 1) 124999).settled, 1, by decide +kernel⟩⟩

theorem witness_TimeReadsLatch :
    (∃ (s : State) (m : Master), s.dev.inReset = false ∧ s.dev.mayUse m R.TICK_NOW_LO = true) ∧
    (∃ (s : State) (m : Master), s.dev.inReset = false ∧ s.dev.mayUse m R.TICK_NOW_LO = true) ∧
    (∃ (s : State) (m : Master), s.dev.inReset = false ∧ s.dev.mayUse m R.TICK_NOW_HI = true) :=
  ⟨⟨State.reset, 3, by decide +kernel⟩,
   ⟨afterReset fun d => { d with now := 50000000000000, latch := Vector.replicate 11 { nowHi := 9, num := 0x500000007 } }, 3, by decide +kernel⟩,
   ⟨afterReset fun d => { d with now := 50000000000000, latch := Vector.replicate 11 { nowHi := 9, num := 0x500000007 } }, 3, by decide +kernel⟩⟩

theorem witness_BadAccessEndsInBusError :
    (∃ (s : State) (m : Master) (a : Nat) (w : Nat), s.dev.inReset = false ∧ s.dev.mayUse m a = true ∧ regionOf a = some .periph ∧ wordAccess a w = false) ∧
    (∃ (s : State) (m : Master) (a : Nat), s.dev.inReset = false ∧ s.dev.mayAccess m = true ∧ regionOf (s.dev.physical m a) = none) ∧
    (∃ (s : State) (m : Master) (a : Nat), s.dev.inReset = false ∧ s.dev.mayAccess m = true ∧ s.dev.reach m a (s.dev.physical m a) false = .denied) :=
  ⟨⟨State.reset, 1, 0x40000001, 4, by decide +kernel⟩,
   ⟨State.reset, 1, 0xFFFFFFFF0, by decide +kernel⟩,
   ⟨State.reset, 1, 0x10000000, by decide +kernel⟩⟩

theorem witness_RegisterAccessCodes :
    (∃ (s : State) (m : Master) (a : Nat) (r : RegDesc), s.dev.inReset = false ∧ s.dev.mayUse m a = true ∧ a % 4 = 0 ∧ regionOf a = some .periph ∧ blockNo a ∈ [0, 10, 11, 21, 23, 24] ∧ a ≠ R.SYS_RSTREQ ∧ regDesc? a = some r ∧ (r.bits.Pairwise (fun x y => x.hi < y.lo ∨ y.hi < x.lo))) ∧
    (∃ (s : State) (m : Master) (k : Fin 48), s.dev.inReset = false ∧ s.dev.mayUse m (R.LRING_CLASS k.val) = true) ∧
    (∃ (s : State) (m : Master) (k : Fin 48), s.dev.inReset = false ∧ s.dev.mayUse m (R.LRING_LMASK k.val) = true) ∧
    (∃ (s : State), s.dev.inReset = false) ∧
    (∃ (s : State) (m : Master) (blk : LockBlock), s.dev.inReset = false ∧ s.dev.mayUse m (lockAddr blk) = true ∧ m ≠ 5) :=
  ⟨⟨State.reset, 1, R.CANX_CFG 1, ((regDesc? (R.CANX_CFG 1)).getD ⟨0, 0, 0, 0, 0, 0, false, []⟩), by decide +kernel⟩,
   ⟨State.reset, 1, 3, by decide +kernel⟩,
   ⟨State.reset, 1, 3, by decide +kernel⟩,
   ⟨State.reset, by decide +kernel⟩,
   ⟨State.reset, 2, .posx, by decide +kernel⟩⟩

theorem witness_CounterEdges :
    (∃ (s : State) (n : Fin 4) (a : Bool) (b : Bool) (held : Nat), s.dev.inReset = false ∧ s.dev.fldF (F.POSX_CNT_CFG_FILT n.val) < held ∧ s.dev.flagF (F.POSX_CNT_CFG_EN n.val) = true ∧ (((s.dev.posx.cnt[n]).a = a ∨ (s.dev.posx.cnt[n]).b = b))) ∧
    (∃ (s : State) (n : Fin 4) (a : Bool) (b : Bool) (held : Nat), s.dev.inReset = false ∧ s.dev.fldF (F.POSX_CNT_CFG_FILT n.val) < held ∧ s.dev.flagF (F.POSX_CNT_CFG_EN n.val) = true ∧ (s.dev.posx.cnt[n]).a ≠ a ∧ (s.dev.posx.cnt[n]).b ≠ b) ∧
    (∃ (s : State) (n : Fin 4) (held : Nat), s.dev.inReset = false ∧ s.dev.fldF (F.POSX_CNT_CFG_FILT n.val) < held ∧ s.dev.flagF (F.POSX_CNT_CFG_EN n.val) = false) ∧
    (∃ (s : State) (n : Fin 4) (held : Nat), s.dev.inReset = false ∧ held ≤ s.dev.fldF (F.POSX_CNT_CFG_FILT n.val)) ∧
    (∃ (s : State) (n : Fin 4) (held : Nat), s.dev.inReset = false ∧ s.dev.fldF (F.POSX_CNT_CFG_FILT n.val) < held) ∧
    (∃ (s : State) (n : Fin 4) (held : Nat), s.dev.inReset = false ∧ held ≤ s.dev.fldF (F.POSX_CNT_CFG_FILT n.val)) ∧
    (∃ (s : State) (n : Fin 4), s.dev.inReset = false ∧ s.dev.stillNow n = true) ∧
    (∃ (s : State) (src : Fin 6), s.dev.inReset = false ∧ src.val < 4 ∧ s.dev.flagF (F.POSX_CNT_CFG_LINECHK src.val) = true) ∧
    (∃ (s : State), s.dev.inReset = false) ∧
    (∃ (s : State), s.dev.inReset = false) :=
  ⟨⟨afterReset fun d => (d.setFlag (F.POSX_CNT_CFG_EN 1) true).settled, 1, true, false, 9, by decide +kernel⟩,
   ⟨afterReset fun d => (d.setFlag (F.POSX_CNT_CFG_EN 1) true).settled, 1, true, true, 9, by decide +kernel⟩,
   ⟨State.reset, 0, 9, by decide +kernel⟩,
   ⟨afterReset fun d => (d.setFld (F.POSX_CNT_CFG_FILT 0) 3).settled, 0, 3, by decide +kernel⟩,
   ⟨State.reset, 2, 9, by decide +kernel⟩,
   ⟨afterReset fun d => (d.setFld (F.POSX_CNT_CFG_FILT 2) 3).settled, 2, 3, by decide +kernel⟩,
   ⟨afterReset fun d => { (((d.setFlag (F.POSX_CNT_CFG_EN 1) true).setFld (F.POSX_CNT_SPDCFG_STILL 1) 1).settled) with now := 50000000 }, 1, by decide +kernel⟩,
   ⟨afterReset fun d => (d.setFlag (F.POSX_CNT_CFG_LINECHK 1) true).settled, 1, by decide +kernel⟩,
   ⟨State.reset, by decide +kernel⟩,
   ⟨afterReset fun d => d.setFld (F.POSX_CNT_STATUS_LINEFLT 1) 7, by decide +kernel⟩⟩

theorem witness_AbsoluteFramesAndHall :
    (∃ (s : State) (n : Fin 2) (fr : AbsFrame) (r : Nat), s.dev.inReset = false ∧ s.dev.flagF (F.POSX_ABS_CFG_EN n.val) = true ∧ s.dev.flagF (F.POSX_ABS_CFG_PROTO n.val) = false ∧ (s.dev.posx.abs[n]).await = true ∧ fr.rtd = some r) ∧
    (∃ (s : State) (n : Fin 2), s.dev.inReset = false ∧ s.dev.flagF (F.POSX_ABS_CFG_EN n.val) = true ∧ (s.dev.posx.abs[n]).await = true) ∧
    (∃ (s : State) (h : Fin 2) (uvw : Fin 8) (held : Nat) (x : Nat), s.dev.inReset = false ∧ s.dev.flagF (F.POSX_HALL_CFG_EN h.val) = true ∧ s.dev.fldF (F.POSX_HALL_CFG_FILT h.val) * 400 ≤ held ∧ hallOf uvw.val = some x) ∧
    (∃ (s : State) (h : Fin 2) (held : Nat), s.dev.inReset = false ∧ held < s.dev.fldF (F.POSX_HALL_CFG_FILT h.val) * 400) ∧
    (∃ (s : State) (h : Fin 2) (uvw : Fin 8) (held : Nat), s.dev.inReset = false ∧ s.dev.flagF (F.POSX_HALL_CFG_EN h.val) = true ∧ s.dev.fldF (F.POSX_HALL_CFG_FILT h.val) * 400 ≤ held ∧ hallOf uvw.val = none) ∧
    (∃ (s : State) (off : Nat) (fwd : Bool) (rest : List Bool), s.dev.inReset = false ∧ s.dev.posx.emu.back = fwd :: rest ∧ ((s.dev.posx.emu.lastAt = none ∨ s.dev.posx.emu.lastAt.getD 0 + 200 ≤ max s.dev.now (s.dev.tick * 50000 + min off 49999)))) :=
  ⟨⟨afterReset fun d => { (((d.setFlag (F.POSX_ABS_CFG_EN 1) true).setFld (F.POSX_ABS_CFG_LEN 1) 24).settled) with posx := { d.posx with abs := d.posx.abs.set 1 { await := true } } }, 1, { data := 5, crc := 0, rtd := some 100, endCyc := 3000 }, 100, by decide +kernel⟩,
   ⟨afterReset fun d => { (((d.setFlag (F.POSX_ABS_CFG_EN 1) true).setFld (F.POSX_ABS_CFG_LEN 1) 24).settled) with posx := { d.posx with abs := d.posx.abs.set 1 { await := true } } }, 1, by decide +kernel⟩,
   ⟨afterReset fun d => (d.setFlag (F.POSX_HALL_CFG_EN 1) true).settled, 1, 6, 9, 3, by decide +kernel⟩,
   ⟨afterReset fun d => (d.setFld (F.POSX_HALL_CFG_FILT 1) 3).settled, 1, 1199, by decide +kernel⟩,
   ⟨afterReset fun d => (d.setFlag (F.POSX_HALL_CFG_EN 1) true).settled, 1, 7, 9, by decide +kernel⟩,
   ⟨afterReset fun d => { (d.setFlag F.POSX_EMU_CFG_EN true).settled with posx := { d.posx with emu := { back := [true, false], quad := 3 } } }, 9, true, [false], by decide +kernel⟩⟩

theorem witness_FusionModeChanges :
    (∃ (s : State), s.dev.inReset = false ∧ s.dev.posx.fuse.seeded = true ∧ 8 ≤ s.dev.posx.fuse.noAcc ∧ s.dev.flag F.POSX_FUSE_STATUS_ABSLOST = false) ∧
    (∃ (s : State), s.dev.inReset = false ∧ s.dev.flag F.POSX_FUSE_STATUS_ABSLOST = true ∧ 16 ≤ s.dev.posx.fuse.recov.length ∧ consistent (1000 * s.dev.fldF F.POSX_FUSE_CFG_REJECT) s.dev.posx.fuse.recov = true) ∧
    (∃ (s : State), s.dev.inReset = false ∧ s.dev.flagF F.POSX_FUSE_CFG_EN = true ∧ ((8 ≤ s.dev.posx.fuse.illSlow ∨ 4 ≤ s.dev.posx.fuse.lineRun)) ∧ s.dev.flag F.POSX_FUSE_STATUS_INCLOST = false) ∧
    (∃ (s : State), s.dev.inReset = false ∧ s.dev.tick % 800 = 0 ∧ s.dev.posx.fuse.dirty = false ∧ s.dev.flag F.POSX_FUSE_STATUS_INCLOST = true) ∧
    (∃ (s : State), s.dev.inReset = false ∧ 8 ≤ s.dev.posx.fuse.misses ∧ s.dev.posx.fuse.seeded = true) :=
  ⟨⟨afterReset fun d => { d with posx := { d.posx with fuse := { seeded := true, noAcc := 8, off := 3 } } }, by decide +kernel⟩,
   ⟨afterReset fun d => { (((d.setFlag F.POSX_FUSE_STATUS_ABSLOST true).setFld F.POSX_FUSE_CFG_REJECT 10).setFld F.POSX_FUSE_CFG_CORRMAX 50).settled with posx := { d.posx with fuse := { lastE := 70, recov := List.replicate 16 70 } } }, by decide +kernel⟩,
   ⟨afterReset fun d => { (d.setFlag F.POSX_FUSE_CFG_EN true).settled with posx := { d.posx with fuse := { illSlow := 8 } } }, by decide +kernel⟩,
   ⟨afterReset fun d => d.setFlag F.POSX_FUSE_STATUS_INCLOST true, by decide +kernel⟩,
   ⟨afterReset fun d => { d.setFlag F.POSX_FUSE_STATUS_VALID true with posx := { d.posx with fuse := { misses := 8, seeded := true } } }, by decide +kernel⟩⟩

theorem witness_LatchCapturesAndReports :
    (∃ (s : State) (n : Fin 16) (src : Fin 86) (rising : Bool) (held : Nat), s.dev.inReset = false ∧ latchTakes s.dev n src rising = true ∧ s.dev.srcFilter src.val ≤ held ∧ s.dev.flag (F.CMPL_LAT_STATUS_FULL n.val) = false) ∧
    (∃ (s : State) (n : Fin 16) (src : Fin 86) (rising : Bool) (held : Nat), s.dev.inReset = false ∧ latchTakes s.dev n src rising = true ∧ s.dev.srcFilter src.val ≤ held ∧ s.dev.flag (F.CMPL_LAT_STATUS_FULL n.val) = true ∧ s.dev.flagF (F.CMPL_LAT_CFG_MODE n.val) = false) ∧
    (∃ (s : State) (src : Fin 86) (held : Nat), s.dev.inReset = false ∧ held < s.dev.srcFilter src.val) ∧
    (∃ (s : State) (m : Master) (n : Fin 16), s.dev.inReset = false ∧ s.dev.mayUse m (R.CMPL_LAT_CTRL n.val) = true ∧ s.dev.latOwned n.val = false ∧ s.dev.flagF (F.CMPL_LAT_CFG_EN n.val) = true ∧ s.dev.fldF (F.CMPL_LAT_CFG_SRC n.val) = 127 ∧ s.dev.flag (F.CMPL_LAT_STATUS_FULL n.val) = false) ∧
    (∃ (s : State) (n : Fin 16) (c : Capture), s.dev.inReset = false ∧ (s.dev.cmpl.lat[n]).pend = some c ∧ c.ns < s.dev.tick * 125000 ∧ ((n.val < 12 ∨ s.dev.od? 0x2105 5 ≠ 1))) :=
  ⟨⟨afterReset fun d => { ((((d.setFlag (F.CMPL_LAT_CFG_EN 2) true).setFld (F.CMPL_LAT_CFG_EDGE 2) 1)).setFld (F.CMPL_LAT_CFG_SRC 2) 81).settled with now := 300 }, 2, 81, true, 30, by decide +kernel⟩,
   ⟨afterReset fun d => (((((d.setFlag (F.CMPL_LAT_CFG_EN 2) true).setFld (F.CMPL_LAT_CFG_EDGE 2) 1)).setFld (F.CMPL_LAT_CFG_SRC 2) 81).setFlag (F.CMPL_LAT_STATUS_FULL 2) true).settled, 2, 81, true, 30, by decide +kernel⟩,
   ⟨State.reset, 81, 0, by decide +kernel⟩,
   ⟨afterReset fun d => (((((d.setFlag (F.CMPL_LAT_CFG_EN 2) true).setFld (F.CMPL_LAT_CFG_EDGE 2) 1)).setFld (F.CMPL_LAT_CFG_SRC 2) 81).setFld (F.CMPL_LAT_CFG_SRC 2) 127).settled, 2, 2, by decide +kernel⟩,
   ⟨afterReset fun d => { d with now := 50000, cmpl := { d.cmpl with lat := d.cmpl.lat.set 2 { pend := some { ns := 77, count := -9, dir := true, rising := true, turns := 0 } } } }, 2, { ns := 77, count := -9, dir := true, rising := true, turns := 0 }, by decide +kernel⟩⟩

theorem witness_LearningRunLegs :
    (∃ (s : State) (c : Client), s.dev.inReset = false ∧ (s.dev.writeCheck c 0x2107 1 [1]).1 = 0 ∧ s.dev.learnMay = true ∧ s.dev.od? 0x2109 1 ≠ 0xFF ∧ s.dev.od? 0x2109 2 ≠ 0xFF ∧ s.dev.odI 0x2104 1 < s.dev.odI 0x2104 4) ∧
    (∃ (s : State) (c : Client), s.dev.inReset = false ∧ (s.dev.writeCheck c 0x2107 1 [0]).1 = 0 ∧ s.dev.cmpl.learn.leg ≠ 0 ∧ s.dev.cmpl.learn.verify = false) ∧
    (∃ (s : State), s.dev.inReset = false ∧ s.dev.cmpl.learn.leg = 1 ∧ s.dev.cmpl.learn.started = true ∧ s.dev.cmpl.learn.bad = false ∧ s.dev.cmpl.learn.swLow ≠ none ∧ s.dev.pgState = 0 ∧ s.dev.atRest = true) ∧
    (∃ (s : State), s.dev.inReset = false ∧ s.dev.cmpl.learn.leg = 2 ∧ s.dev.cmpl.learn.started = true ∧ s.dev.cmpl.learn.bad = false ∧ s.dev.cmpl.learn.swHigh ≠ none ∧ s.dev.cmpl.learn.verify = false ∧ s.dev.pgState = 0 ∧ s.dev.atRest = true ∧ s.dev.cmpl.learn.found.length = s.dev.landings) ∧
    (∃ (s : State) (c : Client) (crc : Word), s.dev.inReset = false ∧ (s.dev.writeCheck c 0x2105 4 (leBytes 4 crc.toNat)).1 = 0 ∧ s.dev.cmpl.candOk = true ∧ crc.toNat = s.dev.candCrc) :=
  ⟨⟨afterReset fun d => { ((d.setFld F.PRES_STATUS_LEVEL 2).setFld F.PGEN_STATUS_MODE 3) with od := [(odKey 0x2109 1, 1), (odKey 0x2109 2, 2), (odKey 0x2104 1, 1000), (odKey 0x2104 4, 9000)] }, .loc 2, by decide +kernel⟩,
   ⟨afterReset fun d => { ((d.setFld F.PRES_STATUS_LEVEL 2).setFld F.PGEN_STATUS_STATE 2) with cmpl := { d.cmpl with learn := { leg := 1 } } }, .loc 2, by decide +kernel⟩,
   ⟨afterReset fun d => { d with cmpl := { d.cmpl with learn := { leg := 1, started := true, stopped := true, swLow := some 44 } } }, by decide +kernel⟩,
   ⟨afterReset fun d => { ({ d with od := [(odKey 0x2100 0, 2), (odKey 0x2100 1, 2)] } : Dev) with cmpl := { d.cmpl with learn := { leg := 2, started := true, stopped := true, swHigh := some 44, found := [5, 6] } } }, by decide +kernel⟩,
   ⟨afterReset fun d => { (d.setFld F.PRES_STATUS_LEVEL 2) with cmpl := { d.cmpl with candOk := true } }, .loc 2, BitVec.ofNat 32 State.reset.dev.candCrc, by decide +kernel⟩⟩

theorem witness_PgenCommands :
    (∃ (s : State) (m : Master) (target : Word) (postgt : Bool), s.dev.inReset = false ∧ s.dev.mayUse m R.PGEN_CMD = true ∧ s.dev.goCheck m target postgt = none ∧ s.dev.atRest = true ∧ ((s.dev.pgState ∈ [0, 1, 4] ∨ (s.dev.pgState = 5 ∧ s.dev.pgen.relWait = true))) ∧ s.dev.sout.ttStep = 0 ∧ ((s.dev.bothRun = false ∨ (if postgt then target.toInt else s.dev.landTarget target.toNat) ≠ s.dev.rdI R.POSX_FUSE_POS))) ∧
    (∃ (s : State) (m : Master) (target : Word) (postgt : Bool), s.dev.inReset = false ∧ s.dev.mayUse m R.PGEN_CMD = true ∧ s.dev.goCheck m target postgt = none ∧ s.dev.goAhead (if postgt then target.toInt else s.dev.landTarget target.toNat) = none ∧ s.dev.pgState = 2 ∧ s.dev.bothRun = true ∧ s.dev.sout.ttStep = 0) ∧
    (∃ (s : State) (m : Master) (target : Word) (postgt : Bool), s.dev.inReset = false ∧ s.dev.mayUse m R.PGEN_CMD = true ∧ s.dev.goCheck m target postgt = none ∧ s.dev.atRest = true ∧ s.dev.pgState ∈ [0, 1, 4] ∧ s.dev.sout.ttStep = 0 ∧ s.dev.bothRun = true ∧ (if postgt then target.toInt else s.dev.landTarget target.toNat) = s.dev.rdI R.POSX_FUSE_POS ∧ (makePlan s.dev.limits s.dev.passenger s.dev.tick (metres (s.dev.rdI R.POSX_FUSE_POS)) ⟨0, 0⟩ ⟨0, 0⟩ (s.dev.rdI R.POSX_FUSE_POS)).ended s.dev.tick = true) ∧
    (∃ (s : State) (m : Master) (target : Word) (postgt : Bool) (c : Nat), s.dev.inReset = false ∧ s.dev.mayUse m R.PGEN_CMD = true ∧ s.dev.goCheck m target postgt = some c) ∧
    (∃ (s : State) (m : Master), s.dev.inReset = false ∧ s.dev.mayUse m R.PGEN_CMD = true ∧ s.dev.quarBars m = false ∧ ((s.dev.pgState = 2 ∨ (s.dev.pgState = 5 ∧ s.dev.pgen.relWait = false)))) ∧
    (∃ (s : State) (m : Master), s.dev.inReset = false ∧ s.dev.mayUse m R.PGEN_CMD = true ∧ s.dev.quarBars m = false ∧ ((s.dev.pgState ∈ [0, 1, 4] ∨ (s.dev.pgState = 5 ∧ s.dev.pgen.relWait = true)))) ∧
    (∃ (s : State) (m : Master), s.dev.inReset = false ∧ s.dev.mayUse m R.PGEN_CMD = true ∧ s.dev.resumeCheck m false = none ∧ s.dev.sout.ttStep = 0) ∧
    (∃ (s : State) (m : Master), s.dev.inReset = false ∧ s.dev.mayUse m R.PGEN_CMD = true ∧ s.dev.resumeCheck m true = none ∧ s.dev.sout.ttStep = 0) ∧
    (∃ (s : State) (m : Master) (code : Word), s.dev.inReset = false ∧ s.dev.mayUse m R.PGEN_CMD = true ∧ s.dev.quarBars m = false ∧ s.dev.pgState ∈ [0, 4] ∧ (code.toNat ≤ 3 ∨ (code.toNat = 4 ∧ s.dev.carEmpty = true ∧ s.dev.doorsShut = true))) ∧
    (∃ (s : State) (m : Master) (op : Fin 16), s.dev.inReset = false ∧ s.dev.mayUse m R.PGEN_CMD = true ∧ s.dev.quarBars m = false ∧ op.val ∉ [1, 2, 3, 4, 5, 6]) :=
  ⟨⟨afterReset fun d => { (d.setFlag F.POSX_FUSE_STATUS_VALID true).setFld F.PGEN_STATUS_MODE 1 with cmpl := { d.cmpl with accHigh := 9000 } }, 1, 77, true, by decide +kernel⟩,
   ⟨afterReset fun d => { (((d.setFlag F.POSX_FUSE_STATUS_VALID true).setFld F.PGEN_STATUS_MODE 1).setFld F.PGEN_STATUS_STATE 2) with cmpl := { d.cmpl with accHigh := 9000 }, chA := { d.chA with state := 0 }, chB := { d.chB with state := 0 }, pgen := { d.pgen with v := F64.ofInt 1 } }, 1, 77, true, by decide +kernel⟩,
   ⟨afterReset fun d => { ((d.setFlag F.POSX_FUSE_STATUS_VALID true).setFld F.PGEN_STATUS_MODE 1).wr R.POSX_FUSE_POS 77 with cmpl := { d.cmpl with accHigh := 9000 }, chA := { d.chA with state := 0 }, chB := { d.chB with state := 0 } }, 1, 77, true, by decide +kernel⟩,
   ⟨State.reset, 1, 77, true, 0x16, by decide +kernel⟩,
   ⟨afterReset fun d => { d.setFld F.PGEN_STATUS_STATE 2 with pgen := { d.pgen with tgt := some 5 } }, 1, by decide +kernel⟩,
   ⟨afterReset fun d => { d.setFld F.PGEN_STATUS_STATE 4 with pgen := { d.pgen with tgt := some 5, levTgt := some 5 } }, 1, by decide +kernel⟩,
   ⟨afterReset fun d => { ((d.setFlag F.POSX_FUSE_STATUS_VALID true).setFld F.PGEN_STATUS_STATE 4).setFlag F.PGEN_STATUS_SAFESTOP false with chA := { d.chA with state := 0 }, chB := { d.chB with state := 0 }, pgen := { d.pgen with tgt := some 5 } }, 1, by decide +kernel⟩,
   ⟨afterReset fun d => { ((d.setFlag F.POSX_FUSE_STATUS_VALID true).setFld F.PGEN_STATUS_STATE 4).setFlag F.PGEN_STATUS_SAFESTOP true with chA := { d.chA with state := 0 }, chB := { d.chB with state := 0 }, pgen := { d.pgen with tgt := some 5 } }, 1, by decide +kernel⟩,
   ⟨State.reset, 1, 2, by decide +kernel⟩,
   ⟨State.reset, 1, 9, by decide +kernel⟩⟩

theorem witness_TripStartsAndEnds :
    (∃ (s : State) (t : Int), s.dev.inReset = false ∧ s.dev.pgState = 1 ∧ s.dev.missing = 0 ∧ s.dev.flag F.POSX_FUSE_STATUS_STALE = false ∧ s.dev.pgen.tgt = some t) ∧
    (∃ (s : State), s.dev.inReset = false ∧ s.dev.pgWaits = true ∧ s.dev.missing ≠ 0 ∧ s.dev.pgen.since + s.dev.od? 0x2200 4 * 400000 ≤ s.dev.now) ∧
    (∃ (s : State) (pl : Plan), s.dev.inReset = false ∧ ((s.dev.pgState = 2 ∨ (s.dev.pgState = 5 ∧ s.dev.pgen.relWait = false))) ∧ s.dev.pgen.plan = some pl ∧ pl.ended s.dev.tick = true) ∧
    (∃ (s : State) (pl : Plan), s.dev.inReset = false ∧ s.dev.pgState = 3 ∧ s.dev.pgen.plan = some pl ∧ pl.ended s.dev.tick = true) :=
  ⟨⟨afterReset fun d => { ((d.setFld F.PGEN_STATUS_STATE 1).setFld F.SOUT_STATUS_SEQ 3).setFld F.SOUT_STATUS_BRKREL 3 with chA := { d.chA with state := 0, chain := 7 }, chB := { d.chB with state := 0, chain := 7 }, od := [(odKey 0x2211 1, 3)], pgen := { d.pgen with tgt := some 5 } }, 5, by decide +kernel⟩,
   ⟨afterReset fun d => { d.setFld F.PGEN_STATUS_STATE 1 with now := 50000000000 }, by decide +kernel⟩,
   ⟨afterReset fun d => { d.setFld F.PGEN_STATUS_STATE 2 with pgen := { d.pgen with tgt := some 7, plan := some { t0 := 0, p := ⟨0, 0⟩, v := ⟨0, 0⟩, a := ⟨0, 0⟩, segs := [], total := ⟨0, 0⟩, vp := ⟨0, 0⟩, endP := ⟨7, -1⟩, target := 7 } } }, { t0 := 0, p := ⟨0, 0⟩, v := ⟨0, 0⟩, a := ⟨0, 0⟩, segs := [], total := ⟨0, 0⟩, vp := ⟨0, 0⟩, endP := ⟨7, -1⟩, target := 7 }, by decide +kernel⟩,
   ⟨afterReset fun d => { d.setFld F.PGEN_STATUS_STATE 3 with pgen := { d.pgen with tgt := some 7, plan := some { t0 := 0, p := ⟨0, 0⟩, v := ⟨0, 0⟩, a := ⟨0, 0⟩, segs := [], total := ⟨0, 0⟩, vp := ⟨0, 0⟩, endP := ⟨7, -1⟩, target := 7 } } }, { t0 := 0, p := ⟨0, 0⟩, v := ⟨0, 0⟩, a := ⟨0, 0⟩, segs := [], total := ⟨0, 0⟩, vp := ⟨0, 0⟩, endP := ⟨7, -1⟩, target := 7 }, by decide +kernel⟩⟩

theorem witness_RelevelAndDrive :
    (∃ (s : State) (t0 : Nat) (t : Int), s.dev.inReset = false ∧ s.dev.pgen.relSince = some t0 ∧ s.dev.pgen.levTgt = some t ∧ s.dev.pgen.levLand.isSome = true ∧ s.dev.od? 0x2202 5 = 1 ∧ s.dev.pgState = 0 ∧ s.dev.doorOpen = true ∧ s.dev.par 0x2704 3 ≠ 0 ∧ (s.dev.od? 0x2202 2 : Int) < |s.dev.rdI R.POSX_FUSE_POS - t| ∧ t0 + s.dev.od? 0x2202 3 * 400000 ≤ s.dev.now) ∧
    (∃ (s : State), s.dev.inReset = false ∧ ((s.dev.pgWaits = true ∨ s.dev.driveEnabled = true)) ∧ s.dev.pgen.reqDrive = false ∧ s.dev.pgen.driveAt + s.dev.od? 0x2210 7 * 400000 ≤ s.dev.now) ∧
    (∃ (s : State), s.dev.inReset = false ∧ s.dev.od? 0x2210 6 = 0 ∧ s.dev.tick % s.dev.od? 0x2210 5 = 0 ∧ s.dev.fld (F.CANX_CFG_MODE 1) ≠ 0 ∧ s.dev.fld (F.CANX_STATUS_NMT 1) = 2 ∧ s.dev.flag (F.CANX_STATUS_BUSOFF 1) = false) :=
  ⟨⟨afterReset fun d => { d.setFlag (F.DOOR_MSTAT_LEARNED 0) true with now := 50000000000, od := [(odKey 0x2202 5, 1)], pgen := { d.pgen with relSince := some 0, levTgt := some 99999999, levLand := some 2 } }, 0, 99999999, by decide +kernel⟩,
   ⟨afterReset fun d => { d.setFld F.PGEN_STATUS_STATE 1 with now := 50000000000 }, by decide +kernel⟩,
   ⟨afterReset fun d => (d.setFld (F.CANX_CFG_MODE 1) 1).setFld (F.CANX_STATUS_NMT 1) 2, by decide +kernel⟩⟩

theorem witness_LoopSlots :
    (∃ (s : State), s.dev.inReset = false ∧ 2 ≤ s.dev.fld (F.CENG_SLOT_OVR_CONSEC 0) ∧ s.dev.fld (F.CENG_SLOT_OVR_CONSEC 0) < 8 ∧ (s.dev.ceng.slot[0]).reqC = false) ∧
    (∃ (s : State), s.dev.inReset = false ∧ 8 ≤ s.dev.fld (F.CENG_SLOT_OVR_CONSEC 0) ∧ (s.dev.ceng.slot[0]).reqI = false) ∧
    (∃ (s : State) (k : Fin 2), s.dev.inReset = false ∧ 8 ≤ s.dev.fld (F.CENG_SLOT_OVR_CONSEC (1 + k.val)) ∧ (s.dev.ceng.slot[(⟨1 + k.val, by omega⟩ : Fin 16)]).reqI = false) ∧
    (∃ (s : State) (n : Fin 16) (t0 : Nat), s.dev.inReset = false ∧ (s.dev.ceng.slot[n]).feW = some t0 ∧ s.dev.flagF (F.CENG_SLOT_CFG_FEEN n.val) = true ∧ s.dev.flag (F.CENG_SLOT_STATUS_RAN n.val) = true ∧ (s.dev.ceng.slot[n]).tripW = false ∧ t0 + s.dev.fldF (F.CENG_SLOT_FE_TIME_WARN n.val) * 400000 ≤ s.dev.tick * 50000) ∧
    (∃ (s : State) (n : Fin 16) (t0 : Nat), s.dev.inReset = false ∧ (s.dev.ceng.slot[n]).feS = some t0 ∧ s.dev.flagF (F.CENG_SLOT_CFG_FEEN n.val) = true ∧ s.dev.flag (F.CENG_SLOT_STATUS_RAN n.val) = true ∧ (s.dev.ceng.slot[n]).tripS = false ∧ t0 + s.dev.fldF (F.CENG_SLOT_FE_TIME_STOP n.val) * 400000 ≤ s.dev.tick * 50000) ∧
    (∃ (s : State) (m : Master) (n : Fin 16) (val : Word), s.dev.inReset = false ∧ s.dev.mayUse m (R.CENG_SLOT_CFG n.val) = true ∧ ((let w := s.dev.cfgWritten n.val val; worstLoad (fun k => if k = n.val then w else s.dev.rd (R.CENG_SLOT_CFG k)) ≤ 24000 ∧ (n.val ≤ 2 ∨ w.toNat / 2 ^ 19 % 64 < 2 ^ (w.toNat / 2 ^ 25 % 8)) ∧ (cfgEn w = true → cfgEn (s.dev.rd (R.CENG_SLOT_CFG n.val)) = false → s.dev.bankBad n.val (s.dev.bankAct n.val) = false)))) ∧
    (∃ (s : State) (m : Master) (n : Fin 16) (val : Word), s.dev.inReset = false ∧ s.dev.mayUse m (R.CENG_SLOT_CFG n.val) = true ∧ cfgEn val = true ∧ cfgEn (s.dev.rd (R.CENG_SLOT_CFG n.val)) = false ∧ n.val ≤ 2 ∧ 24000 < worstLoad (fun k => if k = n.val then s.dev.cfgWritten n.val val else s.dev.rd (R.CENG_SLOT_CFG k))) ∧
    (∃ (s : State) (m : Master), s.dev.inReset = false ∧ s.dev.mayUse m R.CENG_BANKSEL = true) ∧
    (∃ (s : State) (n : Fin 16), s.dev.inReset = false ∧ s.dev.swapWanted n.val = true ∧ s.dev.flag (F.CENG_SLOT_STATUS_RAN n.val) = false ∧ (s.dev.ceng.slot[n]).held = false ∧ cfgEn (s.dev.rdF (R.CENG_SLOT_CFG n.val)) = true ∧ slotDueIn n.val (s.dev.rdF (R.CENG_SLOT_CFG n.val)) (s.dev.tick % 64) = true ∧ s.dev.missed 4 = false ∧ (s.dev.slotInputs n).isSome = true ∧ s.dev.bankBad n.val (1 - s.dev.bankAct n.val) = false) ∧
    (∃ (s : State) (n : Fin 16), s.dev.inReset = false ∧ s.dev.swapWanted n.val = true ∧ s.dev.flag (F.CENG_SLOT_STATUS_RAN n.val) = false ∧ (s.dev.ceng.slot[n]).held = false ∧ cfgEn (s.dev.rdF (R.CENG_SLOT_CFG n.val)) = false ∧ s.dev.bankBad n.val (1 - s.dev.bankAct n.val) = true) :=
  ⟨⟨afterReset fun d => d.setFld (F.CENG_SLOT_OVR_CONSEC 0) 3, by decide +kernel⟩,
   ⟨afterReset fun d => d.setFld (F.CENG_SLOT_OVR_CONSEC 0) 9, by decide +kernel⟩,
   ⟨afterReset fun d => (d.setFld (F.CENG_SLOT_OVR_CONSEC 2) 9).setFlag (F.DOOR_STATUS_DRVEN 1) true, 1, by decide +kernel⟩,
   ⟨afterReset fun d => { ((d.setFlag (F.CENG_SLOT_CFG_FEEN 4) true).setFlag (F.CENG_SLOT_STATUS_RAN 4) true).settled with now := 90000000000, ceng := { d.ceng with slot := d.ceng.slot.set 4 { feW := some 0, feS := some 0 } } }, 4, 0, by decide +kernel⟩,
   ⟨afterReset fun d => { ((d.setFlag (F.CENG_SLOT_CFG_FEEN 4) true).setFlag (F.CENG_SLOT_STATUS_RAN 4) true).settled with now := 90000000000, ceng := { d.ceng with slot := d.ceng.slot.set 4 { feW := some 0, feS := some 0 } } }, 4, 0, by decide +kernel⟩,
   ⟨State.reset, 1, 4, 0x80000000, by decide +kernel⟩,
   ⟨afterReset fun d => (List.range 16).foldl (fun e n => if n = 0 then e else e.setFlag (F.CENG_SLOT_CFG_EN n) true) d, 1, 0, 0x80000000, by decide +kernel⟩,
   ⟨State.reset, 1, by decide +kernel⟩,
   ⟨afterReset fun d => (((d.setFlag (F.CENG_SLOT_CFG_EN 0) true).setBit R.CENG_BANKSEL 0).wrN (R.CENG_SLOT_SRC 0) 0).settled, 0, by decide +kernel⟩,
   ⟨afterReset fun d => ((d.setBit R.CENG_BANKSEL 3).wrI (R.CENG_SLOT_OUTMIN_A 3 + 32) 2147483647).settled, 3, by decide +kernel⟩⟩

theorem witness_CarrierPeriodGates :
    (∃ (s : State) (k : Fin 2), s.dev.inReset = false ∧ s.dev.flag (F.DOOR_STATUS_DRVEN k.val) = false ∧ s.dev.flag (F.DOOR_CTRL_EN k.val) = false ∧ (s.dev.doors[k]).ovShort = false) ∧
    (∃ (s : State) (k : Fin 2) (adc : CarrierAdc), s.dev.inReset = false ∧ s.dev.flag (F.DOOR_STATUS_DRVEN k.val) = true ∧ (s.dev.doors[k]).ovShort = false ∧ sampleFine s.dev k adc = true ∧ (s.dev.doors[k]).boot = true) ∧
    (∃ (s : State) (k : Fin 2) (adc : CarrierAdc), s.dev.inReset = false ∧ s.dev.flag (F.DOOR_STATUS_DRVEN k.val) = true ∧ (s.dev.doors[k]).ovShort = false ∧ sampleFine s.dev k adc = true ∧ (s.dev.doors[k]).boot = false) :=
  ⟨⟨State.reset, 1, by decide +kernel⟩,
   ⟨afterReset fun d => { (((((d.setFlag (F.DOOR_STATUS_DRVEN 1) true).wrN (R.DOOR_IMAX 1) 9000).wrN (R.DOOR_VDCMAX 1) 90000).wrN (R.DOOR_VDCMIN 1) 0)).settled with doors := d.doors.set 1 { boot := true } }, 1, { iu := 8192, iv := 8192, iw := 8192, vdc := 100 }, by decide +kernel⟩,
   ⟨afterReset fun d => { (((((d.setFlag (F.DOOR_STATUS_DRVEN 1) true).wrN (R.DOOR_IMAX 1) 9000).wrN (R.DOOR_VDCMAX 1) 90000).wrN (R.DOOR_VDCMIN 1) 0).wrN (R.DOOR_VDC 1) 48000).settled with doors := d.doors.set 1 { boot := false } }, 1, { iu := 8192, iv := 8192, iw := 8192, vdc := 100 }, by decide +kernel⟩⟩

theorem witness_BridgeFaultAndAlignment :
    (∃ (s : State) (k : Fin 2), s.dev.inReset = false ∧ s.dev.flag (F.DOOR_STATUS_BRFLT k.val) = false) ∧
    (∃ (s : State) (m : Master) (k : Fin 2), s.dev.inReset = false ∧ s.dev.mayUse m (R.DOOR_STATUS k.val) = true) ∧
    (∃ (s : State) (m : Master) (k : Fin 2), s.dev.inReset = false ∧ s.dev.mayUse m (R.DOOR_CTRL k.val) = true ∧ s.dev.quarBars m = false ∧ s.dev.flag (F.DOOR_STATUS_DRVEN k.val) = true ∧ (s.dev.doors[k]).alStep = 0) ∧
    (∃ (s : State) (k : Fin 2), s.dev.inReset = false ∧ (s.dev.doors[k]).alStep = 1 ∧ (s.dev.doors[k]).alAt + 120000000 ≤ s.dev.now) ∧
    (∃ (s : State) (k : Fin 2), s.dev.inReset = false ∧ (s.dev.doors[k]).alStep = 2 ∧ (s.dev.doors[k]).alAt + 120000000 ≤ s.dev.now) :=
  ⟨⟨afterReset fun d => (d.setFlag (F.DOOR_STATUS_DRVEN 1) true).setFld (F.DOOR_MSTAT_STATE 1) 3, 1, by decide +kernel⟩,
   ⟨afterReset fun d => d.setFlag (F.DOOR_STATUS_BRFLT 1) true, 1, 1, by decide +kernel⟩,
   ⟨afterReset fun d => d.setFlag (F.DOOR_STATUS_DRVEN 1) true, 1, 1, by decide +kernel⟩,
   ⟨afterReset fun d => { (({ d with now := 200000000 } : Dev)).settled with doors := d.doors.set 1 { alStep := 1 } }, 1, by decide +kernel⟩,
   ⟨afterReset fun d => { (({ d with now := 200000000 } : Dev)).settled with doors := d.doors.set 1 { alStep := 2 } }, 1, by decide +kernel⟩⟩

theorem witness_DoorMoves :
    (∃ (s : State) (m : Master) (k : Fin 2), s.dev.inReset = false ∧ s.dev.mayUse m (R.DOOR_MOVE k.val) = true ∧ s.dev.sout.ttStep = 0 ∧ s.dev.doorCheck m k 1 0 = none) ∧
    (∃ (s : State) (m : Master) (k : Fin 2), s.dev.inReset = false ∧ s.dev.mayUse m (R.DOOR_MOVE k.val) = true ∧ s.dev.sout.ttStep = 0 ∧ s.dev.doorCheck m k 2 0 = none) ∧
    (∃ (s : State) (m : Master) (k : Fin 2) (mtgt : Word), s.dev.inReset = false ∧ s.dev.mayUse m (R.DOOR_MOVE k.val) = true ∧ s.dev.sout.ttStep = 0 ∧ s.dev.doorCheck m k 3 mtgt = none) ∧
    (∃ (s : State) (m : Master) (k : Fin 2) (x : Int), s.dev.inReset = false ∧ s.dev.mayUse m (R.DOOR_MOVE k.val) = true ∧ s.dev.sout.ttStep = 0 ∧ s.dev.doorCheck m k 5 0 = none ∧ s.dev.flag (F.DOOR_MSTAT_KEPT k.val) = true ∧ (s.dev.motion[k]).tgt = some x) ∧
    (∃ (s : State) (m : Master) (k : Fin 2), s.dev.inReset = false ∧ s.dev.mayUse m (R.DOOR_MOVE k.val) = true ∧ s.dev.sout.ttStep = 0 ∧ s.dev.doorCheck m k 6 0 = none) ∧
    (∃ (s : State) (m : Master) (k : Fin 2), s.dev.inReset = false ∧ s.dev.mayUse m (R.DOOR_MOVE k.val) = true ∧ s.dev.doorCheck m k 4 0 = none ∧ s.dev.mState k ∈ [3, 4, 7]) ∧
    (∃ (s : State) (m : Master) (k : Fin 2), s.dev.inReset = false ∧ s.dev.mayUse m (R.DOOR_MOVE k.val) = true ∧ s.dev.doorCheck m k 7 0 = none ∧ s.dev.mState k ≠ 8) ∧
    (∃ (s : State) (m : Master) (k : Fin 2), s.dev.inReset = false ∧ s.dev.mayUse m (R.DOOR_MOVE k.val) = true ∧ s.dev.doorCheck m k 8 0 = none) ∧
    (∃ (s : State) (m : Master) (k : Fin 2) (op : Fin 16), s.dev.inReset = false ∧ s.dev.mayUse m (R.DOOR_MOVE k.val) = true ∧ s.dev.doorBarred m = false ∧ (op.val = 0 ∨ 8 < op.val)) ∧
    (∃ (s : State) (m : Master) (k : Fin 2) (c : Nat), s.dev.inReset = false ∧ s.dev.mayUse m (R.DOOR_MOVE k.val) = true ∧ s.dev.doorCheck m k 1 0 = some c) ∧
    (∃ (s : State) (k : Fin 2) (c : Nat), s.dev.inReset = false ∧ s.dev.mState k ∈ [3, 4] ∧ (s.dev.motion[k]).tgt = some 0 ∧ (s.dev.motion[k]).slowAt = some c ∧ c + 40000000 ≤ s.dev.now) ∧
    (∃ (s : State) (k : Fin 2) (c : Nat), s.dev.inReset = false ∧ s.dev.mState k ∈ [3, 4] ∧ (s.dev.motion[k]).tgt = some (s.dev.stroke k) ∧ s.dev.stroke k ≠ 0 ∧ (s.dev.motion[k]).slowAt = some c ∧ c + 40000000 ≤ s.dev.now) ∧
    (∃ (s : State) (k : Fin 2) (c : Nat), s.dev.inReset = false ∧ s.dev.mState k ∈ [1, 2] ∧ (s.dev.motion[k]).stillAt = some c ∧ c + s.dev.dod k 1 7 * 400000 ≤ s.dev.now) ∧
    (∃ (s : State) (k : Fin 2) (c : Fin 5), s.dev.inReset = false ∧ s.dev.mState k = 4 ∧ s.dev.critTripped k c = true) ∧
    (∃ (s : State) (k : Fin 2) (c : Fin 5), s.dev.inReset = false ∧ s.dev.mState k = 3 ∧ s.dev.critTripped k c = true) ∧
    (∃ (s : State) (k : Fin 2), s.dev.inReset = false ∧ s.dev.mState k = 7 ∧ (s.dev.motion[k]).vr = 0) ∧
    (∃ (s : State) (k : Fin 2), s.dev.inReset = false ∧ s.dev.mState k = 5 ∧ (s.dev.motion[k]).vr = 0) ∧
    (∃ (s : State) (k : Fin 2), s.dev.inReset = false ∧ s.dev.mState k = 4 ∧ s.dev.nudging k = false ∧ s.dev.curtainOn k = true) :=
  ⟨⟨afterReset fun d => { ((((d.setFlag (F.DOOR_STATUS_DRVEN 1) true).setFlag (F.DOOR_STATUS_POSVALID 1) true).setFlag (F.DOOR_MSTAT_LEARNED 1) true).setFlag (F.DOOR_ZONE_OPENOK 1) true) with od := [(odKey 0x2310 1, 900000)], motion := d.motion.set 1 {  } }, 1, 1, by decide +kernel⟩,
   ⟨afterReset fun d => { ((((d.setFlag (F.DOOR_STATUS_DRVEN 1) true).setFlag (F.DOOR_STATUS_POSVALID 1) true).setFlag (F.DOOR_MSTAT_LEARNED 1) true).setFlag (F.DOOR_ZONE_OPENOK 1) true) with od := [(odKey 0x2310 1, 900000)], motion := d.motion.set 1 { xr := 500 } }, 1, 1, by decide +kernel⟩,
   ⟨afterReset fun d => { ((((d.setFlag (F.DOOR_STATUS_DRVEN 1) true).setFlag (F.DOOR_STATUS_POSVALID 1) true).setFlag (F.DOOR_MSTAT_LEARNED 1) true).setFlag (F.DOOR_ZONE_OPENOK 1) true) with od := [(odKey 0x2310 1, 900000)], motion := d.motion.set 1 { xr := 500 } }, 1, 1, 800, by decide +kernel⟩,
   ⟨afterReset fun d => { ((((d.setFlag (F.DOOR_STATUS_DRVEN 1) true).setFlag (F.DOOR_STATUS_POSVALID 1) true).setFlag (F.DOOR_MSTAT_LEARNED 1) true).setFlag (F.DOOR_ZONE_OPENOK 1) true).setFlag (F.DOOR_MSTAT_KEPT 1) true with od := [(odKey 0x2310 1, 900000)], motion := d.motion.set 1 { xr := 500, tgt := some 0 } }, 1, 1, 0, by decide +kernel⟩,
   ⟨afterReset fun d => { ((((d.setFlag (F.DOOR_STATUS_DRVEN 1) true).setFlag (F.DOOR_STATUS_POSVALID 1) true).setFlag (F.DOOR_MSTAT_LEARNED 1) true).setFlag (F.DOOR_ZONE_OPENOK 1) true) with od := [(odKey 0x2310 1, 900000)], motion := d.motion.set 1 { xr := 500 } }, 1, 1, by decide +kernel⟩,
   ⟨afterReset fun d => { ((((d.setFlag (F.DOOR_STATUS_DRVEN 1) true).setFlag (F.DOOR_STATUS_POSVALID 1) true).setFlag (F.DOOR_MSTAT_LEARNED 1) true).setFlag (F.DOOR_ZONE_OPENOK 1) true).setFld (F.DOOR_MSTAT_STATE 1) 4 with od := [(odKey 0x2310 1, 900000)], motion := d.motion.set 1 { xr := 500 } }, 1, 1, by decide +kernel⟩,
   ⟨afterReset fun d => { ((((d.setFlag (F.DOOR_STATUS_DRVEN 1) true).setFlag (F.DOOR_STATUS_POSVALID 1) true).setFlag (F.DOOR_MSTAT_LEARNED 1) true).setFlag (F.DOOR_ZONE_OPENOK 1) true).setFld (F.DOOR_MSTAT_STATE 1) 4 with od := [(odKey 0x2310 1, 900000)], motion := d.motion.set 1 { xr := 500 } }, 1, 1, by decide +kernel⟩,
   ⟨afterReset fun d => { ((((d.setFlag (F.DOOR_STATUS_DRVEN 1) true).setFlag (F.DOOR_STATUS_POSVALID 1) true).setFlag (F.DOOR_MSTAT_LEARNED 1) true).setFlag (F.DOOR_ZONE_OPENOK 1) true).setFld F.PRES_STATUS_LEVEL 1 with od := [(odKey 0x2310 1, 900000)], motion := d.motion.set 1 { xr := 500 } }, 1, 1, by decide +kernel⟩,
   ⟨State.reset, 1, 1, 9, by decide +kernel⟩,
   ⟨State.reset, 1, 1, 0x16, by decide +kernel⟩,
   ⟨afterReset fun d => { ({ (d.wrN (R.DOOR_POS 1) 5000).setFld (F.DOOR_MSTAT_STATE 1) 4 with now := 90000000000 } : Dev) with od := [(odKey 0x2310 1, 900000)], motion := d.motion.set 1 { tgt := some 0, slowAt := some 0, opened := true } }, 1, 0, by decide +kernel⟩,
   ⟨afterReset fun d => { ({ (d.wrN (R.DOOR_POS 1) 5000).setFld (F.DOOR_MSTAT_STATE 1) 3 with now := 90000000000 } : Dev) with od := [(odKey 0x2310 1, 900000)], motion := d.motion.set 1 { tgt := some 900000, slowAt := some 0, opened := true } }, 1, 0, by decide +kernel⟩,
   ⟨afterReset fun d => { ({ (d).setFld (F.DOOR_MSTAT_STATE 1) 1 with now := 90000000000 } : Dev) with od := [(odKey 0x2310 1, 900000)], motion := d.motion.set 1 { stillAt := some 0 } }, 1, 0, by decide +kernel⟩,
   ⟨afterReset fun d => { ({ (d).setFld (F.DOOR_MSTAT_STATE 1) 4 with now := 90000000000 } : Dev) with od := [(odKey 0x2310 1, 900000)], motion := d.motion.set 1 { runs := Vector.replicate 5 99999, tgt := some 0 } }, 1, 4, by decide +kernel⟩,
   ⟨afterReset fun d => { ({ (d).setFld (F.DOOR_MSTAT_STATE 1) 3 with now := 90000000000 } : Dev) with od := [(odKey 0x2310 1, 900000)], motion := d.motion.set 1 { runs := Vector.replicate 5 99999, tgt := some 900000 } }, 1, 1, by decide +kernel⟩,
   ⟨afterReset fun d => { ({ (d).setFld (F.DOOR_MSTAT_STATE 1) 7 with now := 90000000000 } : Dev) with od := [(odKey 0x2310 1, 900000)], motion := d.motion.set 1 { tgt := some 900000 } }, 1, by decide +kernel⟩,
   ⟨afterReset fun d => { ({ (d).setFld (F.DOOR_MSTAT_STATE 1) 5 with now := 90000000000 } : Dev) with od := [(odKey 0x2310 1, 900000)], motion := d.motion.set 1 { tgt := some 900000, stopCode := 5 } }, 1, by decide +kernel⟩,
   ⟨afterReset fun d => { ({ (d).setFld (F.DOOR_MSTAT_STATE 1) 4 with now := 90000000000 } : Dev) with od := [(odKey 0x2310 1, 900000), (odKey 0x2313 1, 0), (odKey 0x2313 2, 0)], motion := d.motion.set 1 { tgt := some 0 } }, 1, by decide +kernel⟩⟩

theorem witness_DoorPermissionsAndLearning :
    (∃ (s : State), s.dev.inReset = false) ∧
    (∃ (s : State), s.dev.inReset = false) ∧
    (∃ (s : State) (m : Master) (k : Fin 2), s.dev.inReset = false ∧ s.dev.mayUse m (R.DOOR_PERMIT k.val) = true ∧ m ≠ 5) ∧
    (∃ (s : State) (k : Fin 2) (c : Nat), s.dev.inReset = false ∧ s.dev.mState k = 8 ∧ (s.dev.motion[k]).slowAt = some c ∧ c + 40000000 ≤ s.dev.now ∧ (s.dev.motion[k]).step = 1) ∧
    (∃ (s : State) (k : Fin 2) (c : Nat), s.dev.inReset = false ∧ s.dev.mState k = 8 ∧ (s.dev.motion[k]).slowAt = some c ∧ c + 40000000 ≤ s.dev.now ∧ (s.dev.motion[k]).step = 5) :=
  ⟨⟨afterReset fun d => { ({ (d.setFlag (F.DOOR_ZONE_OPENOK 1) true).setFld (F.DOOR_MSTAT_STATE 1) 3 with now := 90000000000 } : Dev) with od := [(odKey 0x2310 1, 900000)], motion := d.motion.set 1 { tgt := some 0 } }, by decide +kernel⟩,
   ⟨afterReset fun d => { ({ (d.setFlag (F.DOOR_STATUS_DRVEN 1) true).setFld (F.DOOR_MSTAT_STATE 1) 3 with now := 90000000000 } : Dev) with od := [(odKey 0x2310 1, 900000)], motion := d.motion.set 1 { tgt := some 0 } }, by decide +kernel⟩,
   ⟨State.reset, 3, 1, by decide +kernel⟩,
   ⟨afterReset fun d => { ({ (d.wrN (R.DOOR_POS 1) 5000).setFld (F.DOOR_MSTAT_STATE 1) 8 with now := 90000000000 } : Dev) with od := [(odKey 0x2310 1, 900000)], motion := d.motion.set 1 { step := 1, slowAt := some 0 } }, 1, 0, by decide +kernel⟩,
   ⟨afterReset fun d => { ({ (d.wrN (R.DOOR_POS 1) 5000).setFld (F.DOOR_MSTAT_STATE 1) 8 with now := 90000000000 } : Dev) with od := [(odKey 0x2310 1, 900000)], motion := d.motion.set 1 { step := 5, posDir := 77, slowAt := some 0 } }, 1, 0, by decide +kernel⟩⟩

theorem witness_RingStartsAndEnumerates :
    (∃ (s : State), s.dev.inReset = false ∧ s.dev.rState = 0) ∧
    (∃ (s : State), s.dev.inReset = false ∧ s.dev.rState = 1 ∧ s.dev.ring.syncLeft = 0) ∧
    (∃ (s : State), s.dev.inReset = false ∧ s.dev.rState ≠ 0) ∧
    (∃ (s : State) (c : Client), s.dev.inReset = false ∧ (s.dev.writeCheck c 0x2403 1 [1]).1 = 0 ∧ s.dev.enumCheck = none) ∧
    (∃ (s : State) (c : Client) (val : Word), s.dev.inReset = false ∧ (s.dev.writeCheck c 0x2403 3 (leBytes 4 val.toNat)).1 = 0 ∧ s.dev.enumCheck = none) ∧
    (∃ (s : State) (l : List EnumNode), s.dev.inReset = false ∧ s.dev.rState = 2 ∧ 16 ≤ s.dev.ring.enums.length ∧ s.dev.ring.enums.getLast? = some l) :=
  ⟨⟨State.reset, by decide +kernel⟩,
   ⟨afterReset fun d => d.setFld F.LRING_STATUS_STATE 1, by decide +kernel⟩,
   ⟨afterReset fun d => (d.setFld F.LRING_STATUS_STATE 3).setFlag F.LRING_CTRL_EN true, by decide +kernel⟩,
   ⟨afterReset fun d => (d.setFld F.LRING_STATUS_STATE 3).setFld F.PRES_STATUS_LEVEL 2, .loc 2, by decide +kernel⟩,
   ⟨afterReset fun d => (d.setFld F.LRING_STATUS_STATE 3).setFld F.PRES_STATUS_LEVEL 2, .loc 2, 0x00010101, by decide +kernel⟩,
   ⟨afterReset fun d => { (d.setFld F.LRING_STATUS_STATE 2).wrN (R.LRING_CLASS 0) 0x10000 with ring := { d.ring with enums := List.replicate 16 [{ pos := 1, addr := 3, cls := 1, uid := 7 }] } }, [{ pos := 1, addr := 3, cls := 1, uid := 7 }], by decide +kernel⟩⟩

theorem witness_RingCycles :
    (∃ (s : State), s.dev.inReset = false ∧ s.dev.tick % 8 = 0 ∧ ((s.dev.ring.started = false ∨ s.dev.ring.cycle < s.dev.tick / 8)) ∧ s.dev.ring.open_ = false ∧ s.dev.ring.disable = false ∧ s.dev.rState = 1 ∧ s.dev.ring.syncLeft ≠ 0) ∧
    (∃ (s : State), s.dev.inReset = false ∧ s.dev.tick % 8 = 0 ∧ ((s.dev.ring.started = false ∨ s.dev.ring.cycle < s.dev.tick / 8)) ∧ s.dev.ring.open_ = false ∧ s.dev.ring.disable = false ∧ ((s.dev.rState ∈ [2, 4] ∨ (s.dev.rState = 1 ∧ s.dev.ring.syncLeft = 0)))) ∧
    (∃ (s : State), s.dev.inReset = false ∧ s.dev.tick % 8 = 0 ∧ ((s.dev.ring.started = false ∨ s.dev.ring.cycle < s.dev.tick / 8)) ∧ s.dev.ring.open_ = false ∧ s.dev.ring.disable = false ∧ s.dev.rState = 3) ∧
    (∃ (s : State), s.dev.inReset = false ∧ s.dev.ring.open_ = true) ∧
    (∃ (s : State), s.dev.inReset = false ∧ s.dev.ring.open_ = true ∧ s.dev.ring.kind = 0) ∧
    (∃ (s : State), s.dev.inReset = false ∧ s.dev.ring.open_ = true ∧ s.dev.ring.kind = 2 ∧ s.dev.rState = 2 ∧ s.dev.ring.enums.length < 15) ∧
    (∃ (s : State), s.dev.inReset = false ∧ s.dev.ring.open_ = false ∧ s.dev.ringCloses = true ∧ s.dev.ring.bClosed ≤ s.dev.ring.cycle) ∧
    (∃ (s : State) (a : Nat), s.dev.inReset = false ∧ (s.dev.node a).present = true ∧ 3 ≤ (s.dev.node a).miss) ∧
    (∃ (s : State) (a : Nat), s.dev.inReset = false ∧ (s.dev.node a).present = false ∧ (s.dev.node a).two = true) ∧
    (∃ (s : State), s.dev.inReset = false ∧ 3 ≤ s.dev.ring.hopsRun ∧ s.dev.ring.hopsFlt = false ∧ (((s.dev.countOf (s.dev.ring.rx.find? fun f => f.dir = 0)).isSome = true ∨ (s.dev.countOf (s.dev.ring.rx.find? fun f => f.dir = 1)).isSome = true))) ∧
    (∃ (s : State), s.dev.inReset = false) ∧
    (∃ (s : State), s.dev.inReset = false) ∧
    (∃ (s : State), s.dev.inReset = false ∧ s.dev.dual = true ∧ 16 ≤ s.dev.ring.dualClean ∧ s.dev.dualForced = false) ∧
    (∃ (s : State) (a : Nat) (i : Nat), s.dev.inReset = false ∧ s.dev.ring.entries.find? (fun e => e.addr == a) = some { addr := a, slot := some i } ∧ 3 ≤ alGet s.dev.ring.svc i 0 ∧ alGet s.dev.ring.svc i 0 ≠ 255) :=
  ⟨⟨afterReset fun d => { d.setFld F.LRING_STATUS_STATE 1 with ring := { d.ring with syncLeft := 4 } }, by decide +kernel⟩,
   ⟨afterReset fun d => d.setFld F.LRING_STATUS_STATE 2, by decide +kernel⟩,
   ⟨afterReset fun d => (d.setFld F.LRING_STATUS_STATE 3).wrN (R.LRING_ORDER 0) 0x103, by decide +kernel⟩,
   ⟨afterReset fun d => { d with ring := { d.ring with open_ := true } }, by decide +kernel⟩,
   ⟨afterReset fun d => { (d.setFld F.LRING_STATUS_STATE 3).wrN (R.LRING_ORDER 0) 0x103 with ring := { d.ring with open_ := true, cycle := 4 } }, by decide +kernel⟩,
   ⟨afterReset fun d => { d.setFld F.LRING_STATUS_STATE 2 with ring := { d.ring with open_ := true, kind := 2, cycle := 4 } }, by decide +kernel⟩,
   ⟨afterReset fun d => { d.setFld F.LRING_STATUS_STATE 3 with ring := { d.ring with started := true, cycle := 4 } }, by decide +kernel⟩,
   ⟨afterReset fun d => { d with ring := { d.ring with nodes := [(5, { present := true, miss := 3 })] } }, 5, by decide +kernel⟩,
   ⟨afterReset fun d => { d with ring := { d.ring with nodes := [(5, { ref := true, two := true })] } }, 5, by decide +kernel⟩,
   ⟨afterReset fun d => { d.setFld F.LRING_STATUS_STATE 3 with ring := { d.ring with hopsRun := 3, rx := [{ port := 1, bytes := [some 1, some 0], endC := 0 }] } }, by decide +kernel⟩,
   ⟨State.reset, by decide +kernel⟩,
   ⟨afterReset fun d => { d with ring := { d.ring with sideLost := Vector.replicate 2 true } }, by decide +kernel⟩,
   ⟨afterReset fun d => { d.setFlag F.LRING_STATUS_DUAL true with ring := { d.ring with dualClean := 16, dualFor := 20 } }, by decide +kernel⟩,
   ⟨afterReset fun d => { ((d.setFld F.LRING_PTXCTL_SIZE 8).setFld F.LRING_PTXCTL_TAIL 2).setFld F.LRING_PTXCTL_HEAD 3 with ring := { d.ring with entries := [{ addr := 9, slot := some 2 }], svc := [(2, 3)] } }, 9, 2, by decide +kernel⟩⟩

theorem witness_BidCommands :
    (∃ (s : State) (m : Master) (arg : Word) (b : Insertion), bidHears s.dev m = true ∧ s.dev.bid.eval = none ∧ arg.toNat % 128 < s.dev.landings ∧ arg.toNat / 256 % 4 ≠ 0 ∧ ((arg.toNat / 256 % 4) &&& s.dev.od? 0x2503 (arg.toNat % 128 + 1)) = arg.toNat / 256 % 4 ∧ ((upTo ((s.dev.annotated s.dev.bid.plan).length + 1)).foldl (fun x i => cheaper x (s.dev.insertOne (s.dev.annotated s.dev.bid.plan) i (arg.toNat % 128) { kind := 0, side := arg.toNat / 256 % 4 })) none) = some b) ∧
    (∃ (s : State) (m : Master) (arg : Word), bidHears s.dev m = true ∧ s.dev.bid.eval = none ∧ s.dev.landings ≤ arg.toNat % 128) ∧
    (∃ (s : State) (m : Master), bidHears s.dev m = true ∧ s.dev.bid.eval.isSome = true) ∧
    (∃ (s : State) (m : Master) (arg : Word) (x : PlanStop), bidHears s.dev m = true ∧ s.dev.bid.eval = none ∧ s.dev.bid.plan[arg.toNat % 64]? = some x ∧ (x.items.any fun j => if arg.toNat / 256 % 2 = 0 then j.kind == 1 else j.kind == 2 || j.kind == 0) = true) ∧
    (∃ (s : State) (m : Master), bidHears s.dev m = true ∧ s.dev.bid.eval = none) ∧
    (∃ (s : State) (m : Master) (arg : Word) (i : Nat), bidHears s.dev m = true ∧ arg.toNat % 128 < s.dev.landings ∧ arg.toNat / 256 % 4 ≠ 0 ∧ ((arg.toNat / 256 % 4) &&& s.dev.od? 0x2503 (arg.toNat % 128 + 1)) = arg.toNat / 256 % 4 ∧ bitN (s.dev.od? 0x2503 (arg.toNat % 128 + 1)) (2 + arg.toNat / 65536 % 2) = true ∧ s.dev.typeOn F.BID_CTRL_HALLEN = true ∧ (s.dev.bid.calls.find? fun x => (x.2.state == 1 || x.2.state == 2) && x.2.typ == 1 + arg.toNat / 65536 % 2 && x.2.org == arg.toNat % 128) = none ∧ s.dev.freeEntry = some i ∧ s.dev.findCall ((s.dev.car - 1) % 16 * 4096 + s.dev.bid.seq) = none ∧ s.dev.bid.seq < 4096) ∧
    (∃ (s : State) (m : Master) (arg : Word) (x : Nat × CallEnt), bidHears s.dev m = true ∧ arg.toNat % 128 < s.dev.landings ∧ arg.toNat / 256 % 4 ≠ 0 ∧ ((arg.toNat / 256 % 4) &&& s.dev.od? 0x2503 (arg.toNat % 128 + 1)) = arg.toNat / 256 % 4 ∧ bitN (s.dev.od? 0x2503 (arg.toNat % 128 + 1)) (2 + arg.toNat / 65536 % 2) = true ∧ s.dev.typeOn F.BID_CTRL_HALLEN = true ∧ (s.dev.bid.calls.find? fun x => (x.2.state == 1 || x.2.state == 2) && x.2.typ == 1 + arg.toNat / 65536 % 2 && x.2.org == arg.toNat % 128) = some x ∧ x.2.id < 65536) ∧
    (∃ (s : State) (m : Master) (arg : Word) (i : Nat), bidHears s.dev m = true ∧ arg.toNat % 128 < s.dev.landings ∧ arg.toNat / 256 % 128 < s.dev.landings ∧ arg.toNat / 16777216 % 4 ≠ 0 ∧ ((arg.toNat / 16777216 % 4) &&& s.dev.od? 0x2503 (arg.toNat % 128 + 1)) = arg.toNat / 16777216 % 4 ∧ ((arg.toNat / 16777216 % 4) &&& s.dev.od? 0x2503 (arg.toNat / 256 % 128 + 1)) = arg.toNat / 16777216 % 4 ∧ bitN (s.dev.od? 0x2503 (arg.toNat % 128 + 1)) 4 = true ∧ bitN (s.dev.od? 0x2503 (arg.toNat / 256 % 128 + 1)) 4 = true ∧ s.dev.typeOn F.BID_CTRL_DESTEN = true ∧ s.dev.freeEntry = some i ∧ s.dev.findCall ((s.dev.car - 1) % 16 * 4096 + s.dev.bid.seq) = none ∧ s.dev.bid.seq < 4096) ∧
    (∃ (s : State) (m : Master), bidHears s.dev m = true ∧ s.dev.bid.eval = none ∧ (s.dev.bid.calls.map fun x => x.1).Nodup ∧ (s.dev.bid.calls.map fun x => x.2.id).Nodup) ∧
    (∃ (s : State) (m : Master) (op : Fin 16), bidHears s.dev m = true ∧ (op.val = 0 ∨ 6 < op.val)) :=
  ⟨⟨afterReset fun d => { (((((d.setFlag (F.DOOR_MSTAT_LEARNED 0) true).setFlag F.BID_CTRL_EN true).setFlag F.BID_CTRL_BIDEN true).setFlag F.BID_CTRL_ANNEN true).setFlag F.BID_CTRL_HALLEN true) with now := 5000000000, od := [(odKey 0x2105 1, 4), (odKey 0x2503 1, 0x1F), (odKey 0x2503 2, 0x1F), (odKey 0x2704 1, 100000), (odKey 0x2501 7, 1000), (odKey 0x2500 1, 2), (odKey 0x2500 2, 1), (odKey 0x2500 3, 20)], chA := { d.chA with state := 0 }, chB := { d.chB with state := 0 }, bid := { d.bid with seq := 0 } }, 1, 0x100, { plan := [{ land := 0, items := [{ kind := 0, side := 1 }] }], cost := 2000, arr := 0, i := 0, j := 255 }, by decide +kernel⟩,
   ⟨afterReset fun d => { (((((d.setFlag (F.DOOR_MSTAT_LEARNED 0) true).setFlag F.BID_CTRL_EN true).setFlag F.BID_CTRL_BIDEN true).setFlag F.BID_CTRL_ANNEN true).setFlag F.BID_CTRL_HALLEN true) with now := 5000000000, od := [(odKey 0x2105 1, 4), (odKey 0x2503 1, 0x1F), (odKey 0x2503 2, 0x1F), (odKey 0x2704 1, 100000), (odKey 0x2501 7, 1000), (odKey 0x2500 1, 2), (odKey 0x2500 2, 1), (odKey 0x2500 3, 20)], chA := { d.chA with state := 0 }, chB := { d.chB with state := 0 }, bid := { d.bid with seq := 0 } }, 1, 0x105, by decide +kernel⟩,
   ⟨afterReset fun d => { (((((d.setFlag (F.DOOR_MSTAT_LEARNED 0) true).setFlag F.BID_CTRL_EN true).setFlag F.BID_CTRL_BIDEN true).setFlag F.BID_CTRL_ANNEN true).setFlag F.BID_CTRL_HALLEN true) with now := 5000000000, od := [(odKey 0x2105 1, 4), (odKey 0x2503 1, 0x1F), (odKey 0x2503 2, 0x1F), (odKey 0x2704 1, 100000), (odKey 0x2501 7, 1000), (odKey 0x2500 1, 2), (odKey 0x2500 2, 1), (odKey 0x2500 3, 20)], chA := { d.chA with state := 0 }, chB := { d.chB with state := 0 }, bid := { d.bid with eval := some { ann := { sender := 3, flags := 0, id := 8193, typ := 1, org := 0, dst := 255, pax := 0, side := 1 }, reason := 0, cost := 7, arr := 9, pick := 0 } } }, 1, by decide +kernel⟩,
   ⟨afterReset fun d => { (((((d.setFlag (F.DOOR_MSTAT_LEARNED 0) true).setFlag F.BID_CTRL_EN true).setFlag F.BID_CTRL_BIDEN true).setFlag F.BID_CTRL_ANNEN true).setFlag F.BID_CTRL_HALLEN true) with now := 5000000000, od := [(odKey 0x2105 1, 4), (odKey 0x2503 1, 0x1F), (odKey 0x2503 2, 0x1F), (odKey 0x2704 1, 100000), (odKey 0x2501 7, 1000), (odKey 0x2500 1, 2), (odKey 0x2500 2, 1), (odKey 0x2500 3, 20)], chA := { d.chA with state := 0 }, chB := { d.chB with state := 0 }, bid := { d.bid with plan := [{ land := 2, items := [{ kind := 1, id := 4096, pax := 1, typ := 1, side := 1 }, { kind := 0, side := 1 }] }], calls := [(0, { id := 4096, typ := 1, state := 2, holder := 2, announcer := 2, org := 2, dst := 255, side := 1, used := true })] } }, 1, 0, { land := 2, items := [{ kind := 1, id := 4096, pax := 1, typ := 1, side := 1 }, { kind := 0, side := 1 }] }, by decide +kernel⟩,
   ⟨afterReset fun d => { (((((d.setFlag (F.DOOR_MSTAT_LEARNED 0) true).setFlag F.BID_CTRL_EN true).setFlag F.BID_CTRL_BIDEN true).setFlag F.BID_CTRL_ANNEN true).setFlag F.BID_CTRL_HALLEN true) with now := 5000000000, od := [(odKey 0x2105 1, 4), (odKey 0x2503 1, 0x1F), (odKey 0x2503 2, 0x1F), (odKey 0x2704 1, 100000), (odKey 0x2501 7, 1000), (odKey 0x2500 1, 2), (odKey 0x2500 2, 1), (odKey 0x2500 3, 20)], chA := { d.chA with state := 0 }, chB := { d.chB with state := 0 }, bid := { d.bid with plan := [{ land := 2, items := [{ kind := 1, id := 4096, pax := 1, typ := 1, side := 1 }, { kind := 0, side := 1 }] }] } }, 1, by decide +kernel⟩,
   ⟨afterReset fun d => { (((((d.setFlag (F.DOOR_MSTAT_LEARNED 0) true).setFlag F.BID_CTRL_EN true).setFlag F.BID_CTRL_BIDEN true).setFlag F.BID_CTRL_ANNEN true).setFlag F.BID_CTRL_HALLEN true) with now := 5000000000, od := [(odKey 0x2105 1, 4), (odKey 0x2503 1, 0x1F), (odKey 0x2503 2, 0x1F), (odKey 0x2704 1, 100000), (odKey 0x2501 7, 1000), (odKey 0x2500 1, 2), (odKey 0x2500 2, 1), (odKey 0x2500 3, 20)], chA := { d.chA with state := 0 }, chB := { d.chB with state := 0 }, bid := { d.bid with seq := 5 } }, 1, 0x100, 0, by decide +kernel⟩,
   ⟨afterReset fun d => { (((((d.setFlag (F.DOOR_MSTAT_LEARNED 0) true).setFlag F.BID_CTRL_EN true).setFlag F.BID_CTRL_BIDEN true).setFlag F.BID_CTRL_ANNEN true).setFlag F.BID_CTRL_HALLEN true) with now := 5000000000, od := [(odKey 0x2105 1, 4), (odKey 0x2503 1, 0x1F), (odKey 0x2503 2, 0x1F), (odKey 0x2704 1, 100000), (odKey 0x2501 7, 1000), (odKey 0x2500 1, 2), (odKey 0x2500 2, 1), (odKey 0x2500 3, 20)], chA := { d.chA with state := 0 }, chB := { d.chB with state := 0 }, bid := { d.bid with calls := [(0, { id := 4096, typ := 1, state := 2, holder := 2, announcer := 2, org := 0, dst := 255, side := 1, used := true })] } }, 1, 0x100, (0, { id := 4096, typ := 1, state := 2, holder := 2, announcer := 2, org := 0, dst := 255, side := 1, used := true }), by decide +kernel⟩,
   ⟨afterReset fun d => { (((((d.setFlag (F.DOOR_MSTAT_LEARNED 0) true).setFlag F.BID_CTRL_EN true).setFlag F.BID_CTRL_BIDEN true).setFlag F.BID_CTRL_ANNEN true).setFlag F.BID_CTRL_HALLEN true).setFlag F.BID_CTRL_DESTEN true with now := 5000000000, od := [(odKey 0x2105 1, 4), (odKey 0x2503 1, 0x1F), (odKey 0x2503 2, 0x1F), (odKey 0x2704 1, 100000), (odKey 0x2501 7, 1000), (odKey 0x2500 1, 2), (odKey 0x2500 2, 1), (odKey 0x2500 3, 20)], chA := { d.chA with state := 0 }, chB := { d.chB with state := 0 }, bid := { d.bid with seq := 5 } }, 1, 0x1020100, 0, by decide +kernel⟩,
   ⟨afterReset fun d => { (((((d.setFlag (F.DOOR_MSTAT_LEARNED 0) true).setFlag F.BID_CTRL_EN true).setFlag F.BID_CTRL_BIDEN true).setFlag F.BID_CTRL_ANNEN true).setFlag F.BID_CTRL_HALLEN true) with now := 5000000000, od := [(odKey 0x2105 1, 4), (odKey 0x2503 1, 0x1F), (odKey 0x2503 2, 0x1F), (odKey 0x2704 1, 100000), (odKey 0x2501 7, 1000), (odKey 0x2500 1, 2), (odKey 0x2500 2, 1), (odKey 0x2500 3, 20)], chA := { d.chA with state := 0 }, chB := { d.chB with state := 0 }, bid := { d.bid with plan := [{ land := 2, items := [{ kind := 1, id := 4096, pax := 1, typ := 1, side := 1 }, { kind := 0, side := 1 }] }], calls := [(0, { id := 4096, typ := 1, state := 2, holder := 2, announcer := 2, org := 2, dst := 255, side := 1, used := true })] } }, 1, by decide +kernel⟩,
   ⟨afterReset fun d => { (((((d.setFlag (F.DOOR_MSTAT_LEARNED 0) true).setFlag F.BID_CTRL_EN true).setFlag F.BID_CTRL_BIDEN true).setFlag F.BID_CTRL_ANNEN true).setFlag F.BID_CTRL_HALLEN true) with now := 5000000000, od := [(odKey 0x2105 1, 4), (odKey 0x2503 1, 0x1F), (odKey 0x2503 2, 0x1F), (odKey 0x2704 1, 100000), (odKey 0x2501 7, 1000), (odKey 0x2500 1, 2), (odKey 0x2500 2, 1), (odKey 0x2500 3, 20)], chA := { d.chA with state := 0 }, chB := { d.chB with state := 0 }, bid := { d.bid with seq := 0 } }, 1, 9, by decide +kernel⟩⟩

theorem witness_BidMessages :
    (∃ (s : State) (c : List Byte) (i : Nat), s.dev.inReset = false ∧ wellMade c 20 = true ∧ s.dev.findCall (c16 c 2) = none ∧ s.dev.freeEntry = some i ∧ s.dev.noBidAtOnce (c8 c 4) = 0 ∧ s.dev.bid.queue.length < 8) ∧
    (∃ (s : State) (c : List Byte), s.dev.inReset = false ∧ wellMade c 20 = true ∧ s.dev.noBidAtOnce (c8 c 4) ≠ 0 ∧ c8 c 0 ≠ s.dev.car ∧ s.dev.od? 0x2500 2 = 1) ∧
    (∃ (s : State) (c : List Byte) (i : Nat) (e : CallEnt), s.dev.inReset = false ∧ wellMade c 15 = true ∧ inTable s.dev (c16 c 2) i e = true ∧ s.dev.windowOpen e = true ∧ (e.answers.any fun x => x.car == c8 c 0) = false ∧ s.dev.allAnswered { e with answers := e.answers ++ [{ car := c8 c 0, none_ := true }] } = false) ∧
    (∃ (s : State) (c : List Byte) (i : Nat) (e : CallEnt), s.dev.inReset = false ∧ wellMade c 19 = true ∧ s.dev.bid.eval = none ∧ inTable s.dev (c16 c 2) i e = true ∧ s.dev.keepsOld e (c8 c 4) (c32 c 6) = false ∧ c8 c 4 ≠ 0 ∧ c8 c 4 ≠ s.dev.car ∧ ((e.state ≠ 3 ∨ e.holder = c8 c 4))) ∧
    (∃ (s : State) (c : List Byte) (i : Nat) (e : CallEnt) (b : Insertion), s.dev.inReset = false ∧ wellMade c 19 = true ∧ s.dev.bid.eval = none ∧ inTable s.dev (c16 c 2) i e = true ∧ s.dev.keepsOld e (c8 c 4) (c32 c 6) = false ∧ c8 c 4 = s.dev.car ∧ s.dev.car ≠ 0 ∧ s.dev.holds e = false ∧ e.state ≠ 3 ∧ c8 c 0 ≠ s.dev.car ∧ s.dev.od? 0x2500 2 = 1 ∧ s.dev.bestCall (c16 c 2) e.typ e.org e.dst e.pax e.side = some b) ∧
    (∃ (s : State) (c : List Byte) (i : Nat) (e : CallEnt), s.dev.inReset = false ∧ wellMade c 5 = true ∧ inTable s.dev (c16 c 2) i e = true ∧ e.awarded = true ∧ e.holder = c8 c 0 ∧ c8 c 4 = 0) ∧
    (∃ (s : State) (c : List Byte) (i : Nat) (e : CallEnt), s.dev.inReset = false ∧ wellMade c 5 = true ∧ inTable s.dev (c16 c 2) i e = true ∧ e.awarded = true ∧ e.holder = c8 c 0 ∧ c8 c 4 ≠ 0) ∧
    (∃ (s : State) (c : List Byte), s.dev.inReset = false ∧ wellMade c 6 = true) ∧
    (∃ (s : State) (c : List Byte), s.dev.inReset = false ∧ wellMade c 4 = true ∧ s.dev.bid.eval = none ∧ c8 c 0 ≠ s.dev.car ∧ c16 c 2 = 0xFFFF ∧ (s.dev.bid.calls.map fun x => x.1).Nodup ∧ (s.dev.bid.calls.map fun x => x.2.id).Nodup) ∧
    (∃ (s : State) (c : List Byte) (i : Nat) (e : CallEnt), s.dev.inReset = false ∧ wellMade c 5 = true ∧ s.dev.bid.eval = none ∧ inTable s.dev (c16 c 2) i e = true) ∧
    (∃ (s : State) (c : List Byte), s.dev.inReset = false ∧ wellMade c 22 = true ∧ s.dev.od? 0x2904 6 ≠ 0 ∧ c16 c 6 = 0 ∧ bitN (c8 c 1) 1 = false) ∧
    (∃ (s : State) (c : List Byte) (x : BackupRx), s.dev.inReset = false ∧ wellMade c 22 = true ∧ s.dev.od? 0x2904 6 ≠ 0 ∧ c16 c 6 ≠ 0 ∧ bitN (c8 c 1) 1 = false ∧ (s.dev.boot.rx.find? fun y => y.car == c8 c 0 && y.gen == c32 c 2 && y.next == c16 c 6) = some x) ∧
    (∃ (s : State) (c : List Byte) (img : List Byte), s.dev.inReset = false ∧ c.length = 6 ∧ c8 c 0 = 0 ∧ s.dev.nv.backups.find? (fun e => e.1 == c8 c 1) = some (c8 c 1, img) ∧ (bodyOf img).inst = c32 c 2 ∧ c32 c 2 ≠ 0 ∧ ((upTo 16).any fun i => s.dev.inGroup i && decide (i < s.dev.car) && i != c8 c 1) = false) :=
  ⟨⟨afterReset fun d => { (((((d.setFlag (F.DOOR_MSTAT_LEARNED 0) true).setFlag F.BID_CTRL_EN true).setFlag F.BID_CTRL_BIDEN true).setFlag F.BID_CTRL_ANNEN true).setFlag F.BID_CTRL_HALLEN true) with now := 5000000000, od := [(odKey 0x2105 1, 4), (odKey 0x2503 1, 0x1F), (odKey 0x2503 2, 0x1F), (odKey 0x2704 1, 100000), (odKey 0x2501 7, 1000), (odKey 0x2500 1, 2), (odKey 0x2500 2, 1), (odKey 0x2500 3, 20)], chA := { d.chA with state := 0 }, chB := { d.chB with state := 0 }, bid := { d.bid with seq := 0 } }, [3, 0, 1, 32, 1, 0, 255, 0, 1, 0, 255, 255, 255, 255, 20, 0, 0, 0, 0, 0], 0, by decide +kernel⟩,
   ⟨afterReset fun d => { (((((d.setFlag (F.DOOR_MSTAT_LEARNED 0) true).setFlag F.BID_CTRL_EN true).setFlag F.BID_CTRL_BIDEN true).setFlag F.BID_CTRL_ANNEN true).setFlag F.BID_CTRL_HALLEN true).setFlag F.BID_CTRL_BIDEN false with now := 5000000000, od := [(odKey 0x2105 1, 4), (odKey 0x2503 1, 0x1F), (odKey 0x2503 2, 0x1F), (odKey 0x2704 1, 100000), (odKey 0x2501 7, 1000), (odKey 0x2500 1, 2), (odKey 0x2500 2, 1), (odKey 0x2500 3, 20)], chA := { d.chA with state := 0 }, chB := { d.chB with state := 0 }, bid := { d.bid with seq := 0 } }, [3, 0, 1, 32, 1, 0, 255, 0, 1, 0, 255, 255, 255, 255, 20, 0, 0, 0, 0, 0], by decide +kernel⟩,
   ⟨afterReset fun d => { (((((d.setFlag (F.DOOR_MSTAT_LEARNED 0) true).setFlag F.BID_CTRL_EN true).setFlag F.BID_CTRL_BIDEN true).setFlag F.BID_CTRL_ANNEN true).setFlag F.BID_CTRL_HALLEN true) with now := 5000000000, od := [(odKey 0x2105 1, 4), (odKey 0x2503 1, 0x1F), (odKey 0x2503 2, 0x1F), (odKey 0x2704 1, 100000), (odKey 0x2501 7, 1000), (odKey 0x2500 1, 2), (odKey 0x2500 2, 1), (odKey 0x2500 3, 20)], chA := { d.chA with state := 0 }, chB := { d.chB with state := 0 }, bid := { d.bid with calls := [(3, { id := 4096, typ := 1, state := 1, announcer := 2, org := 2, dst := 255, side := 1, used := true, running := true, ta := 4999999000 })], bidding := [3], beats := [(3, 0)] } }, [3, 0, 0, 16, 9, 0, 0, 0, 8, 0, 0, 0, 0, 255, 0], 3, { id := 4096, typ := 1, state := 1, announcer := 2, org := 2, dst := 255, side := 1, used := true, running := true, ta := 4999999000 }, by decide +kernel⟩,
   ⟨afterReset fun d => { (((((d.setFlag (F.DOOR_MSTAT_LEARNED 0) true).setFlag F.BID_CTRL_EN true).setFlag F.BID_CTRL_BIDEN true).setFlag F.BID_CTRL_ANNEN true).setFlag F.BID_CTRL_HALLEN true) with now := 5000000000, od := [(odKey 0x2105 1, 4), (odKey 0x2503 1, 0x1F), (odKey 0x2503 2, 0x1F), (odKey 0x2704 1, 100000), (odKey 0x2501 7, 1000), (odKey 0x2500 1, 2), (odKey 0x2500 2, 1), (odKey 0x2500 3, 20)], chA := { d.chA with state := 0 }, chB := { d.chB with state := 0 }, bid := { d.bid with plan := [{ land := 2, items := [{ kind := 1, id := 4096, pax := 1, typ := 1, side := 1 }, { kind := 0, side := 1 }] }], calls := [(3, { id := 4096, typ := 1, state := 2, holder := 2, announcer := 2, org := 2, dst := 255, side := 1, used := true })] } }, [3, 0, 0, 16, 5, 2, 9, 0, 0, 0, 8, 0, 0, 0, 1, 2, 255, 0, 1], 3, { id := 4096, typ := 1, state := 2, holder := 2, announcer := 2, org := 2, dst := 255, side := 1, used := true }, by decide +kernel⟩,
   ⟨afterReset fun d => { (((((d.setFlag (F.DOOR_MSTAT_LEARNED 0) true).setFlag F.BID_CTRL_EN true).setFlag F.BID_CTRL_BIDEN true).setFlag F.BID_CTRL_ANNEN true).setFlag F.BID_CTRL_HALLEN true) with now := 5000000000, od := [(odKey 0x2105 1, 4), (odKey 0x2503 1, 0x1F), (odKey 0x2503 2, 0x1F), (odKey 0x2704 1, 100000), (odKey 0x2501 7, 1000), (odKey 0x2500 1, 2), (odKey 0x2500 2, 1), (odKey 0x2500 3, 20)], chA := { d.chA with state := 0 }, chB := { d.chB with state := 0 }, bid := { d.bid with calls := [(3, { id := 4096, typ := 1, state := 1, announcer := 2, org := 0, dst := 255, side := 1, used := true })] } }, [3, 0, 0, 16, 2, 2, 9, 0, 0, 0, 8, 0, 0, 0, 1, 0, 255, 0, 1], 3, { id := 4096, typ := 1, state := 1, announcer := 2, org := 0, dst := 255, side := 1, used := true }, { plan := [{ land := 0, items := [{ kind := 1, id := 4096, pax := 0, typ := 1, side := 1 }] }], cost := 0, arr := 0, i := 0, j := 255 }, by decide +kernel⟩,
   ⟨afterReset fun d => { (((((d.setFlag (F.DOOR_MSTAT_LEARNED 0) true).setFlag F.BID_CTRL_EN true).setFlag F.BID_CTRL_BIDEN true).setFlag F.BID_CTRL_ANNEN true).setFlag F.BID_CTRL_HALLEN true) with now := 5000000000, od := [(odKey 0x2105 1, 4), (odKey 0x2503 1, 0x1F), (odKey 0x2503 2, 0x1F), (odKey 0x2704 1, 100000), (odKey 0x2501 7, 1000), (odKey 0x2500 1, 2), (odKey 0x2500 2, 1), (odKey 0x2500 3, 20)], chA := { d.chA with state := 0 }, chB := { d.chB with state := 0 }, bid := { d.bid with calls := [(3, { id := 4096, typ := 1, state := 2, holder := 3, announcer := 2, org := 2, dst := 255, side := 1, used := true, awarded := true, tries := 1 })] } }, [3, 0, 0, 16, 0], 3, { id := 4096, typ := 1, state := 2, holder := 3, announcer := 2, org := 2, dst := 255, side := 1, used := true, awarded := true, tries := 1 }, by decide +kernel⟩,
   ⟨afterReset fun d => { (((((d.setFlag (F.DOOR_MSTAT_LEARNED 0) true).setFlag F.BID_CTRL_EN true).setFlag F.BID_CTRL_BIDEN true).setFlag F.BID_CTRL_ANNEN true).setFlag F.BID_CTRL_HALLEN true) with now := 5000000000, od := [(odKey 0x2105 1, 4), (odKey 0x2503 1, 0x1F), (odKey 0x2503 2, 0x1F), (odKey 0x2704 1, 100000), (odKey 0x2501 7, 1000), (odKey 0x2500 1, 2), (odKey 0x2500 2, 1), (odKey 0x2500 3, 20)], chA := { d.chA with state := 0 }, chB := { d.chB with state := 0 }, bid := { d.bid with calls := [(3, { id := 4096, typ := 1, state := 2, holder := 3, announcer := 2, org := 2, dst := 255, side := 1, used := true, awarded := true, tries := 1 })] } }, [3, 0, 0, 16, 1], 3, { id := 4096, typ := 1, state := 2, holder := 3, announcer := 2, org := 2, dst := 255, side := 1, used := true, awarded := true, tries := 1 }, by decide +kernel⟩,
   ⟨afterReset fun d => { (((((d.setFlag (F.DOOR_MSTAT_LEARNED 0) true).setFlag F.BID_CTRL_EN true).setFlag F.BID_CTRL_BIDEN true).setFlag F.BID_CTRL_ANNEN true).setFlag F.BID_CTRL_HALLEN true).setFlag F.BID_STATUS_ISOLATED true with now := 5000000000, od := [(odKey 0x2105 1, 4), (odKey 0x2503 1, 0x1F), (odKey 0x2503 2, 0x1F), (odKey 0x2704 1, 100000), (odKey 0x2501 7, 1000), (odKey 0x2500 1, 2), (odKey 0x2500 2, 1), (odKey 0x2500 3, 20)], chA := { d.chA with state := 0 }, chB := { d.chB with state := 0 }, bid := { d.bid with bidding := [3, 4] } }, [3, 3, 0, 0, 0, 0], by decide +kernel⟩,
   ⟨afterReset fun d => { (((((d.setFlag (F.DOOR_MSTAT_LEARNED 0) true).setFlag F.BID_CTRL_EN true).setFlag F.BID_CTRL_BIDEN true).setFlag F.BID_CTRL_ANNEN true).setFlag F.BID_CTRL_HALLEN true) with now := 5000000000, od := [(odKey 0x2105 1, 4), (odKey 0x2503 1, 0x1F), (odKey 0x2503 2, 0x1F), (odKey 0x2704 1, 100000), (odKey 0x2501 7, 1000), (odKey 0x2500 1, 2), (odKey 0x2500 2, 1), (odKey 0x2500 3, 20)], chA := { d.chA with state := 0 }, chB := { d.chB with state := 0 }, bid := { d.bid with calls := [(3, { id := 4096, typ := 1, state := 2, holder := 3, announcer := 2, org := 2, dst := 255, side := 1, used := true, awarded := true, tries := 1 })], beats := [(3, 0)] } }, [3, 0, 255, 255], by decide +kernel⟩,
   ⟨afterReset fun d => { (((((d.setFlag (F.DOOR_MSTAT_LEARNED 0) true).setFlag F.BID_CTRL_EN true).setFlag F.BID_CTRL_BIDEN true).setFlag F.BID_CTRL_ANNEN true).setFlag F.BID_CTRL_HALLEN true) with now := 5000000000, od := [(odKey 0x2105 1, 4), (odKey 0x2503 1, 0x1F), (odKey 0x2503 2, 0x1F), (odKey 0x2704 1, 100000), (odKey 0x2501 7, 1000), (odKey 0x2500 1, 2), (odKey 0x2500 2, 1), (odKey 0x2500 3, 20)], chA := { d.chA with state := 0 }, chB := { d.chB with state := 0 }, bid := { d.bid with calls := [(3, { id := 4096, typ := 1, state := 2, holder := 3, announcer := 2, org := 2, dst := 255, side := 1, used := true, awarded := true, tries := 1 })], beats := [(3, 0)] } }, [3, 1, 0, 16, 2], 3, { id := 4096, typ := 1, state := 2, holder := 3, announcer := 2, org := 2, dst := 255, side := 1, used := true, awarded := true, tries := 1 }, by decide +kernel⟩,
   ⟨afterReset fun d => { (((((d.setFlag (F.DOOR_MSTAT_LEARNED 0) true).setFlag F.BID_CTRL_EN true).setFlag F.BID_CTRL_BIDEN true).setFlag F.BID_CTRL_ANNEN true).setFlag F.BID_CTRL_HALLEN true) with now := 5000000000, od := [(odKey 0x2105 1, 4), (odKey 0x2503 1, 0x1F), (odKey 0x2503 2, 0x1F), (odKey 0x2704 1, 100000), (odKey 0x2501 7, 1000), (odKey 0x2500 1, 2), (odKey 0x2500 2, 1), (odKey 0x2500 3, 20), (odKey 0x2904 6, 77)], chA := { d.chA with state := 0 }, chB := { d.chB with state := 0 }, boot := { d.boot with want := some (77, 3) }, bid := { d.bid with seq := 0 } }, [3, 1, 1, 0, 0, 0, 0, 0, 0, 1, 2, 3, 4, 5, 6, 7, 8, 9, 10, 11, 12, 13], by decide +kernel⟩,
   ⟨afterReset fun d => { (((((d.setFlag (F.DOOR_MSTAT_LEARNED 0) true).setFlag F.BID_CTRL_EN true).setFlag F.BID_CTRL_BIDEN true).setFlag F.BID_CTRL_ANNEN true).setFlag F.BID_CTRL_HALLEN true) with now := 5000000000, od := [(odKey 0x2105 1, 4), (odKey 0x2503 1, 0x1F), (odKey 0x2503 2, 0x1F), (odKey 0x2704 1, 100000), (odKey 0x2501 7, 1000), (odKey 0x2500 1, 2), (odKey 0x2500 2, 1), (odKey 0x2500 3, 20), (odKey 0x2904 6, 77)], chA := { d.chA with state := 0 }, chB := { d.chB with state := 0 }, boot := { d.boot with rx := [{ car := 3, gen := 1, next := 1, body := [9] }] }, bid := { d.bid with seq := 0 } }, [3, 0, 1, 0, 0, 0, 1, 0, 0, 1, 2, 3, 4, 5, 6, 7, 8, 9, 10, 11, 12, 13], { car := 3, gen := 1, next := 1, body := [9] }, by decide +kernel⟩,
   ⟨afterReset fun d => { (((((d.setFlag (F.DOOR_MSTAT_LEARNED 0) true).setFlag F.BID_CTRL_EN true).setFlag F.BID_CTRL_BIDEN true).setFlag F.BID_CTRL_ANNEN true).setFlag F.BID_CTRL_HALLEN true) with now := 5000000000, od := [(odKey 0x2105 1, 4), (odKey 0x2503 1, 0x1F), (odKey 0x2503 2, 0x1F), (odKey 0x2704 1, 100000), (odKey 0x2501 7, 1000), (odKey 0x2500 1, 2), (odKey 0x2500 2, 1), (odKey 0x2500 3, 20)], chA := { d.chA with state := 0 }, chB := { d.chB with state := 0 }, nv := { d.nv with backups := [(3, (List.replicate 16 0 ++ [16, 0, 0, 0] ++ List.replicate 236 0 ++ [77, 0, 0, 0, 3, 0, 0, 0, 1, 1, 1, 1, 1, 1, 1, 1]))] }, bid := { d.bid with seq := 0 } }, [0, 3, 77, 0, 0, 0], (List.replicate 16 0 ++ [16, 0, 0, 0] ++ List.replicate 236 0 ++ [77, 0, 0, 0, 3, 0, 0, 0, 1, 1, 1, 1, 1, 1, 1, 1]), by decide +kernel⟩⟩

theorem witness_BidWork :
    (∃ (s : State) (a : AnnWait) (rest : List AnnWait) (b : Insertion), s.dev.inReset = false ∧ s.dev.bid.queue = a :: rest ∧ s.dev.bid.eval = none ∧ s.dev.noBidAtOnce a.typ = 0 ∧ s.dev.findCall a.id = none ∧ s.dev.bestCall a.id a.typ a.org a.dst a.pax a.side = some b) ∧
    (∃ (s : State) (a : AnnWait) (rest : List AnnWait), s.dev.inReset = false ∧ s.dev.bid.queue = a :: rest ∧ s.dev.bid.eval = none ∧ s.dev.noBidAtOnce a.typ = 0 ∧ s.dev.findCall a.id = none ∧ s.dev.bestCall a.id a.typ a.org a.dst a.pax a.side = none) ∧
    (∃ (s : State) (a : AnnWait) (rest : List AnnWait) (i : Nat) (e : CallEnt), s.dev.inReset = false ∧ s.dev.bid.queue = a :: rest ∧ s.dev.bid.eval = none ∧ s.dev.noBidAtOnce a.typ = 0 ∧ s.dev.findCall a.id = some (i, e) ∧ s.dev.holds e = true) ∧
    (∃ (s : State) (r : BidEval), s.dev.inReset = false ∧ s.dev.bid.eval = some r ∧ s.dev.bid.held = [] ∧ r.reason = 0 ∧ r.ann.sender ≠ s.dev.car ∧ s.dev.od? 0x2500 2 = 1 ∧ s.dev.findCall r.ann.id = none) ∧
    (∃ (s : State) (r : BidEval), s.dev.inReset = false ∧ s.dev.bid.eval = some r) ∧
    (∃ (s : State) (id : Nat) (i : Nat) (e : CallEnt) (c : BidAnswer), s.dev.inReset = false ∧ inTable s.dev id i e = true ∧ e.running = true ∧ s.dev.bid.eval = none ∧ e.ta + s.dev.bidCyc ≤ s.dev.now ∧ e.kind = 0 ∧ e.state = 1 ∧ lowest (e.answers.filter fun a => !a.none_) = some c ∧ c.car ≠ s.dev.car ∧ c.car ≠ 0) ∧
    (∃ (s : State) (id : Nat) (i : Nat) (e : CallEnt), s.dev.inReset = false ∧ inTable s.dev id i e = true ∧ e.running = true ∧ s.dev.car ≠ 0 ∧ s.dev.bid.eval = none ∧ e.ta + s.dev.bidCyc ≤ s.dev.now ∧ e.kind = 0 ∧ e.state = 1 ∧ (e.answers.all fun a => a.none_) = true) ∧
    (∃ (s : State) (id : Nat) (i : Nat) (e : CallEnt), s.dev.inReset = false ∧ inTable s.dev id i e = true ∧ e.state = 1 ∧ e.running = false ∧ e.ours = true ∧ e.due = false ∧ e.awardAt + s.dev.reauctionCyc ≤ s.dev.now) ∧
    (∃ (s : State) (id : Nat) (i : Nat) (e : CallEnt), s.dev.inReset = false ∧ inTable s.dev id i e = true ∧ e.state = 2 ∧ e.holder = s.dev.car ∧ s.dev.car ≠ 0 ∧ e.running = false ∧ e.due = false ∧ e.awardAt + s.dev.reauctionCyc ≤ s.dev.now ∧ s.dev.pickupCommitted id = false) ∧
    (∃ (s : State) (id : Nat) (i : Nat) (e : CallEnt), s.dev.inReset = false ∧ inTable s.dev id i e = true ∧ e.awarded = true ∧ e.awardAt + s.dev.bidCyc ≤ s.dev.now ∧ e.tries = 1) ∧
    (∃ (s : State) (id : Nat) (i : Nat) (e : CallEnt), s.dev.inReset = false ∧ inTable s.dev id i e = true ∧ e.awarded = true ∧ e.awardAt + s.dev.bidCyc ≤ s.dev.now ∧ e.tries ≠ 1) ∧
    (∃ (s : State) (car : Nat), s.dev.inReset = false ∧ s.dev.bid.eval = none ∧ s.dev.inGroup car = true ∧ 1 ≤ car ∧ car ≤ 16 ∧ alGet s.dev.bid.beats car 0 + s.dev.lossCyc ≤ s.dev.now) :=
  ⟨⟨afterReset fun d => { (((((d.setFlag (F.DOOR_MSTAT_LEARNED 0) true).setFlag F.BID_CTRL_EN true).setFlag F.BID_CTRL_BIDEN true).setFlag F.BID_CTRL_ANNEN true).setFlag F.BID_CTRL_HALLEN true) with now := 5000000000, od := [(odKey 0x2105 1, 4), (odKey 0x2503 1, 0x1F), (odKey 0x2503 2, 0x1F), (odKey 0x2704 1, 100000), (odKey 0x2501 7, 1000), (odKey 0x2500 1, 2), (odKey 0x2500 2, 1), (odKey 0x2500 3, 20)], chA := { d.chA with state := 0 }, chB := { d.chB with state := 0 }, bid := { d.bid with queue := [{ sender := 3, flags := 0, id := 8193, typ := 1, org := 0, dst := 255, pax := 0, side := 1 }] } }, { sender := 3, flags := 0, id := 8193, typ := 1, org := 0, dst := 255, pax := 0, side := 1 }, [], { plan := [{ land := 0, items := [{ kind := 1, id := 8193, pax := 0, typ := 1, side := 1 }] }], cost := 0, arr := 0, i := 0, j := 255 }, by decide +kernel⟩,
   ⟨afterReset fun d => { (((((d.setFlag (F.DOOR_MSTAT_LEARNED 0) true).setFlag F.BID_CTRL_EN true).setFlag F.BID_CTRL_BIDEN true).setFlag F.BID_CTRL_ANNEN true).setFlag F.BID_CTRL_HALLEN true) with now := 5000000000, od := [(odKey 0x2105 1, 4), (odKey 0x2503 1, 0x1F), (odKey 0x2503 2, 0x1F), (odKey 0x2704 1, 100000), (odKey 0x2501 7, 1000), (odKey 0x2500 1, 2), (odKey 0x2500 2, 1), (odKey 0x2500 3, 20)], chA := { d.chA with state := 0 }, chB := { d.chB with state := 0 }, bid := { d.bid with queue := [{ sender := 3, flags := 0, id := 8193, typ := 1, org := 9, dst := 255, pax := 0, side := 1 }] } }, { sender := 3, flags := 0, id := 8193, typ := 1, org := 9, dst := 255, pax := 0, side := 1 }, [], by decide +kernel⟩,
   ⟨afterReset fun d => { (((((d.setFlag (F.DOOR_MSTAT_LEARNED 0) true).setFlag F.BID_CTRL_EN true).setFlag F.BID_CTRL_BIDEN true).setFlag F.BID_CTRL_ANNEN true).setFlag F.BID_CTRL_HALLEN true) with now := 5000000000, od := [(odKey 0x2105 1, 4), (odKey 0x2503 1, 0x1F), (odKey 0x2503 2, 0x1F), (odKey 0x2704 1, 100000), (odKey 0x2501 7, 1000), (odKey 0x2500 1, 2), (odKey 0x2500 2, 1), (odKey 0x2500 3, 20)], chA := { d.chA with state := 0 }, chB := { d.chB with state := 0 }, bid := { d.bid with queue := [{ sender := 3, flags := 0, id := 8193, typ := 1, org := 0, dst := 255, pax := 0, side := 1 }], calls := [(3, { id := 8193, typ := 1, state := 2, holder := 2, announcer := 2, org := 0, dst := 255, side := 1, used := true })], plan := [{ land := 0, items := [{ kind := 1, id := 8193, pax := 0, typ := 1, side := 1 }] }] } }, { sender := 3, flags := 0, id := 8193, typ := 1, org := 0, dst := 255, pax := 0, side := 1 }, [], 3, { id := 8193, typ := 1, state := 2, holder := 2, announcer := 2, org := 0, dst := 255, side := 1, used := true }, by decide +kernel⟩,
   ⟨afterReset fun d => { (((((d.setFlag (F.DOOR_MSTAT_LEARNED 0) true).setFlag F.BID_CTRL_EN true).setFlag F.BID_CTRL_BIDEN true).setFlag F.BID_CTRL_ANNEN true).setFlag F.BID_CTRL_HALLEN true) with now := 5000000000, od := [(odKey 0x2105 1, 4), (odKey 0x2503 1, 0x1F), (odKey 0x2503 2, 0x1F), (odKey 0x2704 1, 100000), (odKey 0x2501 7, 1000), (odKey 0x2500 1, 2), (odKey 0x2500 2, 1), (odKey 0x2500 3, 20)], chA := { d.chA with state := 0 }, chB := { d.chB with state := 0 }, bid := { d.bid with eval := some { ann := { sender := 3, flags := 0, id := 8193, typ := 1, org := 0, dst := 255, pax := 0, side := 1 }, reason := 0, cost := 7, arr := 9, pick := 0 } } }, { ann := { sender := 3, flags := 0, id := 8193, typ := 1, org := 0, dst := 255, pax := 0, side := 1 }, reason := 0, cost := 7, arr := 9, pick := 0 }, by decide +kernel⟩,
   ⟨afterReset fun d => { (((((d.setFlag (F.DOOR_MSTAT_LEARNED 0) true).setFlag F.BID_CTRL_EN true).setFlag F.BID_CTRL_BIDEN true).setFlag F.BID_CTRL_ANNEN true).setFlag F.BID_CTRL_HALLEN true) with now := 5000000000, od := [(odKey 0x2105 1, 4), (odKey 0x2503 1, 0x1F), (odKey 0x2503 2, 0x1F), (odKey 0x2704 1, 100000), (odKey 0x2501 7, 1000), (odKey 0x2500 1, 2), (odKey 0x2500 2, 1), (odKey 0x2500 3, 20)], chA := { d.chA with state := 0 }, chB := { d.chB with state := 0 }, bid := { d.bid with eval := some { ann := { sender := 3, flags := 0, id := 8193, typ := 1, org := 0, dst := 255, pax := 0, side := 1 }, reason := 0, cost := 7, arr := 9, pick := 0 }, held := [.heartbeatLoss 3, .bidReleaseAll 1 7], beats := [(3, 0)] } }, { ann := { sender := 3, flags := 0, id := 8193, typ := 1, org := 0, dst := 255, pax := 0, side := 1 }, reason := 0, cost := 7, arr := 9, pick := 0 }, by decide +kernel⟩,
   ⟨afterReset fun d => { (((((d.setFlag (F.DOOR_MSTAT_LEARNED 0) true).setFlag F.BID_CTRL_EN true).setFlag F.BID_CTRL_BIDEN true).setFlag F.BID_CTRL_ANNEN true).setFlag F.BID_CTRL_HALLEN true) with now := 5000000000, od := [(odKey 0x2105 1, 4), (odKey 0x2503 1, 0x1F), (odKey 0x2503 2, 0x1F), (odKey 0x2704 1, 100000), (odKey 0x2501 7, 1000), (odKey 0x2500 1, 2), (odKey 0x2500 2, 1), (odKey 0x2500 3, 20)], chA := { d.chA with state := 0 }, chB := { d.chB with state := 0 }, bid := { d.bid with calls := [(3, { id := 4096, typ := 1, state := 1, announcer := 2, org := 2, dst := 255, side := 1, used := true, running := true, ta := 0, answers := [{ car := 2, none_ := true }, { car := 5, none_ := false, cost := 8, arr := 4 }, { car := 4, none_ := false, cost := 8, arr := 5 }] })] } }, 4096, 3, { id := 4096, typ := 1, state := 1, announcer := 2, org := 2, dst := 255, side := 1, used := true, running := true, ta := 0, answers := [{ car := 2, none_ := true }, { car := 5, none_ := false, cost := 8, arr := 4 }, { car := 4, none_ := false, cost := 8, arr := 5 }] }, { car := 4, none_ := false, cost := 8, arr := 5 }, by decide +kernel⟩,
   ⟨afterReset fun d => { (((((d.setFlag (F.DOOR_MSTAT_LEARNED 0) true).setFlag F.BID_CTRL_EN true).setFlag F.BID_CTRL_BIDEN true).setFlag F.BID_CTRL_ANNEN true).setFlag F.BID_CTRL_HALLEN true) with now := 5000000000, od := [(odKey 0x2105 1, 4), (odKey 0x2503 1, 0x1F), (odKey 0x2503 2, 0x1F), (odKey 0x2704 1, 100000), (odKey 0x2501 7, 1000), (odKey 0x2500 1, 2), (odKey 0x2500 2, 1), (odKey 0x2500 3, 20)], chA := { d.chA with state := 0 }, chB := { d.chB with state := 0 }, bid := { d.bid with calls := [(3, { id := 4096, typ := 1, state := 1, announcer := 2, org := 2, dst := 255, side := 1, used := true, running := true, ta := 0, answers := [{ car := 2, none_ := true }] })] } }, 4096, 3, { id := 4096, typ := 1, state := 1, announcer := 2, org := 2, dst := 255, side := 1, used := true, running := true, ta := 0, answers := [{ car := 2, none_ := true }] }, by decide +kernel⟩,
   ⟨afterReset fun d => { (((((d.setFlag (F.DOOR_MSTAT_LEARNED 0) true).setFlag F.BID_CTRL_EN true).setFlag F.BID_CTRL_BIDEN true).setFlag F.BID_CTRL_ANNEN true).setFlag F.BID_CTRL_HALLEN true) with now := 5000000000, od := [(odKey 0x2105 1, 4), (odKey 0x2503 1, 0x1F), (odKey 0x2503 2, 0x1F), (odKey 0x2704 1, 100000), (odKey 0x2501 7, 1000), (odKey 0x2500 1, 2), (odKey 0x2500 2, 1), (odKey 0x2500 3, 20)], chA := { d.chA with state := 0 }, chB := { d.chB with state := 0 }, bid := { d.bid with calls := [(3, { id := 4096, typ := 1, state := 1, announcer := 2, org := 2, dst := 255, side := 1, used := true, attempts := 3, ours := true })] } }, 4096, 3, { id := 4096, typ := 1, state := 1, announcer := 2, org := 2, dst := 255, side := 1, used := true, attempts := 3, ours := true }, by decide +kernel⟩,
   ⟨afterReset fun d => { (((((d.setFlag (F.DOOR_MSTAT_LEARNED 0) true).setFlag F.BID_CTRL_EN true).setFlag F.BID_CTRL_BIDEN true).setFlag F.BID_CTRL_ANNEN true).setFlag F.BID_CTRL_HALLEN true) with now := 5000000000, od := [(odKey 0x2105 1, 4), (odKey 0x2503 1, 0x1F), (odKey 0x2503 2, 0x1F), (odKey 0x2704 1, 100000), (odKey 0x2501 7, 1000), (odKey 0x2500 1, 2), (odKey 0x2500 2, 1), (odKey 0x2500 3, 20)], chA := { d.chA with state := 0 }, chB := { d.chB with state := 0 }, bid := { d.bid with calls := [(3, { id := 4096, typ := 1, state := 2, holder := 2, announcer := 2, org := 2, dst := 255, side := 1, used := true })], plan := [{ land := 2, items := [{ kind := 1, id := 4096, pax := 1, typ := 1, side := 1 }, { kind := 0, side := 1 }] }] } }, 4096, 3, { id := 4096, typ := 1, state := 2, holder := 2, announcer := 2, org := 2, dst := 255, side := 1, used := true }, by decide +kernel⟩,
   ⟨afterReset fun d => { (((((d.setFlag (F.DOOR_MSTAT_LEARNED 0) true).setFlag F.BID_CTRL_EN true).setFlag F.BID_CTRL_BIDEN true).setFlag F.BID_CTRL_ANNEN true).setFlag F.BID_CTRL_HALLEN true) with now := 5000000000, od := [(odKey 0x2105 1, 4), (odKey 0x2503 1, 0x1F), (odKey 0x2503 2, 0x1F), (odKey 0x2704 1, 100000), (odKey 0x2501 7, 1000), (odKey 0x2500 1, 2), (odKey 0x2500 2, 1), (odKey 0x2500 3, 20)], chA := { d.chA with state := 0 }, chB := { d.chB with state := 0 }, bid := { d.bid with calls := [(3, { id := 4096, typ := 1, state := 2, holder := 3, announcer := 2, org := 2, dst := 255, side := 1, used := true, awarded := true, tries := 1 })] } }, 4096, 3, { id := 4096, typ := 1, state := 2, holder := 3, announcer := 2, org := 2, dst := 255, side := 1, used := true, awarded := true, tries := 1 }, by decide +kernel⟩,
   ⟨afterReset fun d => { (((((d.setFlag (F.DOOR_MSTAT_LEARNED 0) true).setFlag F.BID_CTRL_EN true).setFlag F.BID_CTRL_BIDEN true).setFlag F.BID_CTRL_ANNEN true).setFlag F.BID_CTRL_HALLEN true) with now := 5000000000, od := [(odKey 0x2105 1, 4), (odKey 0x2503 1, 0x1F), (odKey 0x2503 2, 0x1F), (odKey 0x2704 1, 100000), (odKey 0x2501 7, 1000), (odKey 0x2500 1, 2), (odKey 0x2500 2, 1), (odKey 0x2500 3, 20)], chA := { d.chA with state := 0 }, chB := { d.chB with state := 0 }, bid := { d.bid with calls := [(3, { id := 4096, typ := 1, state := 2, holder := 3, announcer := 2, org := 2, dst := 255, side := 1, used := true, awarded := true, tries := 2 })] } }, 4096, 3, { id := 4096, typ := 1, state := 2, holder := 3, announcer := 2, org := 2, dst := 255, side := 1, used := true, awarded := true, tries := 2 }, by decide +kernel⟩,
   ⟨afterReset fun d => { (((((d.setFlag (F.DOOR_MSTAT_LEARNED 0) true).setFlag F.BID_CTRL_EN true).setFlag F.BID_CTRL_BIDEN true).setFlag F.BID_CTRL_ANNEN true).setFlag F.BID_CTRL_HALLEN true).setFld F.BID_GROUP_MEMBER 12 with now := 5000000000, od := [(odKey 0x2105 1, 4), (odKey 0x2503 1, 0x1F), (odKey 0x2503 2, 0x1F), (odKey 0x2704 1, 100000), (odKey 0x2501 7, 1000), (odKey 0x2500 1, 2), (odKey 0x2500 2, 1), (odKey 0x2500 3, 20)], chA := { d.chA with state := 0 }, chB := { d.chB with state := 0 }, bid := { d.bid with calls := [(3, { id := 4096, typ := 1, state := 2, holder := 3, announcer := 2, org := 2, dst := 255, side := 1, used := true, awarded := true, tries := 2 })], beats := [(3, 0), (4, 0)], bidding := [3, 4] } }, 3, by decide +kernel⟩⟩

theorem witness_ChannelStops :
    (∃ (s : State), s.dev.inReset = false ∧ 4 ≤ s.dev.fld F.XCMP_STATUS_CONSEC ∧ s.dev.flag F.XCMP_STATUS_TRIP = false ∧ causesSane s.dev.chA = true ∧ causesSane s.dev.chB = true) ∧
    (∃ (s : State), s.dev.inReset = false ∧ 2 ≤ s.dev.badger.noVerd ∧ s.dev.chB.has 0x45 = false ∧ causesSane s.dev.chB = true) ∧
    (∃ (s : State) (counts : Nat), s.dev.inReset = false ∧ 12625 ≤ counts ∧ s.dev.badger.perLate = false ∧ 1 ≤ s.dev.badger.perRun ∧ causesSane s.dev.chB = true) ∧
    (∃ (s : State) (ch : Chan) (p : Fin 8) (t : Nat), s.dev.inReset = false ∧ (s.dev.ch ch).disc[p] = some t ∧ p.val ≠ 7 ∧ t + 500 * msCyc ≤ s.dev.now ∧ causesSane (s.dev.ch ch) = true) ∧
    (∃ (s : State) (ch : Chan) (t : Nat), s.dev.inReset = false ∧ (s.dev.ch ch).slowAt = some t ∧ (s.dev.ch ch).still = false ∧ t + 50 * msCyc ≤ s.dev.now) :=
  ⟨⟨afterReset fun d => { d.setFld F.XCMP_STATUS_CONSEC 4 with chA := { d.chA with state := 0, booting := false }, chB := { d.chB with state := 0, booting := false } }, by decide +kernel⟩,
   ⟨afterReset fun d => { d with chA := { d.chA with state := 0, booting := false }, chB := { d.chB with state := 0, booting := false }, badger := { d.badger with noVerd := 2 } }, by decide +kernel⟩,
   ⟨afterReset fun d => { d.setFld (F.CANX_STATUS_NMT 1) 2 with chA := { d.chA with state := 0, booting := false }, chB := { d.chB with state := 0, booting := false }, badger := { d.badger with perRun := 1 } }, 70000, by decide +kernel⟩,
   ⟨afterReset fun d => { d with now := 500000000, chA := { d.chA with state := 0, disc := Vector.replicate 8 (some 0), booting := false }, chB := { d.chB with state := 0, disc := Vector.replicate 8 (some 0), booting := false } }, .b, 2, 0, by decide +kernel⟩,
   ⟨afterReset fun d => { d with now := 50000000, chA := { d.chA with state := 2, causes := [{ code := 0x22, demand := 2 }, { code := 2, demand := 1 }], still := false, slowAt := some 0, booting := false }, chB := { d.chB with state := 2, causes := [{ code := 0x22, demand := 2 }, { code := 2, demand := 1 }], still := false, slowAt := some 0, booting := false } }, .a, 0, by decide +kernel⟩⟩

theorem witness_PositionViewsAndPermits :
    (∃ (s : State), s.dev.inReset = false ∧ s.dev.badger.ref = false ∧ s.dev.badgerZone = true ∧ s.dev.chB.spd.natAbs < 10000 ∧ s.dev.marten.valid = true ∧ 0 < s.dev.bLandings ∧ |s.dev.rdI R.XCMP_A_POS - s.dev.bLand (nearest s.dev.bLand s.dev.bLandings (s.dev.rdI R.XCMP_A_POS))| ≤ (s.dev.bpar 0x2704 1 : Int)) ∧
    (∃ (s : State) (i : Nat) (m : Int) (q : Int), s.dev.inReset = false ∧ s.dev.passWhole = true ∧ s.dev.badgerCentre = some m ∧ s.dev.bLandings ≠ 0 ∧ s.dev.badger.ref = true ∧ s.dev.badgerNearest (s.dev.badgerUnit * s.dev.badger.off + m) = i ∧ s.dev.badgerUnit * (s.dev.bLand i - s.dev.bSill) - (s.dev.badgerUnit * s.dev.badger.off + m) = q ∧ |q| ≤ s.dev.badgerUnit * s.dev.bpar 0x2701 4) ∧
    (∃ (s : State) (i : Nat) (m : Int) (q : Int), s.dev.inReset = false ∧ s.dev.passWhole = true ∧ s.dev.badgerCentre = some m ∧ s.dev.bLandings ≠ 0 ∧ s.dev.badger.ref = true ∧ s.dev.badgerNearest (s.dev.badgerUnit * s.dev.badger.off + m) = i ∧ s.dev.badgerUnit * (s.dev.bLand i - s.dev.bSill) - (s.dev.badgerUnit * s.dev.badger.off + m) = q ∧ s.dev.badgerUnit * s.dev.bpar 0x2701 4 < |q| ∧ causesSane s.dev.chB = true) ∧
    (∃ (s : State), s.dev.inReset = false ∧ 8 ≤ s.dev.marten.bad ∧ s.dev.marten.deg = false) ∧
    (∃ (s : State), s.dev.inReset = false ∧ s.dev.mayUse 5 R.XCMP_A_COMMIT = true) ∧
    (∃ (s : State) (k : Fin 2), s.dev.inReset = false ∧ (4 ≤ s.dev.marten.permRun[k] ∨ s.dev.ilimHigh k = true) ∧ s.dev.flag (F.DOOR_PERMIT_PERMIT k.val) = true) ∧
    (∃ (s : State) (k : Fin 2) (t : Nat), s.dev.inReset = false ∧ (s.dev.marten.permCut[k] = false ∨ (s.dev.marten.permStill[k] = some t ∧ t + 1000 * msCyc ≤ s.dev.now)) ∧ s.dev.flag (F.DOOR_PERMIT_PERMIT k.val) = false) ∧
    (∃ (s : State), s.dev.inReset = false ∧ s.dev.mayUse 5 R.SOUT_APERM = true) :=
  ⟨⟨afterReset fun d => { (d.wrI R.XCMP_A_POS 5000).setFld F.PGEN_STATUS_STATE 0 with marten := { d.marten with valid := true }, chB := { d.chB with sin := 0xC000 }, nv := { d.nv with bmap := [2, 4000, 9000, 0, 0, 0, 0, 0], bset := [(odKey 0x2704 1, 100000)] } }, by decide +kernel⟩,
   ⟨afterReset fun d => { d with badger := { d.badger with ref := true, off := 3990, pass := Vector.replicate 4 (some { count := 0, turns := 0 }) }, nv := { d.nv with bmap := [2, 4000, 9000, 0, 0, 0, 0, 0], bset := [(odKey 0x2701 4, 20), (odKey 0x2701 6, 1)] } }, 0, 0, 40, by decide +kernel⟩,
   ⟨afterReset fun d => { d with badger := { d.badger with ref := true, off := 3990, pass := Vector.replicate 4 (some { count := 0, turns := 0 }) }, nv := { d.nv with bmap := [2, 4000, 9000, 0, 0, 0, 0, 0], bset := [(odKey 0x2701 4, 5), (odKey 0x2701 6, 1)] } }, 0, 0, 40, by decide +kernel⟩,
   ⟨afterReset fun d => { d with marten := { d.marten with bad := 8 }, chA := { d.chA with have_ := true } }, by decide +kernel⟩,
   ⟨State.reset, by decide +kernel⟩,
   ⟨afterReset fun d => { (d.setFlag (F.DOOR_PERMIT_PERMIT 1) true).setFlag (F.DOOR_STATUS_DRVEN 1) true with marten := { d.marten with permRun := Vector.replicate 2 4 } }, 1, by decide +kernel⟩,
   ⟨afterReset fun d => { d with now := 500000000, marten := { d.marten with permStill := Vector.replicate 2 (some 0), permCut := Vector.replicate 2 true } }, 1, 0, by decide +kernel⟩,
   ⟨afterReset fun d => { d.wrN R.SOUT_APERM 31 with sout := { d.sout with cl := Vector.replicate 10 true } }, by decide +kernel⟩⟩

theorem witness_SafetySetTransfers :
    (∃ (s : State) (c : Client) (crc : Word), s.dev.inReset = false ∧ (s.dev.writeCheck c 0x2700 1 (leBytes 4 crc.toNat)).1 = 0 ∧ s.dev.setFault = none) ∧
    (∃ (s : State) (c : Client) (crc : Word) (r : Nat), s.dev.inReset = false ∧ (s.dev.writeCheck c 0x2700 1 (leBytes 4 crc.toNat)).1 = 0 ∧ s.dev.setFault = some r) ∧
    (∃ (s : State) (c : Client), s.dev.inReset = false ∧ (s.dev.writeCheck c 0x2700 6 [1]).1 = 0) ∧
    (∃ (s : State), s.dev.inReset = false ∧ s.dev.mayUse 5 R.XCMP_BPARAM = true) ∧
    (∃ (s : State), s.dev.inReset = false ∧ s.dev.mayUse 5 R.XCMP_BMAP = true) :=
  ⟨⟨afterReset fun d => { d.setFld F.PRES_STATUS_LEVEL 2 with odPend := [(odKey 0x2705 3, 900000), (odKey 0x2705 2, 500000), (odKey 0x2710 1, 0)] }, .loc 2, 77, by decide +kernel⟩,
   ⟨afterReset fun d => { d.setFld F.PRES_STATUS_LEVEL 2 with odPend := [(odKey 0x2705 3, 5), (odKey 0x2705 2, 50)] }, .loc 2, 77, 1, by decide +kernel⟩,
   ⟨afterReset fun d => { d.setFld F.PRES_STATUS_LEVEL 2 with odPend := [(odKey 0x2705 3, 5), (odKey 0x2705 2, 50)] }, .loc 2, by decide +kernel⟩,
   ⟨State.reset, by decide +kernel⟩,
   ⟨afterReset fun d => { d with od := [(odKey 0x2105 1, 4)] }, by decide +kernel⟩⟩

theorem witness_SequencerAdvances :
    (∃ (s : State), s.dev.inReset = false ∧ s.dev.seq = 0 ∧ s.dev.driveEn = true ∧ s.dev.sout.ttStep = 0 ∧ s.dev.stopNow = false ∧ s.dev.sout.vsLow = false ∧ s.dev.anyOutFault = false ∧ s.dev.sout.aSeen = true ∧ s.dev.sout.bSeen = true ∧ s.dev.sout.pfail = none ∧ s.dev.startAllowed .a = true ∧ s.dev.startAllowed .b = true) ∧
    (∃ (s : State), s.dev.inReset = false ∧ s.dev.seq = 1 ∧ s.dev.sout.seqAt + s.dev.par 0x2711 3 * msCyc ≤ s.dev.now ∧ s.dev.driveTorque = true) ∧
    (∃ (s : State), s.dev.inReset = false ∧ s.dev.seq = 2 ∧ s.dev.brakesShow true = true) ∧
    (∃ (s : State), s.dev.inReset = false ∧ s.dev.chA.still = true ∧ s.dev.chB.still = true ∧ ((s.dev.seq = 3 ∧ s.dev.pgState ∈ [0, 4]) ∨ (s.dev.seq ∈ [1, 2, 3] ∧ (s.dev.chA.state = 1 ∨ s.dev.chB.state = 1)))) ∧
    (∃ (s : State), s.dev.inReset = false ∧ s.dev.seq = 4 ∧ s.dev.sout.seqAt + s.dev.par 0x2712 5 * msCyc ≤ s.dev.now ∧ s.dev.brakesShow false = true) ∧
    (∃ (s : State), s.dev.inReset = false ∧ s.dev.seq = 5 ∧ s.dev.sout.seqAt + s.dev.par 0x2711 4 * msCyc ≤ s.dev.now) ∧
    (∃ (s : State) (b : Fin 2), s.dev.inReset = false ∧ s.dev.bothClosed b.val = true ∧ s.dev.sout.tclose.toList.getD b.val 0 + s.dev.par 0x2711 1 * msCyc ≤ s.dev.now) :=
  ⟨⟨afterReset fun d => { (d.setFld F.PGEN_STATUS_STATE 1) with now := 50000000000, chA := { d.chA with state := 0, booting := false }, chB := { d.chB with state := 0, booting := false }, sout := { d.sout with aSeen := true, bSeen := true } }, by decide +kernel⟩,
   ⟨afterReset fun d => { (d.setFld F.SOUT_STATUS_SEQ 1) with now := 50000000000, od := [(odKey 0x2211 1, 3)], sout := { d.sout with seqAt := 0 } }, by decide +kernel⟩,
   ⟨afterReset fun d => { d.setFld F.SOUT_STATUS_SEQ 2 with od := [(odKey 0x2710 1, 0)] }, by decide +kernel⟩,
   ⟨afterReset fun d => { (d.setFld F.SOUT_STATUS_SEQ 3) with now := 50000000000, chA := { d.chA with still := true }, chB := { d.chB with still := true }, sout := { d.sout with cl := Vector.replicate 10 true } }, by decide +kernel⟩,
   ⟨afterReset fun d => { (d.setFld F.SOUT_STATUS_SEQ 4).wrN R.SOUT_APERM 31 with now := 50000000000, od := [(odKey 0x2710 1, 0)], sout := { d.sout with cl := Vector.replicate 10 true } }, by decide +kernel⟩,
   ⟨afterReset fun d => { (d.setFld F.SOUT_STATUS_SEQ 5) with now := 50000000000, sout := { d.sout with cl := Vector.replicate 10 true } }, by decide +kernel⟩,
   ⟨afterReset fun d => { d with now := 50000000000, sout := { d.sout with cl := Vector.replicate 10 true } }, 1, by decide +kernel⟩⟩

theorem witness_OutputTests :
    (∃ (s : State) (rd : OutReading) (kind : Nat), s.dev.inReset = false ∧ s.dev.sout.test = none ∧ s.dev.sout.aSeen = true ∧ s.dev.sout.bSeen = true ∧ s.dev.sout.pfail = none ∧ ((∀ t ∈ s.dev.sout.lastTest, t + s.dev.par 0x2713 1 * msCyc / 20 ≤ (s.dev.at (20 * usCyc)).now)) ∧ (s.dev.fld F.SOUT_TEST_NEXT < 8 ∨ s.dev.sw (s.dev.fld F.SOUT_TEST_NEXT) = true) ∧ (s.dev.at (20 * usCyc)).testKind (s.dev.fld F.SOUT_TEST_NEXT) rd = some kind) ∧
    (∃ (s : State) (off : Nat) (rd : OutReading) (others : List OutReading) (t : TestRun), s.dev.inReset = false ∧ s.dev.sout.test = some t ∧ t.s < 10 ∧ ((t.kind ≠ 1 ∨ 8 ≤ t.s ∨ t.s % 2 ≠ 0 ∨ (s.dev.at off).crossed (swOutput t.s) others = [])) ∧ s.dev.testExpected t.s t.kind rd = true ∧ (s.dev.at off).now < t.start + 300 * usCyc) ∧
    (∃ (s : State) (off : Nat) (t : TestRun), s.dev.inReset = false ∧ s.dev.sout.test = some t ∧ t.s < 10 ∧ t.start + 300 * usCyc ≤ (s.dev.at off).now ∧ s.dev.outFaultCode (swOutput t.s) = 0 ∧ causesSane s.dev.chA = true ∧ causesSane s.dev.chB = true) ∧
    (∃ (s : State) (off : Nat) (others : List OutReading) (t : TestRun) (y : Nat) (l : List Nat), s.dev.inReset = false ∧ s.dev.sout.test = some t ∧ t.kind = 1 ∧ t.s < 8 ∧ t.s % 2 = 0 ∧ (s.dev.at off).crossed (swOutput t.s) others = y :: l ∧ (s.dev.at off).now < t.start + 300 * usCyc ∧ s.dev.outFaultCode (swOutput t.s) = 0 ∧ s.dev.outFaultCode y = 0) ∧
    (∃ (s : State) (i : Fin 10), s.dev.inReset = false ∧ s.dev.par 0x2713 1 * msCyc < s.dev.now - s.dev.sout.passed[i] ∧ s.dev.sout.overdue[i] = false) ∧
    (∃ (s : State) (i : Fin 10), s.dev.inReset = false ∧ s.dev.tooOld i.val = true) :=
  ⟨⟨afterReset fun d => { (d.setFld F.SOUT_TEST_NEXT 3) with now := 50000000000, ana := { d.ana with done := none }, sout := { d.sout with aSeen := true, bSeen := true, vsafe := 24000 } }, { hi := 5000, lo := 5000 }, 1, by decide +kernel⟩,
   ⟨afterReset fun d => { d with now := 50000000000, sout := { d.sout with vsafe := 24000, test := some { s := 2, kind := 1, start := 49999950000 } } }, 9000, { hi := 24000, lo := 24000 }, [], { s := 2, kind := 1, start := 49999950000 }, by decide +kernel⟩,
   ⟨afterReset fun d => { d with now := 50000000000, sout := { d.sout with vsafe := 24000, test := some { s := 2, kind := 1, start := 0 } } }, 9000, { s := 2, kind := 1, start := 0 }, by decide +kernel⟩,
   ⟨afterReset fun d => { d with now := 50000000000, sout := { d.sout with vsafe := 24000, test := some { s := 2, kind := 1, start := 49999950000 } } }, 9000, [{}, {}, {}, { hi := 24000 }], { s := 2, kind := 1, start := 49999950000 }, 3, [], by decide +kernel⟩,
   ⟨afterReset fun d => { d with now := 50000000000, sout := { d.sout with vsafe := 0 } }, 5, by decide +kernel⟩,
   ⟨afterReset fun d => { d with now := 50000000000, chA := { d.chA with state := 0, booting := false }, chB := { d.chB with state := 0, booting := false }, sout := { d.sout with vsafe := 0 } }, 5, by decide +kernel⟩⟩

theorem witness_OutputFaultsStop :
    (∃ (s : State) (x : Fin 6) (t : Nat), s.dev.inReset = false ∧ s.dev.sout.oc[x] = some t ∧ t + 10 * msCyc ≤ s.dev.now ∧ s.dev.outFaultCode x.val = 0 ∧ causesSane s.dev.chA = true ∧ causesSane s.dev.chB = true) ∧
    (∃ (s : State) (x : Fin 4) (t : Nat), s.dev.inReset = false ∧ s.dev.sout.mon[x] = some t ∧ t + s.dev.par 0x2712 4 * msCyc ≤ s.dev.now ∧ s.dev.outFaultCode x.val = 0 ∧ causesSane s.dev.chA = true) :=
  ⟨⟨afterReset fun d => { d with now := 50000000000, chA := { d.chA with state := 0, booting := false }, chB := { d.chB with state := 0, booting := false }, sout := { d.sout with oc := Vector.replicate 6 (some 7) } }, 5, 7, by decide +kernel⟩,
   ⟨afterReset fun d => { (d.wrN R.SOUT_APERM 31) with now := 50000000000, chA := { d.chA with state := 0, booting := false }, chB := { d.chB with state := 0, booting := false }, sout := { d.sout with mon := Vector.replicate 4 (some 7), cl := Vector.replicate 10 true } }, 2, 7, by decide +kernel⟩⟩

theorem witness_TorqueTestAndSiteReset :
    (∃ (s : State), s.dev.inReset = false ∧ s.dev.sout.ttStep = 0 ∧ s.dev.torqueInterval ≤ s.dev.now - s.dev.sout.ttLast) ∧
    (∃ (s : State), s.dev.inReset = false ∧ s.dev.sout.ttStep = 0 ∧ s.dev.torqueInterval ≤ s.dev.now - s.dev.sout.ttLast ∧ s.dev.quietPoint = true ∧ s.dev.bothRun = true ∧ s.dev.carEmpty = true ∧ s.dev.chainClosed = true ∧ s.dev.seq = 0 ∧ s.dev.sout.vsLow = false ∧ s.dev.anyOutFault = false) ∧
    (∃ (s : State), s.dev.inReset = false ∧ s.dev.sout.ttStep = 2 ∧ s.dev.sout.ttAt + s.dev.par 0x2715 2 * msCyc ≤ s.dev.now ∧ s.dev.sout.ttBrake = 0 ∧ bitN s.dev.brakesInUse 1 = true) ∧
    (∃ (s : State), s.dev.inReset = false ∧ s.dev.sout.ttStep = 2 ∧ s.dev.sout.ttAt + s.dev.par 0x2715 2 * msCyc ≤ s.dev.now ∧ (s.dev.sout.ttBrake ≠ 0 ∨ bitN s.dev.brakesInUse 1 = false)) ∧
    (∃ (s : State), s.dev.inReset = false ∧ s.dev.torqueOld = true) ∧
    (∃ (s : State) (e : ResetEdge), s.dev.inReset = false ∧ edgeValid e = true ∧ s.dev.sout.ignore = false ∧ s.dev.chA.booting = false ∧ s.dev.chB.booting = false ∧ s.dev.level ≠ 2 ∧ s.dev.chA.state ≠ 3 ∧ s.dev.chB.state ≠ 3 ∧ s.dev.fld F.SOUT_RST_EDGES < 2 ^ F.SOUT_RST_EDGES.width - 1) ∧
    (∃ (s : State) (e : ResetEdge), s.dev.inReset = false ∧ edgeValid e = true ∧ s.dev.sout.ignore = false ∧ s.dev.chA.booting = false ∧ s.dev.chB.booting = false ∧ s.dev.level ≠ 2 ∧ s.dev.mayRelease .a s.dev.level = true ∧ s.dev.mayRelease .b s.dev.level = true ∧ s.dev.faultsIdle = true) ∧
    (∃ (s : State) (mask : Fin 4), s.dev.inReset = false ∧ s.dev.sout.ignore = false ∧ mask ≠ 0) ∧
    (∃ (s : State) (levels : Fin 4), s.dev.inReset = false ∧ s.dev.sout.ignore = false ∧ levels ≠ 0 ∧ levels ≠ 3) ∧
    (∃ (s : State), s.dev.inReset = false) :=
  ⟨⟨afterReset fun d => { d with now := 50000000000, od := [(odKey 0x2715 1, 0)], sout := { d.sout with ttStep := 0 } }, by decide +kernel⟩,
   ⟨afterReset fun d => { ((d.setFlag F.ANA_LOADSTAT_VALID true)) with now := 50000000000, od := [(odKey 0x2715 1, 0), (odKey 0x2704 1, 100000), (odKey 0x2105 1, 1), (odKey 0x2201 3, 900)], chA := { d.chA with state := 0, chain := 7, booting := false }, chB := { d.chB with state := 0, chain := 7, booting := false }, sout := { d.sout with ttStep := 0 } }, by decide +kernel⟩,
   ⟨afterReset fun d => { (d.setFld F.SOUT_STATUS_SEQ 6) with now := 50000000000, sout := { d.sout with ttStep := 2 } }, by decide +kernel⟩,
   ⟨afterReset fun d => { (d.setFld F.SOUT_STATUS_SEQ 6) with now := 50000000000, sout := { d.sout with ttStep := 2, ttBrake := 1 } }, by decide +kernel⟩,
   ⟨afterReset fun d => { d with now := 50000000000, od := [(odKey 0x2715 1, 0)], chA := { d.chA with state := 0, booting := false }, chB := { d.chB with state := 0, booting := false }, sout := { d.sout with ttStep := 0 } }, by decide +kernel⟩,
   ⟨afterReset fun d => { d with chA := { d.chA with state := 0, booting := false }, chB := { d.chB with state := 0, booting := false } }, { dur0 := 80000000, dur1 := 80000000, gap := 0, chans := 0 }, by decide +kernel⟩,
   ⟨afterReset fun d => { d with chA := { d.chA with state := 3, still := true, spd := 0, causes := [{ code := 0x12, demand := 3, seen := 0 }, { code := 2, demand := 1 }], booting := false }, chB := { d.chB with state := 3, still := true, spd := 0, causes := [{ code := 0x12, demand := 3, seen := 0 }, { code := 2, demand := 1 }], booting := false }, now := 50000000, sout := { d.sout with ignore := false } }, { dur0 := 80000000, dur1 := 80000000, gap := 0, chans := 0 }, by decide +kernel⟩,
   ⟨State.reset, 1, by decide +kernel⟩,
   ⟨State.reset, 2, by decide +kernel⟩,
   ⟨afterReset fun d => { d with sout := { d.sout with ignore := true } }, by decide +kernel⟩⟩

theorem witness_FieldInputs :
    (∃ (s : State) (c : Fin 52) (held : Nat), s.dev.inReset = false ∧ s.dev.fldF (F.IO24_INCFG_FILT c.val) * 40000 ≤ held) ∧
    (∃ (s : State) (c : Fin 52) (held : Nat), s.dev.inReset = false ∧ held < s.dev.fldF (F.IO24_INCFG_FILT c.val) * 40000) ∧
    (∃ (s : State) (ch : Chan) (held : Nat), s.dev.inReset = false ∧ s.dev.parOf ch 0x2709 9 * 40000 ≤ held) ∧
    (∃ (s : State) (ch : Chan) (held : Nat), s.dev.inReset = false ∧ s.dev.parOf ch 0x2709 9 * 40000 ≤ held) ∧
    (∃ (s : State) (ch : Chan) (held : Nat), s.dev.inReset = false ∧ held < s.dev.parOf ch 0x2709 9 * 40000) ∧
    (∃ (s : State) (t : Nat), s.dev.inReset = false ∧ s.dev.io.tapAt = some t ∧ t + 500 * msCyc ≤ s.dev.now ∧ s.dev.io.tapLog = false) ∧
    (∃ (s : State) (t : Fin 4), s.dev.inReset = false ∧ s.dev.io.tpOn = true ∧ s.dev.sout.pfail = none ∧ s.dev.tick % (8 * s.dev.par 0x270A 10) = 2 * s.dev.par 0x270A 10 * t.val) ∧
    (∃ (s : State) (t : Fin 4), s.dev.inReset = false ∧ s.dev.io.tpOn = true ∧ bitN (s.dev.fld F.IO24_TP_LVL) t.val = false) :=
  ⟨⟨State.reset, 40, 4000000000, by decide +kernel⟩,
   ⟨afterReset fun d => (d.setFld (F.IO24_INCFG_FILT 40) 1).settled, 40, 39999, by decide +kernel⟩,
   ⟨State.reset, .b, 4000000000, by decide +kernel⟩,
   ⟨State.reset, .b, 4000000000, by decide +kernel⟩,
   ⟨State.reset, .b, 0, by decide +kernel⟩,
   ⟨afterReset fun d => { d with now := 500000000, io := { d.io with tapAt := some 0 } }, 0, by decide +kernel⟩,
   ⟨afterReset fun d => { d.setFld F.IO24_TP_LVL 15 with io := { d.io with tpOn := true } }, 0, by decide +kernel⟩,
   ⟨afterReset fun d => { d.setFld F.IO24_TP_LVL 14 with io := { d.io with tpOn := true }, od := [(odKey 0x270A 1, 0x21)] }, 0, by decide +kernel⟩⟩

theorem witness_FieldOutputs :
    (∃ (s : State) (m : Master), s.dev.inReset = false ∧ s.dev.mayUse m R.IO24_OUTSET = true) ∧
    (∃ (s : State) (m : Master), s.dev.inReset = false ∧ s.dev.mayUse m R.IO24_OUTCLR = true) ∧
    (∃ (s : State) (m : Master) (out : Bool) (n : Fin 52) (val : Word), s.dev.inReset = false ∧ s.dev.mayUse m (if out then R.IO24_OUTMAP n.val else R.IO24_INCFG n.val) = true ∧ n.val < (if out then 32 else 48) ∧ 1 ≤ s.dev.level ∧ s.dev.padFree out n.val (fldOf val (padField out n.val)) = true) ∧
    (∃ (s : State) (p : Fin 36) (off : Nat), s.dev.inReset = false ∧ s.dev.flag (F.IO24_OUTSTAT_ON p.val) = true ∧ s.dev.supplyOk (padSupply p.val) = true ∧ (recentTherm (s.dev.padSt p) (s.dev.at off).now).length < 3) ∧
    (∃ (s : State) (p : Fin 36) (off : Nat), s.dev.inReset = false ∧ s.dev.flag (F.IO24_OUTSTAT_ON p.val) = true ∧ s.dev.supplyOk (padSupply p.val) = true ∧ 3 ≤ (recentTherm (s.dev.padSt p) (s.dev.at off).now).length) ∧
    (∃ (s : State) (p : Fin 36), s.dev.inReset = false ∧ s.dev.flag (F.IO24_OUTSTAT_ON p.val) = true ∧ s.dev.supplyOk (padSupply p.val) = false) ∧
    (∃ (s : State) (p : Fin 36), s.dev.inReset = false ∧ s.dev.flag (F.IO24_OUTSTAT_TSD p.val) = true) ∧
    (∃ (s : State) (p : Fin 36) (ma : Nat) (t : Nat), s.dev.inReset = false ∧ (s.dev.padSt p).olAt = some t ∧ t + 100 * msCyc ≤ s.dev.now ∧ ma < 5 ∧ s.dev.padFault p.val = 0) ∧
    (∃ (s : State) (m : Master), s.dev.inReset = false ∧ s.dev.mayUse m R.IO24_CLRF = true) ∧
    (∃ (s : State) (f : Fin 2) (u : SupplyState) (mv : Nat), s.dev.inReset = false ∧ s.dev.fld (F.IO24_FIELD_STATE f.val) ≠ supplyNum u ∧ mv < 655360) :=
  ⟨⟨afterReset fun d => d.wr R.IO24_OUTCMD 0xF0, 2, by decide +kernel⟩,
   ⟨afterReset fun d => d.wr R.IO24_OUTCMD 0xF0, 2, by decide +kernel⟩,
   ⟨afterReset fun d => d.setFld F.PRES_STATUS_LEVEL 1, 2, false, 3, 0x10532, by decide +kernel⟩,
   ⟨afterReset fun d => (d.setFlag (F.IO24_OUTSTAT_ON 7) true).setFld (F.IO24_FIELD_STATE 0) 0, 7, 30, by decide +kernel⟩,
   ⟨afterReset fun d => { (d.setFlag (F.IO24_OUTSTAT_ON 7) true).setFld (F.IO24_FIELD_STATE 0) 0 with now := 900, io := { d.io with pads := Vector.replicate 36 { therm := [9, 8, 7] } } }, 7, 30, by decide +kernel⟩,
   ⟨afterReset fun d => (d.setFlag (F.IO24_OUTSTAT_ON 7) true).setFld (F.IO24_FIELD_STATE 0) 2, 7, by decide +kernel⟩,
   ⟨afterReset fun d => ((d.setFlag (F.IO24_OUTSTAT_TSD 7) true).wr R.IO24_OUTCMD 0xF0).settled, 7, by decide +kernel⟩,
   ⟨afterReset fun d => { d with now := 500000000, io := { d.io with pads := Vector.replicate 36 { olAt := some 0 } } }, 7, 4, 0, by decide +kernel⟩,
   ⟨afterReset fun d => d.setFld (F.IO24_OUTSTAT_FAULT 7) 3, 3, by decide +kernel⟩,
   ⟨afterReset fun d => d.setFld (F.IO24_FIELD_STATE 1) 2, 1, .ok, 24000, by decide +kernel⟩⟩

theorem witness_CanPortStates :
    (∃ (s : State) (p : Fin 2) (node : Nat), s.dev.inReset = false ∧ s.dev.nmtHeard p node = true) ∧
    (∃ (s : State) (p : Fin 2) (node : Nat), s.dev.inReset = false ∧ s.dev.nmtHeard p node = true) ∧
    (∃ (s : State) (p : Fin 2) (node : Nat), s.dev.inReset = false ∧ s.dev.nmtHeard p node = true) ∧
    (∃ (s : State) (p : Fin 2) (node : Nat), s.dev.inReset = false ∧ s.dev.nmtHeard p node = true) ∧
    (∃ (s : State) (p : Fin 2) (node : Nat), s.dev.inReset = false ∧ s.dev.nmtHeard p node = true) ∧
    (∃ (s : State) (p : Fin 2), s.dev.inReset = false ∧ s.dev.portOn p = true ∧ s.dev.flag (F.CANX_STATUS_BUSOFF p.val) = false) ∧
    (∃ (s : State) (p : Fin 2), s.dev.inReset = false ∧ s.dev.portOn p = true ∧ s.dev.flag (F.CANX_STATUS_BUSOFF p.val) = true) ∧
    (∃ (s : State) (p : Fin 2), s.dev.inReset = false ∧ s.dev.portOn p = true) ∧
    (∃ (s : State) (p : Fin 2), s.dev.inReset = false ∧ s.dev.portOn p = true) :=
  ⟨⟨afterReset fun d => { (((d.setFld (F.CANX_CFG_MODE 1) 1).setFld (F.CANX_CFG_NODEID 1) 9).setFld (F.CANX_STATUS_NMT 1) 2).setFld (F.CANX_STATUS_NMT 1) 1 with now := 50000000000 }, 1, 9, by decide +kernel⟩,
   ⟨afterReset fun d => { (((d.setFld (F.CANX_CFG_MODE 1) 1).setFld (F.CANX_CFG_NODEID 1) 9).setFld (F.CANX_STATUS_NMT 1) 2).setFld (F.CANX_STATUS_NMT 1) 1 with now := 50000000000 }, 1, 9, by decide +kernel⟩,
   ⟨afterReset fun d => { (((d.setFld (F.CANX_CFG_MODE 1) 1).setFld (F.CANX_CFG_NODEID 1) 9).setFld (F.CANX_STATUS_NMT 1) 2).setFld (F.CANX_STATUS_NMT 1) 1 with now := 50000000000 }, 1, 9, by decide +kernel⟩,
   ⟨afterReset fun d => { (((d.setFld (F.CANX_CFG_MODE 1) 1).setFld (F.CANX_CFG_NODEID 1) 9).setFld (F.CANX_STATUS_NMT 1) 2).setFld (F.CANX_STATUS_NMT 1) 1 with now := 50000000000 }, 1, 9, by decide +kernel⟩,
   ⟨afterReset fun d => { (((d.setFld (F.CANX_CFG_MODE 1) 1).setFld (F.CANX_CFG_NODEID 1) 9).setFld (F.CANX_STATUS_NMT 1) 2).setFld (F.CANX_STATUS_NMT 1) 1 with now := 50000000000 }, 1, 9, by decide +kernel⟩,
   ⟨afterReset fun d => { (((d.setFld (F.CANX_CFG_MODE 1) 1).setFld (F.CANX_CFG_NODEID 1) 9).setFld (F.CANX_STATUS_NMT 1) 2) with now := 50000000000 }, 1, by decide +kernel⟩,
   ⟨afterReset fun d => { (((d.setFld (F.CANX_CFG_MODE 1) 1).setFld (F.CANX_CFG_NODEID 1) 9).setFld (F.CANX_STATUS_NMT 1) 2).setFlag (F.CANX_STATUS_BUSOFF 1) true with now := 50000000000 }, 1, by decide +kernel⟩,
   ⟨afterReset fun d => { (((d.setFld (F.CANX_CFG_MODE 1) 1).setFld (F.CANX_CFG_NODEID 1) 9).setFld (F.CANX_STATUS_NMT 1) 2) with now := 50000000000 }, 1, by decide +kernel⟩,
   ⟨afterReset fun d => { (((d.setFld (F.CANX_CFG_MODE 1) 1).setFld (F.CANX_CFG_NODEID 1) 9).setFld (F.CANX_STATUS_NMT 1) 2).setFlag (F.CANX_STATUS_EPASS 1) true with now := 50000000000 }, 1, by decide +kernel⟩⟩

theorem witness_CanFrames :
    (∃ (s : State) (p : Fin 2), s.dev.inReset = false ∧ s.dev.portTalks p = true ∧ s.dev.od? 0x1017 0 ≠ 0) ∧
    (∃ (s : State) (p : Fin 2) (e : Emcy) (t : List Emcy), s.dev.inReset = false ∧ s.dev.can[p].emcy = e :: t ∧ s.dev.portTalks p = true ∧ s.dev.fld (F.CANX_STATUS_NMT p.val) ∈ [1, 2] ∧ s.dev.emcyFree p = true) ∧
    (∃ (s : State) (n : Fin 16), s.dev.inReset = false ∧ n ≠ 8 ∧ s.dev.pdoOn 0x1800 n = true ∧ s.dev.tpdoFree n = true ∧ (s.dev.tpdoData n ≠ (s.dev.ode.tpdo[n]).last ∨ s.dev.tpdoTimer n = true)) ∧
    (∃ (s : State), s.dev.inReset = false ∧ s.dev.srdoRuns = true ∧ s.dev.od? 0x1301 1 = 1) ∧
    (∃ (s : State) (b : List Byte), s.dev.inReset = false ∧ s.dev.srdo2On = true ∧ s.dev.srdoRuns = true ∧ b ≠ [] ∧ ((b.headD 0 = 1 ∧ s.dev.fld (F.SOUT_STO_STATE_HCLASS 0) = 0 ∧ s.dev.fld (F.SOUT_STO_STATE_HCLASS 1) = 0 → s.dev.ode.contra < 2))) ∧
    (∃ (s : State) (b : List Byte), s.dev.inReset = false ∧ s.dev.srdo2On = true ∧ s.dev.srdoRuns = true ∧ b.headD 0 = 1 ∧ s.dev.fld (F.SOUT_STO_STATE_HCLASS 0) = 0 ∧ s.dev.fld (F.SOUT_STO_STATE_HCLASS 1) = 0 ∧ 2 ≤ s.dev.ode.contra ∧ s.dev.outFaultCode 4 = 0 ∧ causesSane s.dev.chA = true) ∧
    (∃ (s : State), s.dev.inReset = false ∧ s.dev.srdo2On = true ∧ s.dev.chA.booting = false) :=
  ⟨⟨afterReset fun d => { (((d.setFld (F.CANX_CFG_MODE 1) 1).setFld (F.CANX_CFG_NODEID 1) 9).setFld (F.CANX_STATUS_NMT 1) 2) with now := 50000000000, od := [(odKey 0x1017 0, 1000)] }, 1, by decide +kernel⟩,
   ⟨afterReset fun d => { (((d.setFld (F.CANX_CFG_MODE 1) 1).setFld (F.CANX_CFG_NODEID 1) 9).setFld (F.CANX_STATUS_NMT 1) 2) with now := 50000000000, can := d.can.set 1 { emcy := [{ err := 0xFF80, code := 0x8001, p1 := 5, ts := 77 }] } }, 1, { err := 0xFF80, code := 0x8001, p1 := 5, ts := 77 }, [], by decide +kernel⟩,
   ⟨afterReset fun d => { (((d.setFld (F.CANX_CFG_MODE 1) 1).setFld (F.CANX_CFG_NODEID 1) 9).setFld (F.CANX_STATUS_NMT 1) 2) with now := 50000000000, od := [(odKey 0x1809 1, 0x285)] }, 9, by decide +kernel⟩,
   ⟨afterReset fun d => { (((d.setFld (F.CANX_CFG_MODE 1) 1).setFld (F.CANX_CFG_NODEID 1) 9).setFld (F.CANX_STATUS_NMT 1) 2) with now := 50000000000, od := [(odKey 0x1301 1, 1), (odKey 0x1301 6, 0x102)], chA := { d.chA with booting := false, state := 2 } }, by decide +kernel⟩,
   ⟨afterReset fun d => { (((d.setFld (F.CANX_CFG_MODE 1) 1).setFld (F.CANX_CFG_NODEID 1) 9).setFld (F.CANX_STATUS_NMT 1) 2) with now := 50000000000, od := [(odKey 0x1302 1, 2)], chA := { d.chA with booting := false, state := 0 } }, [1, 5], by decide +kernel⟩,
   ⟨afterReset fun d => { (((d.setFld (F.CANX_CFG_MODE 1) 1).setFld (F.CANX_CFG_NODEID 1) 9).setFld (F.CANX_STATUS_NMT 1) 2) with now := 50000000000, od := [(odKey 0x1302 1, 2)], chA := { d.chA with booting := false, state := 0 }, ode := { d.ode with contra := 2 } }, [1, 5], by decide +kernel⟩,
   ⟨afterReset fun d => { (((d.setFld (F.CANX_CFG_MODE 1) 1).setFld (F.CANX_CFG_NODEID 1) 9).setFld (F.CANX_STATUS_NMT 1) 2) with now := 50000000000, od := [(odKey 0x1302 1, 2)], chA := { d.chA with booting := false, state := 0 } }, by decide +kernel⟩⟩

theorem witness_DictionaryWrites :
    (∃ (s : State) (c : Client) (idx : Nat) (sub : Nat) (b : List Byte), s.dev.inReset = false ∧ (s.dev.writeCheck c idx sub b).1 = 0) ∧
    (∃ (s : State) (c : Client) (idx : Nat) (sub : Nat) (b : List Byte), s.dev.inReset = false ∧ (s.dev.writeCheck c idx sub b).1 ≠ 0) ∧
    (∃ (s : State) (c : Client) (val : Word), s.dev.inReset = false ∧ (s.dev.writeCheck c 0x2F00 1 (leBytes 4 val.toNat)).1 = 0) ∧
    (∃ (s : State) (c : Client) (w : Staged) (l : List Staged), s.dev.inReset = false ∧ firstFence c s.dev.ode.staged = some (w, l)) ∧
    (∃ (s : State) (p : Fin 2) (node : Nat) (idx : Nat) (sub : Nat) (b : List Byte), s.dev.inReset = false ∧ s.dev.portTalks p = true ∧ (s.dev.writeCheck (.sdo p node) idx sub b).1 = 0) ∧
    (∃ (s : State) (p : Fin 2) (node : Nat) (idx : Nat) (sub : Nat) (b : List Byte), s.dev.inReset = false ∧ s.dev.portTalks p = true ∧ (s.dev.writeCheck (.sdo p node) idx sub b).1 ≠ 0) ∧
    (∃ (s : State) (p : Fin 2), s.dev.inReset = false ∧ s.dev.portTalks p = true) ∧
    (∃ (s : State) (n : Fin 16) (b : List Byte), s.dev.inReset = false ∧ s.dev.pdoOn 0x1400 n = true ∧ ((∀ e ∈ cutFrame (s.dev.pdoMap 0x1600 n) b, (s.dev.writeCheck (.pdo n) e.1 e.2.1 e.2.2).1 = 0)) ∧ s.dev.ode.staged.length + (s.dev.pdoMap 0x1600 n).length ≤ 256) ∧
    (∃ (s : State) (n : Fin 16) (b : List Byte), s.dev.inReset = false ∧ s.dev.pdoOn 0x1400 n = true ∧ (cutFrame (s.dev.pdoMap 0x1600 n) b).any (fun e => decide ((s.dev.writeCheck (.pdo n) e.1 e.2.1 e.2.2).1 ≠ 0)) = true) :=
  ⟨⟨afterReset fun d => { (((d.setFld (F.CANX_CFG_MODE 1) 1).setFld (F.CANX_CFG_NODEID 1) 9).setFld (F.CANX_STATUS_NMT 1) 2).setFld F.PRES_STATUS_LEVEL 2 with now := 50000000000 }, .loc 2, 0x1017, 0, [1, 2], by decide +kernel⟩,
   ⟨afterReset fun d => { (((d.setFld (F.CANX_CFG_MODE 1) 1).setFld (F.CANX_CFG_NODEID 1) 9).setFld (F.CANX_STATUS_NMT 1) 2).setFld F.PRES_STATUS_LEVEL 2 with now := 50000000000 }, .loc 2, 0x1017, 0, [1, 2, 3], by decide +kernel⟩,
   ⟨afterReset fun d => { (((d.setFld (F.CANX_CFG_MODE 1) 1).setFld (F.CANX_CFG_NODEID 1) 9).setFld (F.CANX_STATUS_NMT 1) 2).setFld F.PRES_STATUS_LEVEL 2 with now := 50000000000 }, .loc 2, 7, by decide +kernel⟩,
   ⟨afterReset fun d => { (((d.setFld (F.CANX_CFG_MODE 1) 1).setFld (F.CANX_CFG_NODEID 1) 9).setFld (F.CANX_STATUS_NMT 1) 2).setFld F.PRES_STATUS_LEVEL 2 with now := 50000000000, ode := { d.ode with staged := [{ client := .loc 3, at_ := 5, idx := 0x1017, sub := 0, bytes := [7, 0] }, { client := .loc 2, at_ := 5, idx := 0x2F00, sub := 1, bytes := [7, 0, 0, 0] }], fences := [(.loc 3, 5), (.loc 2, 4)] } }, .loc 2, { client := .loc 2, at_ := 5, idx := 0x2F00, sub := 1, bytes := [7, 0, 0, 0] }, [{ client := .loc 3, at_ := 5, idx := 0x1017, sub := 0, bytes := [7, 0] }], by decide +kernel⟩,
   ⟨afterReset fun d => { (((d.setFld (F.CANX_CFG_MODE 1) 1).setFld (F.CANX_CFG_NODEID 1) 9).setFld (F.CANX_STATUS_NMT 1) 2).setFld F.PRES_STATUS_LEVEL 2 with now := 50000000000 }, 1, 5, 0x1017, 0, [1, 2], by decide +kernel⟩,
   ⟨afterReset fun d => { (((d.setFld (F.CANX_CFG_MODE 1) 1).setFld (F.CANX_CFG_NODEID 1) 9).setFld (F.CANX_STATUS_NMT 1) 2).setFld F.PRES_STATUS_LEVEL 2 with now := 50000000000 }, 1, 5, 0x1017, 0, [1], by decide +kernel⟩,
   ⟨afterReset fun d => { (((d.setFld (F.CANX_CFG_MODE 1) 1).setFld (F.CANX_CFG_NODEID 1) 9).setFld (F.CANX_STATUS_NMT 1) 2).setFld F.PRES_STATUS_LEVEL 2 with now := 50000000000 }, 1, by decide +kernel⟩,
   ⟨afterReset fun d => { (((d.setFld (F.CANX_CFG_MODE 1) 1).setFld (F.CANX_CFG_NODEID 1) 9).setFld (F.CANX_STATUS_NMT 1) 2).setFld F.PRES_STATUS_LEVEL 2 with now := 50000000000, od := [(odKey 0x1409 1, 0x305), (odKey 0x1609 0, 2), (odKey 0x1609 1, 0x10170010), (odKey 0x1609 2, 0x10150010)] }, 9, [1, 2, 3, 4], by decide +kernel⟩,
   ⟨afterReset fun d => { (((d.setFld (F.CANX_CFG_MODE 1) 1).setFld (F.CANX_CFG_NODEID 1) 9).setFld (F.CANX_STATUS_NMT 1) 2).setFld F.PRES_STATUS_LEVEL 2 with now := 50000000000, od := [(odKey 0x1409 1, 0x305), (odKey 0x1609 0, 2), (odKey 0x1609 1, 0x10170010), (odKey 0x1609 2, 0x10150010)] }, 9, [1, 2, 3], by decide +kernel⟩⟩

theorem witness_ReadsShowAppliedValues :
    ∃ (s : State) (c : Client) (idx : Nat) (sub : Nat) (b : List Byte), s.dev.inReset = false ∧ (s.dev.writeCheck c idx sub b).1 = 0 :=
  ⟨afterReset fun d => d.setFld F.PRES_STATUS_LEVEL 2, .loc 2, 0x1017, 0, [7, 0], by decide +kernel⟩

theorem witness_StoredSettings :
    (∃ (s : State) (c : Client) (val : Word), s.dev.inReset = false ∧ (s.dev.writeCheck c 0x1010 1 (leBytes 4 val.toNat)).1 = 0) ∧
    (∃ (s : State) (c : Client) (val : Word), s.dev.inReset = false ∧ (s.dev.writeCheck c 0x1011 1 (leBytes 4 val.toNat)).1 = 0) ∧
    (∃ (s : State) (c : Client), s.dev.inReset = false ∧ (s.dev.writeCheck c 0x2F01 1 [1]).1 = 0 ∧ ((∀ p : Fin 2, (s.dev.pendingPort p.val 1 < 4 ∧ s.dev.pendingPort p.val 2 < 128 ∧ s.dev.pendingPort p.val 3 < 8 ∧ s.dev.pendingPort p.val 4 < 4 ∧ s.dev.pendingPort p.val 5 < 2)))) ∧
    (∃ (s : State) (m : Master) (val : Word), s.dev.inReset = false ∧ 1 ≤ m.val ∧ m.val ≤ 5 ∧ s.dev.mayUse m (R.ODE_L_REQ m.val) = true ∧ s.dev.flag (F.ODE_L_RES_BUSY m.val) = false ∧ bitN val.toNat 31 = false ∧ (entryRow (s.dev.liftIdx (fldOf val (F.ODE_L_REQ_INDEX m.val))) (fldOf val (F.ODE_L_REQ_SUB m.val))).all (fun r => r.ty != .dom) = true ∧ ((requested s.dev m val).readFor (.loc m) (fldOf val (F.ODE_L_REQ_INDEX m.val)) (fldOf val (F.ODE_L_REQ_SUB m.val))).1 = 0 ∧ ((requested s.dev m val).readFor (.loc m) (fldOf val (F.ODE_L_REQ_INDEX m.val)) (fldOf val (F.ODE_L_REQ_SUB m.val))).2.length ≤ 64) ∧
    (∃ (s : State) (m : Master) (val : Word), s.dev.inReset = false ∧ 1 ≤ m.val ∧ m.val ≤ 5 ∧ s.dev.mayUse m (R.ODE_L_REQ m.val) = true ∧ s.dev.flag (F.ODE_L_RES_BUSY m.val) = false ∧ bitN val.toNat 31 = true ∧ (entryRow (s.dev.liftIdx (fldOf val (F.ODE_L_REQ_INDEX m.val))) (fldOf val (F.ODE_L_REQ_SUB m.val))).all (fun r => r.ty != .dom) = true ∧ ((requested s.dev m val).writeCheck (.loc m) (fldOf val (F.ODE_L_REQ_INDEX m.val)) (fldOf val (F.ODE_L_REQ_SUB m.val)) ((requested s.dev m val).windowBytes m.val (fldOf val (F.ODE_L_REQ_LEN m.val)))).1 = 0) ∧
    (∃ (s : State) (m : Master) (val : Word), s.dev.inReset = false ∧ 1 ≤ m.val ∧ m.val ≤ 5 ∧ s.dev.mayUse m (R.ODE_L_REQ m.val) = true ∧ s.dev.flag (F.ODE_L_RES_BUSY m.val) = false ∧ bitN val.toNat 31 = true ∧ fldOf val (F.ODE_L_REQ_INDEX m.val) = 0x2906 ∧ fldOf val (F.ODE_L_REQ_SUB m.val) = 1 ∧ 1 ≤ fldOf val (F.ODE_L_REQ_LEN m.val) ∧ fldOf val (F.ODE_L_REQ_LEN m.val) ≤ 64 ∧ s.dev.fld (F.ODE_L_OFS_OFFSET m.val) = 0 ∧ s.dev.flag (F.ODE_L_OFS_END m.val) = false) :=
  ⟨⟨afterReset fun d => { (((d.setFld (F.CANX_CFG_MODE 1) 1).setFld (F.CANX_CFG_NODEID 1) 9).setFld (F.CANX_STATUS_NMT 1) 2).setFld F.PRES_STATUS_LEVEL 2 with now := 50000000000, od := [(odKey 0x1017 0, 77), (odKey 0x2904 6, 5)] }, .loc 2, 0x65766173, by decide +kernel⟩,
   ⟨afterReset fun d => { (((d.setFld (F.CANX_CFG_MODE 1) 1).setFld (F.CANX_CFG_NODEID 1) 9).setFld (F.CANX_STATUS_NMT 1) 2).setFld F.PRES_STATUS_LEVEL 2 with now := 50000000000 }, .loc 2, 0x64616F6C, by decide +kernel⟩,
   ⟨afterReset fun d => { (((d.setFld (F.CANX_CFG_MODE 1) 1).setFld (F.CANX_CFG_NODEID 1) 9).setFld (F.CANX_STATUS_NMT 1) 2).setFld F.PRES_STATUS_LEVEL 2 with now := 50000000000, od := [(odKey 0x2F11 2, 33), (odKey 0x2500 2, 1)] }, .loc 2, by decide +kernel⟩,
   ⟨afterReset fun d => { (((d.setFld (F.CANX_CFG_MODE 1) 1).setFld (F.CANX_CFG_NODEID 1) 9).setFld (F.CANX_STATUS_NMT 1) 2).setFld F.PRES_STATUS_LEVEL 2 with now := 50000000000 }, 2, 0x00101700, by decide +kernel⟩,
   ⟨afterReset fun d => (d.wr (R.ODE_L_DATA 2 0) 0x12345).setFld F.PRES_STATUS_LEVEL 2, 2, 0x82101700, by decide +kernel⟩,
   ⟨afterReset fun d => (d.wr (R.ODE_L_DATA 2 0) 0x12345).setFld F.PRES_STATUS_LEVEL 2, 2, 0x86290601, by decide +kernel⟩⟩

theorem witness_ServicePort :
    (∃ (s : State) (i : Fin 4), s.dev.inReset = false ∧ s.dev.sout.pfail = none ∧ s.dev.boot.todo = 0 ∧ (List.finRange 4).find? (fun j => (s.dev.ode.sess[j]).isNone) = some i) ∧
    (∃ (s : State), s.dev.inReset = false ∧ ((∀ i : Fin 4, (s.dev.ode.sess[i]).isSome = true))) ∧
    (∃ (s : State) (i : Fin 4), s.dev.inReset = false ∧ (s.dev.ode.sess[i]).isSome = true) ∧
    (∃ (s : State), s.dev.inReset = false) ∧
    (∃ (s : State) (i : Fin 4) (x : Session), s.dev.inReset = false ∧ s.dev.fspOpen i = true ∧ s.dev.recovery = false ∧ s.dev.ode.sess[i] = some x) ∧
    (∃ (s : State) (i : Fin 4) (idx : Nat) (sub : Nat) (b : List Byte) (x : Session), s.dev.inReset = false ∧ s.dev.fspOpen i = true ∧ s.dev.recovery = false ∧ s.dev.ode.sess[i] = some x ∧ (s.dev.writeCheck (.session i) idx sub b).1 = 0) ∧
    (∃ (s : State) (i : Fin 4) (b : List Byte) (x : Session), s.dev.inReset = false ∧ s.dev.fspOpen i = true ∧ s.dev.recovery = false ∧ s.dev.ode.sess[i] = some x ∧ ((∀ e ∈ batchEntries b.length b, (s.dev.writeCheck (.session i) e.1 e.2.1 e.2.2).1 = 0)) ∧ s.dev.ode.staged.length + (batchEntries b.length b).length ≤ 256) ∧
    (∃ (s : State) (i : Fin 4) (first : Nat) (cnt : Nat) (n : Nat) (x : Session), s.dev.inReset = false ∧ s.dev.fspOpen i = true ∧ s.dev.recovery = false ∧ s.dev.ode.sess[i] = some x ∧ 1 ≤ cnt ∧ cnt ≤ 64 ∧ s.dev.recordFor first = some n) ∧
    (∃ (s : State) (i : Fin 4) (file : Nat) (x : Session) (w : StoredWindow), s.dev.inReset = false ∧ s.dev.fspOpen i = true ∧ s.dev.recovery = false ∧ s.dev.ode.sess[i] = some x ∧ file < 0xFF00 ∧ s.dev.nv.winStore.find? (fun y => y.win.num == file && !y.lost) = some w) :=
  ⟨⟨afterReset fun d => { (((d.setFld (F.CANX_CFG_MODE 1) 1).setFld (F.CANX_CFG_NODEID 1) 9).setFld (F.CANX_STATUS_NMT 1) 2) with now := 50000000000, boot := { d.boot with todo := 0 } }, 0, by decide +kernel⟩,
   ⟨afterReset fun d => { (((d.setFld (F.CANX_CFG_MODE 1) 1).setFld (F.CANX_CFG_NODEID 1) 9).setFld (F.CANX_STATUS_NMT 1) 2) with now := 50000000000, ode := { d.ode with sess := Vector.replicate 4 (some { ip := 5 }) } }, by decide +kernel⟩,
   ⟨afterReset fun d => { (((d.setFld (F.CANX_CFG_MODE 1) 1).setFld (F.CANX_CFG_NODEID 1) 9).setFld (F.CANX_STATUS_NMT 1) 2) with now := 50000000000, ode := { d.ode with sess := Vector.replicate 4 (some { ip := 5 }) } }, 2, by decide +kernel⟩,
   ⟨afterReset fun d => { (((d.setFld (F.CANX_CFG_MODE 1) 1).setFld (F.CANX_CFG_NODEID 1) 9).setFld (F.CANX_STATUS_NMT 1) 2) with now := 50000000000 }, by decide +kernel⟩,
   ⟨afterReset fun d => { (((d.setFld (F.CANX_CFG_MODE 1) 1).setFld (F.CANX_CFG_NODEID 1) 9).setFld (F.CANX_STATUS_NMT 1) 2).setFld F.PRES_STATUS_LEVEL 2 with now := 50000000000, ode := { d.ode with sess := Vector.replicate 4 (some { ip := 5 }) } }, 2, { ip := 5 }, by decide +kernel⟩,
   ⟨afterReset fun d => { (((d.setFld (F.CANX_CFG_MODE 1) 1).setFld (F.CANX_CFG_NODEID 1) 9).setFld (F.CANX_STATUS_NMT 1) 2).setFld F.PRES_STATUS_LEVEL 2 with now := 50000000000, ode := { d.ode with sess := Vector.replicate 4 (some { ip := 5 }) } }, 2, 0x1017, 0, [1, 2], { ip := 5 }, by decide +kernel⟩,
   ⟨afterReset fun d => { (((d.setFld (F.CANX_CFG_MODE 1) 1).setFld (F.CANX_CFG_NODEID 1) 9).setFld (F.CANX_STATUS_NMT 1) 2).setFld F.PRES_STATUS_LEVEL 2 with now := 50000000000, ode := { d.ode with sess := Vector.replicate 4 (some { ip := 5 }) } }, 2, [0x17, 0x10, 0, 2, 7, 0, 0x15, 0x10, 0, 2, 7, 0], { ip := 5 }, by decide +kernel⟩,
   ⟨afterReset fun d => { (((d.setFld (F.CANX_CFG_MODE 1) 1).setFld (F.CANX_CFG_NODEID 1) 9).setFld (F.CANX_STATUS_NMT 1) 2).setFld F.PRES_STATUS_LEVEL 2 with now := 50000000000, ode := { d.ode with sess := Vector.replicate 4 (some { ip := 5 }) }, nv := { d.nv with nextN := 8 } }, 2, 7, 3, 7, { ip := 5 }, by decide +kernel⟩,
   ⟨afterReset fun d => { (((d.setFld (F.CANX_CFG_MODE 1) 1).setFld (F.CANX_CFG_NODEID 1) 9).setFld (F.CANX_STATUS_NMT 1) 2).setFld F.PRES_STATUS_LEVEL 2 with now := 50000000000, ode := { d.ode with sess := Vector.replicate 4 (some { ip := 5 }) }, nv := { d.nv with winStore := [{ win := { num := 4, kind := 0, trig := 5, first := 0, last := 9 }, bytes := [4, 5, 6] }] } }, 2, 4, { ip := 5 }, { win := { num := 4, kind := 0, trig := 5, first := 0, last := 9 }, bytes := [4, 5, 6] }, by decide +kernel⟩⟩

theorem witness_MemoryAccesses :
    (∃ (s : State) (m : Master) (a : Nat) (n : Nat) (r : Region) (l : List Byte), s.dev.inReset = false ∧ inWord s.dev m a n r false = true ∧ s.mem.wordData r (wordOf r (s.dev.physical m a)) = some l ∧ s.mem.fault? (wordOf r (s.dev.physical m a)) = none) ∧
    (∃ (s : State) (m : Master) (a : Nat) (n : Nat) (r : Region) (l : List Byte) (f : MemFault), s.dev.inReset = false ∧ inWord s.dev m a n r false = true ∧ s.mem.wordData r (wordOf r (s.dev.physical m a)) = some l ∧ s.mem.fault? (wordOf r (s.dev.physical m a)) = some f ∧ onesN 64 f.dmask + onesN 8 f.cmask = 1) ∧
    (∃ (s : State) (m : Master) (a : Nat) (n : Nat) (r : Region), s.dev.inReset = false ∧ inWord s.dev m a n r false = true ∧ s.mem.wordData r (wordOf r (s.dev.physical m a)) = none) ∧
    (∃ (s : State) (m : Master) (a : Nat) (r : Region) (l : List Byte), s.dev.inReset = false ∧ inWord s.dev m a l.length r true = true ∧ l.length = r.wordBytes ∧ s.dev.flipArmed (s.dev.physical m a) = false) ∧
    (∃ (s : State) (m : Master) (a : Nat) (r : Region) (l : List Byte) (old : List Byte), s.dev.inReset = false ∧ inWord s.dev m a l.length r true = true ∧ l.length < r.wordBytes ∧ s.mem.wordData r (wordOf r (s.dev.physical m a)) = some old ∧ s.mem.fault? (wordOf r (s.dev.physical m a)) = none) ∧
    (∃ (s : State) (m : Master) (a : Nat) (r : Region) (l : List Byte), s.dev.inReset = false ∧ inWord s.dev m a l.length r true = true ∧ l.length < r.wordBytes ∧ s.mem.wordData r (wordOf r (s.dev.physical m a)) = none) :=
  ⟨⟨{ (afterReset fun d => d) with mem := { cells := [(0x18000000, 1), (0x18000001, 2), (0x18000002, 3), (0x18000003, 4)], fills := [], faults := [] } }, 2, 0x18000001, 2, .shared, [1, 2, 3, 4], by decide +kernel⟩,
   ⟨{ (afterReset fun d => d) with mem := { cells := [(0x18000000, 1), (0x18000001, 2), (0x18000002, 3), (0x18000003, 4)], fills := [], faults := [{ addr := 0x18000000, dmask := 4, cmask := 0, inj := false }] } }, 2, 0x18000001, 2, .shared, [1, 2, 3, 4], { addr := 0x18000000, dmask := 4, cmask := 0, inj := false }, by decide +kernel⟩,
   ⟨{ (afterReset fun d => d) with mem := { cells := [], fills := [], faults := [] } }, 5, 0xC0000008, 8, .dram, by decide +kernel⟩,
   ⟨{ (afterReset fun d => d) with mem := { cells := [(0x18000000, 1), (0x18000001, 2), (0x18000002, 3), (0x18000003, 4)], fills := [], faults := [{ addr := 0x18000000, dmask := 4, cmask := 0, inj := false }] } }, 2, 0x18000000, .shared, [7, 8, 9, 10], by decide +kernel⟩,
   ⟨{ (afterReset fun d => d) with mem := { cells := [(0x18000000, 1), (0x18000001, 2), (0x18000002, 3), (0x18000003, 4)], fills := [], faults := [] } }, 2, 0x18000001, .shared, [7, 8], [1, 2, 3, 4], by decide +kernel⟩,
   ⟨{ (afterReset fun d => d) with mem := { cells := [], fills := [], faults := [] } }, 2, 0x18000001, .shared, [7, 8], by decide +kernel⟩⟩

theorem witness_MartenWindow :
    (∃ (a : Nat), 0xC0000000 ≤ a ∧ a ≤ 0xCFFFFFFF) ∧
    (∃ (a : Nat), (a < 0xC0000000 ∨ 0xCFFFFFFF < a)) ∧
    (∃ (s : State), s.dev.inReset = false) :=
  ⟨⟨0xC0000000, by decide +kernel⟩,
   ⟨0x800000000, by decide +kernel⟩,
   ⟨State.reset, by decide +kernel⟩⟩

theorem witness_MemoryCare :
    (∃ (s : State) (m : Master) (val : Word), s.dev.inReset = false ∧ s.dev.mayUse m R.MEMC_FLIP_CTRL = true ∧ s.dev.flag F.MEMC_FLIP_CTRL_ARM = false ∧ bitN val.toNat 0 = true ∧ flipAddrOk m s.dev.flipAddr = true) ∧
    (∃ (s : State) (a : Nat) (r : Region) (l : List Byte) (f : MemFault), s.dev.inReset = false ∧ regionOf a = some r ∧ r ∈ [.safety, .shared] ∧ s.mem.wordData r (a - a % 4) = some l ∧ s.mem.fault? (a - a % 4) = some f ∧ onesN 64 f.dmask + onesN 8 f.cmask = 1) ∧
    (∃ (s : State), s.dev.inReset = false ∧ s.dev.memc.selfRefresh = false ∧ s.dev.lineDue ≤ s.dev.now ∧ (s.dev.rd R.SCRB_WPOS).toNat + 1 < 134217728) ∧
    (∃ (s : State), s.dev.inReset = false ∧ s.dev.memc.selfRefresh = true ∧ s.dev.lineDue ≤ s.dev.now ∧ (s.dev.rd R.SCRB_WPOS).toNat + 1 < 134217728 ∧ s.dev.now < s.dev.memc.weevStart + ((s.dev.rd R.SCRB_WPOS).toNat + 1) * s.dev.lapCyc / 134217728) ∧
    (∃ (s : State) (m : Master) (val : Word), s.dev.inReset = false ∧ s.dev.mayUse m R.MEMC_FUSE_PROG = true ∧ s.dev.level = 2 ∧ s.dev.flag F.MEMC_FUSE_STATUS_BUSY = false ∧ bitN val.toNat 31 = true ∧ s.dev.fuseLeft ≠ 0) ∧
    (∃ (s : State) (v : Word), s.dev.inReset = false ∧ s.dev.memc.fuseBusy = some v ∧ 0 < s.dev.fuseLeft) ∧
    (∃ (s : State) (m : Master) (val : Word), s.dev.inReset = false ∧ s.dev.mayUse m R.MEMC_PPR_REQ = true ∧ s.dev.level = 2 ∧ bitN val.toNat 31 = true) ∧
    (∃ (s : State) (life : Nat), s.dev.inReset = false ∧ life < 2 ^ F.FLSH_HEALTH_LIFE.width) ∧
    (∃ (s : State) (m : Master) (blk : Fin 27), s.dev.inReset = false ∧ s.dev.mayUse m (0x4000FFFC + 0x10000 * blk.val) = true) ∧
    (∃ (s : State), s.dev.inReset = false ∧ s.dev.memc.flashAt + 100 * msCyc ≤ s.dev.now) ∧
    (∃ (s : State), s.dev.inReset = false ∧ s.dev.now < s.dev.memc.flashAt + 100 * msCyc) :=
  ⟨⟨afterReset fun d => d.wr R.MEMC_FLIP_ADDR_LO 0x18000000, 2, 3, by decide +kernel⟩,
   ⟨{ (afterReset fun d => d) with mem := { cells := [(0x18000000, 1), (0x18000001, 2), (0x18000002, 3), (0x18000003, 4)], fills := [], faults := [{ addr := 0x18000000, dmask := 4, cmask := 0, inj := false }] } }, 0x18000002, .shared, [1, 2, 3, 4], { addr := 0x18000000, dmask := 4, cmask := 0, inj := false }, by decide +kernel⟩,
   ⟨{ (afterReset fun d => { d.wr R.SCRB_WPOS 5 with now := 10000000000000000 }) with mem := { cells := [(0x18000000, 1), (0x18000001, 2), (0x18000002, 3), (0x18000003, 4)], fills := [], faults := [] } }, by decide +kernel⟩,
   ⟨{ (afterReset fun d => { (d.wr R.SCRB_WPOS 5).setFld F.SCRB_WCFG_LAPTIME 60 with now := 60000, memc := { d.memc with selfRefresh := true } }) with mem := { cells := [(0x18000000, 1), (0x18000001, 2), (0x18000002, 3), (0x18000003, 4)], fills := [], faults := [] } }, by decide +kernel⟩,
   ⟨afterReset fun d => d.setFld F.PRES_STATUS_LEVEL 2, 2, 0x80000007, by decide +kernel⟩,
   ⟨afterReset fun d => { d with memc := { d.memc with fuseBusy := some 0x20000007 } }, 0x20000007, by decide +kernel⟩,
   ⟨afterReset fun d => d.setFld F.PRES_STATUS_LEVEL 2, 2, 0x82000007, by decide +kernel⟩,
   ⟨State.reset, 9, by decide +kernel⟩,
   ⟨State.reset, 2, 5, by decide +kernel⟩,
   ⟨afterReset fun d => { d with now := 40000000 }, by decide +kernel⟩,
   ⟨State.reset, by decide +kernel⟩⟩

theorem witness_DmaChannels :
    (∃ (s : State) (m : Master) (c : Fin 8) (l : List Byte), s.dev.inReset = false ∧ s.dev.mayUse m (R.MEMC_DMA_CTRL c.val) = true ∧ dmaMay m c = true ∧ s.dev.dmaBusy c = false ∧ s.dev.dmaHead c % 32 = 0 ∧ regionOf (s.dev.dmaHead c) ∈ [some .shared, some .dram] ∧ l.length = 32 ∧ plainBytes s.mem (s.dev.dmaHead c) l = true ∧ dmaInvalid l = false ∧ s.dev.dmaBarred c l = none) ∧
    (∃ (s : State) (c : Fin 8), s.dev.inReset = false ∧ s.dev.dmaBusy c = true ∧ dOp (s.dev.dmaDesc c) = 1 ∧ fillWhole (dDst (s.dev.dmaDesc c)) (dLen (s.dev.dmaDesc c)) = true ∧ 0 < dLen (s.dev.dmaDesc c) ∧ regionOf (lastOf (dDst (s.dev.dmaDesc c)) (dLen (s.dev.dmaDesc c))) = regionOf (dDst (s.dev.dmaDesc c)) ∧ dLast (s.dev.dmaDesc c) = true ∧ s.dev.flag F.MEMC_FLIP_CTRL_ARM = false) ∧
    (∃ (s : State) (c : Fin 8) (l : List Byte), s.dev.inReset = false ∧ s.dev.dmaBusy c = true ∧ dOp (s.dev.dmaDesc c) = 0 ∧ l.length = dLen (s.dev.dmaDesc c) ∧ 0 < l.length ∧ l.length ≤ 64 ∧ l.length % 8 = 0 ∧ dDst (s.dev.dmaDesc c) % 8 = 0 ∧ dSrc (s.dev.dmaDesc c) % 8 = 0 ∧ plainBytes s.mem (dSrc (s.dev.dmaDesc c)) l = true ∧ regionOf (dSrc (s.dev.dmaDesc c)) ∈ [some .shared, some .dram] ∧ regionOf (dDst (s.dev.dmaDesc c)) ∈ [some .shared, some .dram] ∧ regionOf (lastOf (dSrc (s.dev.dmaDesc c)) l.length) = regionOf (dSrc (s.dev.dmaDesc c)) ∧ regionOf (lastOf (dDst (s.dev.dmaDesc c)) l.length) = regionOf (dDst (s.dev.dmaDesc c)) ∧ dLast (s.dev.dmaDesc c) = true ∧ s.dev.flag F.MEMC_FLIP_CTRL_ARM = false) ∧
    (∃ (s : State) (m : Master) (c : Fin 8), s.dev.inReset = false ∧ s.dev.mayUse m (R.MEMC_DMA_CTRL c.val) = true ∧ dmaMay m c = true ∧ s.dev.dmaBusy c = true ∧ bitN (s.dev.rd (R.MEMC_DMA_CTRL c.val)).toNat 1 = false) :=
  ⟨⟨{ (afterReset fun d => (d.wr (R.MEMC_DMA_HEAD_LO 3) 0x18000100)) with mem := { cells := ((List.range 32).zip [0x11, 0x22, 0x33, 0x44, 0x55, 0x66, 0x77, 0x88, 0, 0, 0, 0x18, 0, 0, 0, 0, 16, 0, 0, 0, 1, 4, 0, 0, 0, 0, 0, 0, 0, 0, 0, 0]).map fun x => (0x18000100 + x.1, x.2), fills := [], faults := [] } }, 2, 3, [0x11, 0x22, 0x33, 0x44, 0x55, 0x66, 0x77, 0x88, 0, 0, 0, 0x18, 0, 0, 0, 0, 16, 0, 0, 0, 1, 4, 0, 0, 0, 0, 0, 0, 0, 0, 0, 0], by decide +kernel⟩,
   ⟨{ (afterReset fun d => { (((d.wr (R.MEMC_DMA_CUR_LO 3) 0x18000000).setFlag (F.MEMC_DMA_STATUS_BUSY 3) true)) with memc := { d.memc with desc := d.memc.desc.set 3 [0x11, 0x22, 0x33, 0x44, 0x55, 0x66, 0x77, 0x88, 0, 0, 0, 0x18, 0, 0, 0, 0, 16, 0, 0, 0, 1, 4, 0, 0, 0, 0, 0, 0, 0, 0, 0, 0] } }) with mem := { cells := [], fills := [], faults := [] } }, 3, by decide +kernel⟩,
   ⟨{ (afterReset fun d => { (((d.wr (R.MEMC_DMA_CUR_LO 3) 0x18000000).setFlag (F.MEMC_DMA_STATUS_BUSY 3) true)) with memc := { d.memc with desc := d.memc.desc.set 3 [0, 0, 0, 0x18, 0, 0, 0, 0, 8, 0, 0, 0x18, 0, 0, 0, 0, 8, 0, 0, 0, 0, 4, 0, 0, 0, 0, 0, 0, 0, 0, 0, 0] } }) with mem := { cells := ((List.range 8).map fun i => (0x18000000 + i, BitVec.ofNat 8 (i + 3))), fills := [], faults := [] } }, 3, [3, 4, 5, 6, 7, 8, 9, 10], by decide +kernel⟩,
   ⟨{ (afterReset fun d => { (((d.wr (R.MEMC_DMA_CUR_LO 3) 0x18000000).setFlag (F.MEMC_DMA_STATUS_BUSY 3) true)) with memc := { d.memc with desc := d.memc.desc.set 3 [0x11, 0x22, 0x33, 0x44, 0x55, 0x66, 0x77, 0x88, 0, 0, 0, 0x18, 0, 0, 0, 0, 16, 0, 0, 0, 1, 4, 0, 0, 0, 0, 0, 0, 0, 0, 0, 0] } }) with mem := { cells := [], fills := [], faults := [] } }, 2, 3, by decide +kernel⟩⟩

theorem witness_Mailboxes :
    (∃ (s : State) (m : Master) (n : Fin 16) (val : Word), s.dev.inReset = false ∧ sends s.dev m n = true ∧ s.dev.chHeld n.val = false ∧ bitN val.toNat 31 = true ∧ bitN val.toNat 30 = false) ∧
    (∃ (s : State) (m : Master) (n : Fin 16) (val : Word), s.dev.inReset = false ∧ sends s.dev m n = true ∧ s.dev.chHeld n.val = false ∧ bitN val.toNat 31 = true ∧ bitN val.toNat 30 = true) ∧
    (∃ (s : State) (m : Master) (n : Fin 16) (val : Word), s.dev.inReset = false ∧ sends s.dev m n = true ∧ s.dev.chHeld n.val = true ∧ bitN val.toNat 31 = true) ∧
    (∃ (s : State) (n : Fin 16), s.dev.inReset = false ∧ s.dev.chWaits n.val = true) ∧
    (∃ (s : State) (m : Master) (n : Fin 16), s.dev.inReset = false ∧ s.dev.mayUse m (R.MBOX_CH_TAKE n.val) = true ∧ s.dev.chRecv n.val = m.val ∧ s.dev.chFull n.val = true) ∧
    (∃ (s : State) (a : Fin 16) (b : Fin 16), s.dev.inReset = false ∧ s.dev.flag (F.MBOX_CH_CFG_EN a.val) = true ∧ s.dev.flag (F.MBOX_CH_CFG_EN b.val) = true ∧ s.dev.chFull a.val = true ∧ s.dev.chFull b.val = true ∧ s.dev.flag (F.MBOX_CH_STATUS_XWAIT a.val) = false ∧ s.dev.flag (F.MBOX_CH_STATUS_XWAIT b.val) = false ∧ s.dev.opposite a.val b.val = true ∧ max s.dev.mbox.postAt[a] s.dev.mbox.postAt[b] + 256 * usCyc ≤ s.dev.now) ∧
    (∃ (s : State) (m : Master) (l : Fin 32), s.dev.inReset = false ∧ s.dev.mayUse m (R.MBOX_LOCK l.val) = true ∧ m ≠ 10 ∧ s.dev.fld (F.MBOX_LOCK_OWNER l.val) = 0) ∧
    (∃ (s : State) (m : Master) (l : Fin 32), s.dev.inReset = false ∧ s.dev.mayUse m (R.MBOX_LOCK l.val) = true ∧ s.dev.fld (F.MBOX_LOCK_OWNER l.val) ≠ 0 ∧ s.dev.fld (F.MBOX_LOCK_OWNER l.val) ≠ m.val) ∧
    (∃ (s : State) (m : Master) (l : Fin 32), s.dev.inReset = false ∧ s.dev.mayUse m (R.MBOX_LOCK l.val) = true ∧ s.dev.fld (F.MBOX_LOCK_OWNER l.val) = m.val) ∧
    (∃ (s : State) (m : Master) (l : Fin 32) (val : Word), s.dev.inReset = false ∧ s.dev.mayUse m (R.MBOX_LOCK l.val) = true ∧ (val ≠ 0 ∨ s.dev.fld (F.MBOX_LOCK_OWNER l.val) ≠ m.val)) :=
  ⟨⟨afterReset fun d => { (((((d.setFld (F.MBOX_CH_CFG_SEND 9) 5).setFld (F.MBOX_CH_CFG_RECV 9) 3).setFlag (F.MBOX_CH_CFG_EN 9) true).setFlag (F.MBOX_CH_CFG_WAKE 9) true).setFld F.MBOX_PARK_STATE 1) with now := 50000000000 }, 5, 9, 0x80000502, by decide +kernel⟩,
   ⟨afterReset fun d => { ((((d.setFld (F.MBOX_CH_CFG_SEND 9) 2).setFld (F.MBOX_CH_CFG_RECV 9) 3).setFlag (F.MBOX_CH_CFG_EN 9) true)) with now := 50000000000 }, 2, 9, 0xC0000502, by decide +kernel⟩,
   ⟨afterReset fun d => { ((((d.setFld (F.MBOX_CH_CFG_SEND 9) 2).setFld (F.MBOX_CH_CFG_RECV 9) 3).setFlag (F.MBOX_CH_CFG_EN 9) true).setFlag (F.MBOX_CH_STATUS_FULL 9) true) with now := 50000000000 }, 2, 9, 0x80000502, by decide +kernel⟩,
   ⟨afterReset fun d => { ((((d.setFld (F.MBOX_CH_CFG_SEND 9) 2).setFld (F.MBOX_CH_CFG_RECV 9) 3).setFlag (F.MBOX_CH_CFG_EN 9) true).setFlag (F.MBOX_CH_STATUS_FENCEWAIT 9) true) with now := 50000000000 }, 9, by decide +kernel⟩,
   ⟨afterReset fun d => { ((((d.setFld (F.MBOX_CH_CFG_SEND 9) 2).setFld (F.MBOX_CH_CFG_RECV 9) 3).setFlag (F.MBOX_CH_CFG_EN 9) true).setFld (⟨R.MBOX_CH_STATUS 9, 3, 0⟩) 13) with now := 50000000000 }, 3, 9, by decide +kernel⟩,
   ⟨afterReset fun d => { (((((((((d.setFld (F.MBOX_CH_CFG_SEND 9) 2).setFld (F.MBOX_CH_CFG_RECV 9) 3).setFlag (F.MBOX_CH_CFG_EN 9) true)).setFlag (F.MBOX_CH_STATUS_FULL 9) true).setFlag (F.MBOX_CH_STATUS_FULL 10) true).setFld (F.MBOX_CH_CFG_SEND 10) 3).setFld (F.MBOX_CH_CFG_RECV 10) 2).setFlag (F.MBOX_CH_CFG_EN 10) true) with now := 50000000000 }, 10, 9, by decide +kernel⟩,
   ⟨State.reset, 4, 31, by decide +kernel⟩,
   ⟨afterReset fun d => d.setFld (F.MBOX_LOCK_OWNER 31) 2, 4, 31, by decide +kernel⟩,
   ⟨afterReset fun d => d.setFld (F.MBOX_LOCK_OWNER 31) 2, 2, 31, by decide +kernel⟩,
   ⟨afterReset fun d => d.setFld (F.MBOX_LOCK_OWNER 31) 2, 2, 31, 1, by decide +kernel⟩⟩

theorem witness_ParkingFox :
    (∃ (s : State) (h : Fin 16), s.dev.inReset = false ∧ s.dev.fld F.MBOX_PARK_STATE = 0 ∧ s.dev.parkRefusal h.val = 0) ∧
    (∃ (s : State) (h : Fin 16), s.dev.inReset = false ∧ s.dev.fld F.MBOX_PARK_STATE = 0 ∧ s.dev.parkRefusal h.val ≠ 0) ∧
    (∃ (s : State), s.dev.inReset = false ∧ s.dev.fld F.MBOX_PARK_STATE = 1) ∧
    (∃ (s : State), s.dev.inReset = false ∧ s.dev.fld F.MBOX_PARK_STATE = 3) ∧
    (∃ (s : State), s.dev.inReset = false ∧ s.dev.fld F.MBOX_PARK_STATE = 0) :=
  ⟨⟨afterReset fun d => [4, 5, 6, 7].foldl (fun e n => e.setFlag (F.MBOX_CH_STATUS_FULL n) false) d, 15, by decide +kernel⟩,
   ⟨State.reset, 7, by decide +kernel⟩,
   ⟨afterReset fun d => d.setFld F.MBOX_PARK_STATE 1, by decide +kernel⟩,
   ⟨afterReset fun d => d.setFld F.MBOX_PARK_STATE 3, by decide +kernel⟩,
   ⟨afterReset fun d => d.setFld F.MBOX_PARK_HALTED 14, by decide +kernel⟩⟩

theorem witness_EventRecords :
    (∃ (s : State) (e : EvRec) (t : Dev), s.dev.inReset = false ∧ s.dev.flag F.EVR_STATUS_EVREADY = true ∧ s.dev.evr.started = true ∧ s.dev.nextEvent = some (e, t) ∧ s.dev.flag F.MEMC_FLIP_CTRL_ARM = false) ∧
    (∃ (s : State), s.dev.inReset = false ∧ s.dev.flag F.EVR_STATUS_EVREADY = true ∧ s.dev.evr.started = false ∧ s.dev.flag F.MEMC_FLIP_CTRL_ARM = false) ∧
    (∃ (s : State), s.dev.inReset = false ∧ s.dev.flag F.EVR_STATUS_EVREADY = false) ∧
    (∃ (s : State), s.dev.inReset = false ∧ s.dev.flag F.EVR_STATUS_EVREADY = true ∧ s.dev.flag F.EVR_STATUS_FRREADY = false) ∧
    (∃ (s : State), s.dev.inReset = false ∧ s.dev.evr.archNext + 4096 ≤ s.dev.nv.nextN ∧ s.dev.evr.started = true ∧ s.dev.flag F.EVR_STATUS_ARCHOFF = false) ∧
    (∃ (s : State) (m : Master) (high : Bool), s.dev.inReset = false ∧ s.dev.mayUse m (if high then R.EVR_CURSOR_HI else R.EVR_CURSOR_LO) = true) :=
  ⟨⟨afterReset fun d => { (d.setFlag F.EVR_STATUS_EVREADY true) with evr := { d.evr with started := true, gap := true, safety := [], general := [{ ts := 5, code := 0x2019, p1 := 1 }] } }, { ts := 5, code := 0x2019, p1 := 1 }, (afterReset fun d => { (d.setFlag F.EVR_STATUS_EVREADY true) with evr := { d.evr with started := true, gap := true, safety := [], general := [] } }).dev, by decide +kernel⟩,
   ⟨afterReset fun d => { (d.setFlag F.EVR_STATUS_EVREADY true) with evr := { d.evr with started := false } }, by decide +kernel⟩,
   ⟨State.reset, by decide +kernel⟩,
   ⟨afterReset fun d => d.setFlag F.EVR_STATUS_EVREADY true, by decide +kernel⟩,
   ⟨afterReset fun d => { (d.setFlag F.EVR_STATUS_EVREADY true) with evr := { d.evr with started := true }, nv := { d.nv with nextN := 4100 } }, by decide +kernel⟩,
   ⟨State.reset, 2, true, by decide +kernel⟩⟩

theorem witness_FrozenWindows :
    (∃ (s : State) (m : Master), s.dev.inReset = false ∧ s.dev.mayUse m R.EVR_FREEZE = true ∧ m ≠ 10 ∧ s.dev.evr.windows = []) ∧
    (∃ (s : State) (w : Window) (t : List Window), s.dev.inReset = false ∧ s.dev.evr.windows = w :: t ∧ w.copying = false ∧ w.last ≤ s.dev.tick ∧ s.dev.fld F.FLSH_HEALTH_PREEOL ≠ 3) ∧
    (∃ (s : State) (w : Window) (t : List Window), s.dev.inReset = false ∧ s.dev.evr.windows = w :: t ∧ w.copying = false ∧ w.last ≤ s.dev.tick ∧ s.dev.fld F.FLSH_HEALTH_PREEOL = 3) ∧
    (∃ (s : State) (w : Window) (t : List Window), s.dev.inReset = false ∧ s.dev.evr.windows = w :: t ∧ w.copying = true ∧ w.last ≤ w.first + 960000 ∧ s.dev.fld F.FLSH_HEALTH_PREEOL ≠ 3) ∧
    (∃ (s : State) (w : Window) (t : List Window), s.dev.inReset = false ∧ s.dev.evr.windows = w :: t ∧ w.copying = true ∧ s.dev.fld F.FLSH_HEALTH_PREEOL = 3) :=
  ⟨⟨afterReset fun d => { d with now := 50000000000 }, 2, by decide +kernel⟩,
   ⟨afterReset fun d => { d with now := 50000000000, evr := { d.evr with windows := [{ num := 4, kind := 2, trig := 5, first := 0, last := 9 }, { num := 5, kind := 2, trig := 5, first := 0, last := 9 }] } }, { num := 4, kind := 2, trig := 5, first := 0, last := 9 }, [{ num := 5, kind := 2, trig := 5, first := 0, last := 9 }], by decide +kernel⟩,
   ⟨afterReset fun d => { (d.setFld F.FLSH_HEALTH_PREEOL 3) with now := 50000000000, evr := { d.evr with windows := [{ num := 4, kind := 2, trig := 5, first := 0, last := 9 }, { num := 5, kind := 2, trig := 5, first := 0, last := 9 }] } }, { num := 4, kind := 2, trig := 5, first := 0, last := 9 }, [{ num := 5, kind := 2, trig := 5, first := 0, last := 9 }], by decide +kernel⟩,
   ⟨afterReset fun d => { d with now := 50000000000, evr := { d.evr with windows := [{ num := 4, kind := 2, trig := 5, first := 0, last := 9, copying := true }, { num := 5, kind := 2, trig := 5, first := 0, last := 9 }] } }, { num := 4, kind := 2, trig := 5, first := 0, last := 9, copying := true }, [{ num := 5, kind := 2, trig := 5, first := 0, last := 9 }], by decide +kernel⟩,
   ⟨afterReset fun d => { (d.setFld F.FLSH_HEALTH_PREEOL 3) with now := 50000000000, evr := { d.evr with windows := [{ num := 4, kind := 2, trig := 5, first := 0, last := 9, copying := true }, { num := 5, kind := 2, trig := 5, first := 0, last := 9 }] } }, { num := 4, kind := 2, trig := 5, first := 0, last := 9, copying := true }, [{ num := 5, kind := 2, trig := 5, first := 0, last := 9 }], by decide +kernel⟩⟩

theorem witness_FatalAndWear :
    (∃ (s : State) (m : Master) (dump : List Byte), s.dev.inReset = false ∧ 1 ≤ m.val ∧ m.val ≤ 5 ∧ s.dev.boot.todo = 0 ∧ dump.length + 64 ≤ 0x10000000) ∧
    (∃ (s : State), s.dev.inReset = false) ∧
    (∃ (s : State), s.dev.inReset = false) :=
  ⟨⟨afterReset fun d => { (d.setFlag F.EVR_STATUS_EVREADY true) with boot := { d.boot with todo := 0 } }, 3, [1, 2, 3], by decide +kernel⟩,
   ⟨State.reset, by decide +kernel⟩,
   ⟨State.reset, by decide +kernel⟩⟩

theorem witness_ImageTransfer :
    (∃ (s : State) (i : Fin 4) (kind : Nat) (x : Session), s.dev.inReset = false ∧ s.dev.fspOpen i = true ∧ s.dev.ode.sess[i] = some x ∧ s.dev.openStatus kind = 0) ∧
    (∃ (s : State) (i : Fin 4) (kind : Nat) (x : Session), s.dev.inReset = false ∧ s.dev.fspOpen i = true ∧ s.dev.ode.sess[i] = some x ∧ s.dev.openStatus kind ≠ 0) ∧
    (∃ (s : State) (i : Fin 4) (off : Nat) (k : Nat) (b : List Byte) (x : Session), s.dev.inReset = false ∧ s.dev.fspOpen i = true ∧ s.dev.ode.sess[i] = some x ∧ x.img = some k ∧ b.length ≤ 4092 ∧ off + b.length ≤ (if k = 3 then 65536 else 268435456)) ∧
    (∃ (s : State) (i : Fin 4) (k : Nat) (x : Session), s.dev.inReset = false ∧ s.dev.fspOpen i = true ∧ s.dev.ode.sess[i] = some x ∧ x.img = some k ∧ k ≠ 3 ∧ s.dev.recovery = false) :=
  ⟨⟨afterReset fun d => { (d.setFld F.PRES_STATUS_LEVEL 2) with now := 50000000000, ode := { d.ode with sess := Vector.replicate 4 (some { ip := 5 }) } }, 2, 2, { ip := 5 }, by decide +kernel⟩,
   ⟨afterReset fun d => { (d) with now := 50000000000, ode := { d.ode with sess := Vector.replicate 4 (some { ip := 5 }) } }, 2, 2, { ip := 5 }, by decide +kernel⟩,
   ⟨afterReset fun d => { (d) with now := 50000000000, ode := { d.ode with sess := Vector.replicate 4 (some { ip := 5, img := some 2 }) } }, 2, 8, 2, [1, 2, 3], { ip := 5, img := some 2 }, by decide +kernel⟩,
   ⟨afterReset fun d => { (d) with now := 50000000000, ode := { d.ode with sess := Vector.replicate 4 (some { ip := 5, img := some 2 }) } }, 2, 2, { ip := 5, img := some 2 }, by decide +kernel⟩⟩

theorem witness_BootSteps :
    (∃ (s : State), s.dev.inReset = false ∧ s.dev.boot.todo = 1 ∧ s.dev.boot.waits = false ∧ s.dev.boot.holdOk = false) ∧
    (∃ (s : State), s.dev.inReset = false ∧ s.dev.boot.todo = 2 ∧ s.dev.boot.waits = false ∧ s.dev.boot.holdOk = false) ∧
    (∃ (s : State), s.dev.inReset = false ∧ s.dev.boot.todo = 1 ∧ s.dev.boot.waits = false ∧ s.dev.boot.holdOk = true) ∧
    (∃ (s : State), s.dev.inReset = false ∧ s.dev.boot.todo = 3 ∧ s.dev.boot.waits = false) ∧
    (∃ (s : State), s.dev.inReset = false ∧ s.dev.boot.holdOk = false ∧ s.dev.boot.waits = false) ∧
    (∃ (s : State), s.dev.inReset = false ∧ s.dev.boot.holdOk = false ∧ s.dev.boot.waits = true) :=
  ⟨⟨afterReset fun d => { d with now := 50000000000, boot := { d.boot with todo := 1 } }, by decide +kernel⟩,
   ⟨afterReset fun d => { d with now := 50000000000, boot := { d.boot with todo := 2 } }, by decide +kernel⟩,
   ⟨afterReset fun d => { d with now := 50000000000, boot := { d.boot with todo := 1, holdOk := true } }, by decide +kernel⟩,
   ⟨afterReset fun d => { d with now := 50000000000, boot := { d.boot with todo := 3 }, chA := {}, nv := { d.nv with tpf := 5, lockouts := [0x17], outFaults := [(7, 3), (2, 4)] } }, by decide +kernel⟩,
   ⟨afterReset fun d => { d with now := 50000000000, boot := { d.boot with todo := 1 } }, by decide +kernel⟩,
   ⟨afterReset fun d => { d with now := 50000000000, boot := { d.boot with todo := 2, waits := true } }, by decide +kernel⟩⟩

theorem witness_Handover :
    (∃ (s : State), s.dev.inReset = false ∧ s.dev.mayUse 1 R.BOOT_HOCMD = true ∧ (s.dev.hoState = 0 ∨ s.dev.hoState = 6) ∧ s.dev.boot.todo = 0 ∧ s.dev.recovery = false) ∧
    (∃ (s : State) (i : Nat), s.dev.inReset = false ∧ s.dev.boot.cand = some i ∧ s.dev.hoState = 1) ∧
    (∃ (s : State), s.dev.inReset = false ∧ s.dev.mayUse 1 R.BOOT_HOCMD = true ∧ s.dev.hoState = 2) ∧
    (∃ (s : State), s.dev.inReset = false ∧ s.dev.mayUse 1 R.BOOT_HOCMD = true ∧ (s.dev.hoState = 2 ∨ s.dev.hoState = 3)) ∧
    (∃ (s : State) (m : Master), s.dev.inReset = false ∧ s.dev.mayUse m R.BOOT_HOCMD = true ∧ m ≠ 1) ∧
    (∃ (s : State), s.dev.inReset = false ∧ s.dev.hoState = 3 ∧ s.dev.quietPoint = true ∧ s.dev.bothRun = true ∧ s.dev.bid.eval = none) ∧
    (∃ (s : State), s.dev.inReset = false ∧ s.dev.hoState = 4 ∧ s.dev.tick = s.dev.boot.hoTick + 1) ∧
    (∃ (s : State), s.dev.inReset = false ∧ s.dev.hoState = 4 ∧ s.dev.boot.hoTick + 2 ≤ s.dev.tick) ∧
    (∃ (s : State) (m : Master) (val : Word) (i : Nat), s.dev.inReset = false ∧ s.dev.mayUse m R.BOOT_CONFIRM = true ∧ s.dev.boot.cand = some i ∧ (i = 2 ∨ i = 3) ∧ s.dev.hoState = 5 ∧ bitN val.toNat 0 = true ∧ s.dev.hoWindow = true) ∧
    (∃ (s : State) (fatal : Bool) (i : Nat), s.dev.inReset = false ∧ s.dev.boot.cand = some i ∧ s.dev.hoState = 5 ∧ (fatal = true ∨ s.dev.hoWindow = false)) :=
  ⟨⟨afterReset fun d => { d with now := 50000000000, boot := { d.boot with todo := 0 } }, by decide +kernel⟩,
   ⟨afterReset fun d => { (d.setFld F.BOOT_STATUS_HOSTATE 1) with now := 50000000000, boot := { d.boot with todo := 0, cand := some 3 } }, 3, by decide +kernel⟩,
   ⟨afterReset fun d => { (d.setFld F.BOOT_STATUS_HOSTATE 2) with now := 50000000000, boot := { d.boot with todo := 0, cand := some 3 } }, by decide +kernel⟩,
   ⟨afterReset fun d => { (d.setFld F.BOOT_STATUS_HOSTATE 2) with now := 50000000000, boot := { d.boot with todo := 0, cand := some 3 } }, by decide +kernel⟩,
   ⟨afterReset fun d => { (d.setFld F.BOOT_STATUS_HOSTATE 2) with now := 50000000000, boot := { d.boot with todo := 0, cand := some 3 } }, 3, by decide +kernel⟩,
   ⟨afterReset fun d => { (d.setFld F.BOOT_STATUS_HOSTATE 3) with od := [(odKey 0x2704 1, 100000), (odKey 0x2105 1, 1)], chA := { d.chA with state := 0, booting := false }, chB := { d.chB with state := 0, booting := false } }, by decide +kernel⟩,
   ⟨afterReset fun d => { (d.setFld F.BOOT_STATUS_HOSTATE 4) with now := 50000000000, boot := { d.boot with cand := some 3, hoTick := 999999 } }, by decide +kernel⟩,
   ⟨afterReset fun d => { (d.setFld F.BOOT_STATUS_HOSTATE 4) with now := 50000000000, boot := { d.boot with cand := some 3, hoTick := 999998 } }, by decide +kernel⟩,
   ⟨afterReset fun d => { ((d.setFlag F.BOOT_STATUS_QUAR true).setFld F.BOOT_STATUS_HOSTATE 5) with now := 50000000000, boot := { d.boot with cand := some 3, hoTick := 999998, hoAt := 50000000000 } }, 1, 1, 3, by decide +kernel⟩,
   ⟨afterReset fun d => { ((d.setFlag F.BOOT_STATUS_QUAR true).setFld F.BOOT_STATUS_HOSTATE 5) with now := 50000000000, boot := { d.boot with cand := some 3, hoTick := 999998, hoAt := 0 } }, false, 3, by decide +kernel⟩⟩

theorem witness_Presence :
    (∃ (s : State), s.dev.inReset = false) ∧
    (∃ (s : State), s.dev.inReset = false) ∧
    (∃ (s : State), s.dev.inReset = false ∧ s.dev.flag F.PRES_STATUS_STUCK = false) ∧
    (∃ (s : State), s.dev.inReset = false ∧ s.dev.flag F.PRES_STATUS_STUCK = true) ∧
    (∃ (s : State), s.dev.inReset = false ∧ s.dev.flag F.PRES_STATUS_STUCK = false) ∧
    (∃ (s : State), s.dev.inReset = false ∧ s.dev.mayUse 5 R.PRES_SAFEOK = true) ∧
    (∃ (s : State) (m : Master), s.dev.inReset = false ∧ s.dev.mayUse m R.PRES_SAFEOK = true ∧ m ≠ 5) ∧
    (∃ (s : State), s.dev.inReset = false) ∧
    (∃ (s : State) (t : Nat), s.dev.inReset = false ∧ s.dev.pres.diff = some t ∧ t + 500 * msCyc ≤ s.dev.now ∧ s.dev.flag F.PRES_STATUS_KEYFLT = false) ∧
    (∃ (s : State) (t : Nat), s.dev.inReset = false ∧ s.dev.pres.same = some t ∧ t + 1000 * msCyc ≤ s.dev.now ∧ s.dev.flag F.PRES_STATUS_KEYFLT = true) ∧
    (∃ (s : State) (m : Master) (val : Word), s.dev.inReset = false ∧ s.dev.mayUse m R.PRES_DEBUG = true ∧ s.dev.level = 2 ∧ s.dev.flag F.PRES_DEBUG_VALUE = false ∧ bitN val.toNat 0 = true) ∧
    (∃ (s : State) (m : Master), s.dev.inReset = false ∧ s.dev.mayUse m R.PRES_DEBUG = true ∧ s.dev.level < 2 ∧ s.dev.flag F.PRES_DEBUG_VALUE = false) :=
  ⟨⟨afterReset fun d => { d with now := 50000000000, pres := { d.pres with keys := 0 } }, by decide +kernel⟩,
   ⟨afterReset fun d => { (d.setFlag F.PRES_STATUS_SAFEOK true) with now := 50000000000, pres := { d.pres with press2 := some 49990000000 } }, by decide +kernel⟩,
   ⟨afterReset fun d => { ((d.setFlag F.PRES_STATUS_SAFEOK true).setFlag F.PRES_STATUS_SEAL true) with now := 50000000000, pres := { d.pres with keys := 0 } }, by decide +kernel⟩,
   ⟨afterReset fun d => { ((d.setFlag F.PRES_STATUS_STUCK true).setFld F.PRES_STATUS_LEVEL 1) with now := 50000000000, pres := { d.pres with keys := 0 } }, by decide +kernel⟩,
   ⟨afterReset fun d => { d with now := 50000000000, pres := { d.pres with keys := 0 } }, by decide +kernel⟩,
   ⟨afterReset fun d => { (d.setFlag F.PRES_STATUS_SEAL true) with now := 50000000000, pres := { d.pres with press2 := some 49990000000 } }, by decide +kernel⟩,
   ⟨afterReset fun d => { d with now := 50000000000, pres := { d.pres with keys := 0 } }, 4, by decide +kernel⟩,
   ⟨afterReset fun d => { (d.setFld F.PRES_STATUS_LEVEL 2) with now := 50000000000, pres := { d.pres with press := some 40000000 } }, by decide +kernel⟩,
   ⟨afterReset fun d => { (d.setFld F.PRES_STATUS_LEVEL 2) with now := 50000000000, pres := { d.pres with keys := 1, diff := some 40000000 } }, 40000000, by decide +kernel⟩,
   ⟨afterReset fun d => { (d.setFlag F.PRES_STATUS_KEYFLT true) with now := 50000000000, pres := { d.pres with keys := 3, same := some 40000000 } }, 40000000, by decide +kernel⟩,
   ⟨afterReset fun d => { (d.setFld F.PRES_STATUS_LEVEL 2) with now := 50000000000, pres := { d.pres with keys := 0 } }, 3, 1, by decide +kernel⟩,
   ⟨afterReset fun d => { (d.setFld F.PRES_STATUS_LEVEL 1) with now := 50000000000, pres := { d.pres with keys := 0 } }, 3, by decide +kernel⟩⟩

theorem witness_ModuleExchange :
    (∃ (s : State), s.dev.inReset = false ∧ s.dev.boot.bkOut ≠ [] ∧ s.dev.boot.bkCycle ≤ s.dev.cycleNo ∧ s.dev.od? 0x2500 2 = 1) ∧
    (∃ (s : State) (c : Client) (inst : Nat) (car : Nat), s.dev.inReset = false ∧ inst < 2 ^ 32 ∧ car < 256 ∧ s.dev.od? 0x2500 2 = 1 ∧ (s.dev.writeCheck c 0x2904 1 (leBytes 8 (inst + car * 2 ^ 32))).1 = 0) ∧
    (∃ (s : State) (i : Nat) (c : Nat), s.dev.inReset = false ∧ s.dev.boot.want = some (i, c)) ∧
    (∃ (s : State) (c : Client), s.dev.inReset = false ∧ (s.dev.writeCheck c 0x2904 3 [1]).1 = 0 ∧ s.dev.learnMay = true ∧ s.dev.od? 0x2109 1 ≠ 0xFF ∧ s.dev.od? 0x2109 2 ≠ 0xFF ∧ s.dev.odI 0x2104 1 < s.dev.odI 0x2104 4) ∧
    (∃ (s : State), s.dev.inReset = false ∧ s.dev.cmpl.learn.leg = 1 ∧ s.dev.cmpl.learn.started = true ∧ s.dev.cmpl.learn.bad = false ∧ s.dev.cmpl.learn.swLow ≠ none ∧ s.dev.cmpl.learn.verify = true ∧ s.dev.pgState = 0 ∧ s.dev.atRest = true) ∧
    (∃ (s : State) (p : Int) (q : Int), s.dev.inReset = false ∧ s.dev.cmpl.learn.leg = 2 ∧ s.dev.cmpl.learn.started = true ∧ s.dev.cmpl.learn.bad = false ∧ s.dev.cmpl.learn.verify = true ∧ s.dev.pgState = 0 ∧ s.dev.atRest = true ∧ s.dev.cmpl.learn.found.length = s.dev.landings ∧ ((∀ k < s.dev.landings, |s.dev.cmpl.learn.found.getD k 0 - s.dev.A k| ≤ s.dev.od? 0x2904 5)) ∧ s.dev.cmpl.learn.swLow = some p ∧ |p - s.dev.odI 0x2104 2| ≤ s.dev.od? 0x2904 5 ∧ s.dev.cmpl.learn.swHigh = some q ∧ |q - s.dev.odI 0x2104 3| ≤ s.dev.od? 0x2904 5) ∧
    (∃ (s : State) (k : Nat), s.dev.inReset = false ∧ s.dev.cmpl.learn.leg = 2 ∧ s.dev.cmpl.learn.started = true ∧ s.dev.cmpl.learn.bad = false ∧ s.dev.cmpl.learn.swHigh ≠ none ∧ s.dev.cmpl.learn.verify = true ∧ s.dev.pgState = 0 ∧ s.dev.atRest = true ∧ k < s.dev.cmpl.learn.found.length ∧ s.dev.od? 0x2904 5 < |s.dev.cmpl.learn.found.getD k 0 - s.dev.A k|) :=
  ⟨⟨afterReset fun d => { d with now := 50000000000, boot := { d.boot with bkOut := [1, 2, 3] }, od := [(odKey 0x2500 2, 1)] }, by decide +kernel⟩,
   ⟨afterReset fun d => { (d.setFld F.PRES_STATUS_LEVEL 2) with now := 50000000000, boot := { d.boot with todo := 0 }, od := [(odKey 0x2500 2, 1)] }, .loc 2, 77, 5, by decide +kernel⟩,
   ⟨afterReset fun d => { d with now := 50000000000, boot := { d.boot with want := some (77, 5) } }, 77, 5, by decide +kernel⟩,
   ⟨afterReset fun d => { ((d.setFld F.PRES_STATUS_LEVEL 2).setFld F.PGEN_STATUS_MODE 3) with od := [(odKey 0x2109 1, 1), (odKey 0x2109 2, 2), (odKey 0x2104 1, 1000), (odKey 0x2104 4, 9000)] }, .loc 2, by decide +kernel⟩,
   ⟨afterReset fun d => { d with cmpl := { d.cmpl with learn := { leg := 1, started := true, stopped := true, swLow := some 44, verify := true } } }, by decide +kernel⟩,
   ⟨afterReset fun d => { ({ (d.setFlag F.BOOT_STATUS_VERIFYPEND true) with od := [(odKey 0x2100 0, 2), (odKey 0x2100 1, 2), (odKey 0x2904 5, 9)] } : Dev) with cmpl := { d.cmpl with learn := { leg := 2, started := true, stopped := true, verify := true, found := [5, 6], swLow := some 0, swHigh := some 1 } } }, 0, 1, by decide +kernel⟩,
   ⟨afterReset fun d => { ({ (d.setFlag F.BOOT_STATUS_VERIFYPEND true) with od := [(odKey 0x2100 0, 2), (odKey 0x2100 1, 2), (odKey 0x2904 5, 9)] } : Dev) with cmpl := { d.cmpl with learn := { leg := 2, started := true, stopped := true, verify := true, swHigh := some 44, found := [5, 60000] } } }, 1, by decide +kernel⟩⟩

theorem witness_WholeResets :
    (∃ (s : State), s.dev.inReset = false) ∧
    (∃ (i : Instr) (s : State), s.dev.inReset = true ∧ i ≠ .powerOnResetRelease) :=
  ⟨⟨{ (afterReset fun d => { (d.setFld F.PGEN_STATUS_MODE 3).wr (R.MEMC_FUSE_REC 0) 77 with now := 50000000000, evr := { d.evr with windows := [{ num := 4, kind := 2, trig := 5, first := 0, last := 9 }] }, chA := { d.chA with state := 0, booting := false }, chB := { d.chB with state := 0, booting := false } }) with mem := { cells := [(0x18000004, 7), (0x20000001, 9)], fills := [], faults := [] } }, by decide +kernel⟩,
   ⟨.powerFail, afterReset fun d => { d with inReset := true }, by decide +kernel⟩⟩

theorem witness_PowerFails :
    (∃ (s : State), s.dev.inReset = false ∧ s.dev.sout.pfail = none) ∧
    (∃ (s : State), s.dev.inReset = false ∧ s.dev.sout.pfail.isSome = true) ∧
    (∃ (s : State), s.dev.inReset = false) ∧
    (∃ (s : State) (mv : Nat), s.dev.inReset = false ∧ mv < 18000 ∧ s.dev.sout.vsLow = false) ∧
    (∃ (s : State) (mv : Nat), s.dev.inReset = false ∧ 20000 ≤ mv ∧ s.dev.sout.vsLow = true) :=
  ⟨⟨State.reset, by decide +kernel⟩,
   ⟨afterReset fun d => { d with sout := { d.sout with pfail := some 7 } }, by decide +kernel⟩,
   ⟨State.reset, by decide +kernel⟩,
   ⟨State.reset, 17000, by decide +kernel⟩,
   ⟨afterReset fun d => { d with now := 50000000000, sout := { d.sout with vsLow := true } }, 20000, by decide +kernel⟩⟩

theorem witness_ResetRequests :
    (∃ (s : State) (m : Master) (key : Word), s.dev.inReset = false ∧ s.dev.mayUse m R.SYS_RSTREQ = true ∧ key.toNat % 65536 = 0xA5C3 ∧ 1 ≤ m.val ∧ m.val ≤ 5) ∧
    (∃ (s : State) (key : Word), s.dev.inReset = false ∧ s.dev.mayUse 5 R.SYS_RSTREQ = true ∧ key.toNat % 65536 = 0xA5C3) ∧
    (∃ (s : State) (key : Word), s.dev.inReset = false ∧ s.dev.mayUse 5 R.SYS_RSTREQ = true ∧ key.toNat % 65536 = 0xA5C3) ∧
    (∃ (s : State) (key : Word), s.dev.inReset = false ∧ s.dev.mayUse 5 R.SYS_RSTREQ = true ∧ key.toNat % 65536 = 0xA5C3) ∧
    (∃ (s : State) (m : Master) (key : Word), s.dev.inReset = false ∧ s.dev.mayUse m R.SYS_RSTREQ = true ∧ key.toNat % 65536 = 0xA5C3 ∧ 1 ≤ m.val ∧ m.val ≤ 5) ∧
    (∃ (s : State) (m : Master) (key : Word), s.dev.inReset = false ∧ s.dev.mayUse m R.SYS_RSTREQ = true ∧ key.toNat % 65536 ≠ 0xA5C3) ∧
    (∃ (s : State) (m : Master), s.dev.inReset = false ∧ s.dev.mayUse m R.SYS_RSTREQ = true ∧ m ≠ 5) ∧
    (∃ (s : State), s.dev.inReset = false ∧ s.dev.chB.has 0x45 = true ∧ s.dev.chA.booting = false ∧ 8 ≤ s.dev.badger.vrun) :=
  ⟨⟨afterReset fun d => { (((((d.setFld F.PGEN_STATUS_MODE 3).setFld F.PRES_STATUS_LEVEL 1).setFld (F.MBOX_LOCK_OWNER 4) 3).setFld (F.MBOX_LOCK_OWNER 5) 5).wrN R.SOUT_APERM 31).wr (R.MEMC_FUSE_REC 0) 77 with now := 50000000000, chA := { d.chA with state := 0, booting := false }, chB := { d.chB with state := 0, booting := false }, sout := { d.sout with cl := Vector.replicate 10 true, test := some { s := 2, kind := 1, start := 0 } } }, 2, 0xA5C3, by decide +kernel⟩,
   ⟨afterReset fun d => { (((((d.setFld F.PGEN_STATUS_MODE 3).setFld F.PRES_STATUS_LEVEL 1).setFld (F.MBOX_LOCK_OWNER 4) 3).setFld (F.MBOX_LOCK_OWNER 5) 5).wrN R.SOUT_APERM 31).wr (R.MEMC_FUSE_REC 0) 77 with now := 50000000000, chA := { d.chA with state := 0, booting := false }, chB := { d.chB with state := 0, booting := false }, sout := { d.sout with cl := Vector.replicate 10 true, test := some { s := 2, kind := 1, start := 0 } } }, 0xA5C3, by decide +kernel⟩,
   ⟨{ (afterReset fun d => { (((((d.setFld F.PGEN_STATUS_MODE 3).setFld F.PRES_STATUS_LEVEL 1).setFld (F.MBOX_LOCK_OWNER 4) 3).setFld (F.MBOX_LOCK_OWNER 5) 5).wrN R.SOUT_APERM 31).wr (R.MEMC_FUSE_REC 0) 77 with now := 50000000000, chA := { d.chA with state := 0, booting := false }, chB := { d.chB with state := 0, booting := false }, sout := { d.sout with cl := Vector.replicate 10 true, test := some { s := 2, kind := 1, start := 0 } } }) with mem := { cells := [(0x18000004, 7), (0x20000001, 9)], fills := [], faults := [] } }, 0xA5C3, by decide +kernel⟩,
   ⟨afterReset fun d => { (((((d.setFld F.PGEN_STATUS_MODE 3).setFld F.PRES_STATUS_LEVEL 1).setFld (F.MBOX_LOCK_OWNER 4) 3).setFld (F.MBOX_LOCK_OWNER 5) 5).wrN R.SOUT_APERM 31).wr (R.MEMC_FUSE_REC 0) 77 with now := 50000000000, chA := { d.chA with state := 0, booting := false }, chB := { d.chB with state := 0, booting := false }, sout := { d.sout with cl := Vector.replicate 10 true, test := some { s := 2, kind := 1, start := 0 } } }, 0xA5C3, by decide +kernel⟩,
   ⟨afterReset fun d => { (((((d.setFld F.PGEN_STATUS_MODE 3).setFld F.PRES_STATUS_LEVEL 1).setFld (F.MBOX_LOCK_OWNER 4) 3).setFld (F.MBOX_LOCK_OWNER 5) 5).wrN R.SOUT_APERM 31).wr (R.MEMC_FUSE_REC 0) 77 with now := 50000000000, chA := { d.chA with state := 0, booting := false }, chB := { d.chB with state := 0, booting := false }, sout := { d.sout with cl := Vector.replicate 10 true, test := some { s := 2, kind := 1, start := 0 } } }, 2, 0xA5C3, by decide +kernel⟩,
   ⟨afterReset fun d => { (((((d.setFld F.PGEN_STATUS_MODE 3).setFld F.PRES_STATUS_LEVEL 1).setFld (F.MBOX_LOCK_OWNER 4) 3).setFld (F.MBOX_LOCK_OWNER 5) 5).wrN R.SOUT_APERM 31).wr (R.MEMC_FUSE_REC 0) 77 with now := 50000000000, chA := { d.chA with state := 0, booting := false }, chB := { d.chB with state := 0, booting := false }, sout := { d.sout with cl := Vector.replicate 10 true, test := some { s := 2, kind := 1, start := 0 } } }, 2, 0xA5C4, by decide +kernel⟩,
   ⟨afterReset fun d => { (((((d.setFld F.PGEN_STATUS_MODE 3).setFld F.PRES_STATUS_LEVEL 1).setFld (F.MBOX_LOCK_OWNER 4) 3).setFld (F.MBOX_LOCK_OWNER 5) 5).wrN R.SOUT_APERM 31).wr (R.MEMC_FUSE_REC 0) 77 with now := 50000000000, chA := { d.chA with state := 0, booting := false }, chB := { d.chB with state := 0, booting := false }, sout := { d.sout with cl := Vector.replicate 10 true, test := some { s := 2, kind := 1, start := 0 } } }, 2, by decide +kernel⟩,
   ⟨afterReset fun d => { d with chA := { d.chA with booting := false }, chB := { d.chB with booting := false, state := 4, causes := [{ code := 0x45, demand := 4 }] }, badger := { d.badger with vrun := 8 } }, by decide +kernel⟩⟩

theorem witness_LoadAndSlowTick :
    (∃ (s : State) (c : Client), s.dev.inReset = false ∧ (s.dev.writeCheck c 0x2021 1 [1]).1 = 0 ∧ s.dev.atRest = true) ∧
    (∃ (s : State) (c : Client), s.dev.inReset = false ∧ (s.dev.writeCheck c 0x2021 1 [2]).1 = 0 ∧ s.dev.atRest = true) ∧
    (∃ (s : State) (c : Client), s.dev.inReset = false ∧ (s.dev.writeCheck c 0x2021 1 [2]).1 = 0 ∧ s.dev.atRest = false) ∧
    (∃ (s : State), s.dev.inReset = false ∧ s.dev.tick % 800 = 0 ∧ s.dev.ana.done ≠ some s.dev.tick) ∧
    (∃ (s : State), s.dev.inReset = false ∧ (s.dev.tick % 800 ≠ 0 ∨ s.dev.ana.done = some s.dev.tick)) :=
  ⟨⟨afterReset fun d => (d.setFld F.PRES_STATUS_LEVEL 2), .loc 2, by decide +kernel⟩,
   ⟨afterReset fun d => (d.setFld F.PRES_STATUS_LEVEL 2), .loc 2, by decide +kernel⟩,
   ⟨afterReset fun d => { (d.setFld F.PRES_STATUS_LEVEL 2) with pgen := { d.pgen with v := { m := 1, e := 0 } } }, .loc 2, by decide +kernel⟩,
   ⟨State.reset, by decide +kernel⟩,
   ⟨afterReset fun d => { d with now := 500000 }, by decide +kernel⟩⟩

theorem witness_StepKeepsMemoryCanonical :
    ∃ (s : State) (t : State), s.mem.wf = true ∧ step s = .next t :=
  ⟨{ State.reset with mem := { cells := [(0x18000004, 7), (0x20000001, 9)] }, pending := [.vinLow 19000] }, _, by decide +kernel, rfl⟩
end

section
/-! PROOFS. Marten's view of DRAM (R19): the map of an access, what a reach answers, and the write that places the window. -/

namespace Sys2Proof.Machine

/-! ## Addresses and rights -/

theorem Dev.physical_window (s : Dev) {a : Nat} (h1 : 0xC0000000 ≤ a) (h2 : a ≤ 0xCFFFFFFF) :
    s.physical 5 a = 0x800000000 + s.fld F.MEMC_MWIN_BASE * 0x10000000 + (a - 0xC0000000) := by
  unfold Dev.physical
  rw [if_pos ⟨rfl, h1, h2⟩]
  simp [Dev.fld, fldOf, Fld.width]

theorem Dev.physical_off_window (s : Dev) (m : Master) {a : Nat} (h : a < 0xC0000000 ∨ 0xCFFFFFFF < a) : s.physical m a = a := by
  unfold Dev.physical
  rw [if_neg (by omega)]

theorem Dev.fld_lt (s : Dev) (f : Fld) : s.fld f < 2 ^ f.width := Nat.mod_lt _ (by positivity)

theorem regionOf_dram {a : Nat} (h1 : 0x800000000 ≤ a) (h2 : a ≤ 0x9FFFFFFFF) : regionOf a = some .dram := by
  unfold regionOf
  repeat rw [if_neg (by omega)]
  rw [if_pos ⟨h1, h2⟩]

/-- DRAM is the only region above 32 bits. -/
theorem eq_dram_of_regionOf {a : Nat} {r : Region} (ha : 2 ^ 32 ≤ a) (h : regionOf a = some r) : r = .dram := by
  unfold regionOf at h
  iterate 5 rw [if_neg (by omega)] at h
  split at h <;> cases h
  rfl

theorem Dev.reach_dram (s : Dev) (m : Master) {a0 a : Nat} (w : Bool) (h : regionOf a = some .dram) :
    s.reach m a0 a w = if m = 5 ∧ a0 = a then .denied else .ok .dram := by
  unfold Dev.reach
  rw [h]
  by_cases hm : m = 5 ∧ a0 = a
  · rw [if_pos hm]; simp [hm]
  · rw [if_neg hm]; simp [hm]

theorem Dev.regionOf_of_reach {s : Dev} {m : Master} {a0 a : Nat} {w : Bool} {r : Region} (h : s.reach m a0 a w = .ok r) :
    regionOf a = some r := by
  unfold Dev.reach at h
  cases hr : regionOf a with
  | none => rw [hr] at h; cases h
  | some q =>
    rw [hr] at h
    dsimp only at h
    split_ifs at h
    exact congrArg some (Reach.ok.inj h)

/-- All 32 places of the window lie in DRAM. -/
theorem Dev.marten_reach_window (s : Dev) {a : Nat} (w : Bool) (h1 : 0xC0000000 ≤ a) (h2 : a ≤ 0xCFFFFFFF) :
    s.reach 5 a (s.physical 5 a) w = .ok .dram := by
  have hb : s.fld F.MEMC_MWIN_BASE < 32 := s.fld_lt _
  rw [s.physical_window h1 h2, Dev.reach_dram s 5 w (regionOf_dram (by omega) (by omega)), if_neg (by omega)]

/-- Marten has no access to DRAM at an address that its window did not map. -/
theorem Dev.marten_reach_unmapped_ne_dram (s : Dev) (a : Nat) (w : Bool) : s.reach 5 a a w ≠ .ok .dram := by
  intro h
  rw [Dev.reach_dram s 5 w (Dev.regionOf_of_reach h), if_pos ⟨rfl, rfl⟩] at h
  cases h

/-! ## A register write that takes its fields -/

theorem Dev.presenceRefused_of_noPresence (s : Dev) {a : Nat} {d : RegDesc} (v : Word) (hd : regDesc? a = some d)
    (hp : noPresence a = true) : s.presenceRefused a d v = false := by
  unfold noPresence at hp
  rw [hd] at hp
  simp only [List.all_eq_true, Bool.and_eq_true, bne_iff_ne] at hp
  unfold Dev.presenceRefused
  rw [List.any_eq_false]
  intro b hb
  simp [hp b hb]

/-- Without presence fields a write that the register takes from its master is the one word. -/
theorem Dev.plainWrite_eq_wr (s : Dev) {m : Master} {a : Nat} {d : RegDesc} (v : Word) (hd : regDesc? a = some d)
    (h5 : d.m5 = true → m = 5) (hp : noPresence a = true) : s.plainWrite m a v = s.wr a (s.written a d v) := by
  unfold Dev.plainWrite
  rw [hd]
  dsimp only
  rw [if_neg (fun h => h.2 (h5 h.1)), Dev.presenceRefused_of_noPresence s v hd hp]
  rfl

/-- A field of free access holds what was written into it (R7). -/
theorem Dev.fldOf_written_rw (s : Dev) {a : Nat} {d : RegDesc} (v : Word) (f : Fld) (hf : f.hi < 32)
    (hb : ⟨f.hi, f.lo, .rw⟩ ∈ d.bits) (hp : d.bits.Pairwise fun x y => x.hi < y.lo ∨ y.hi < x.lo) :
    fldOf (s.written a d v) f = fldOf v f := by
  unfold fldOf
  refine Nat.eq_of_testBit_eq fun i => ?_
  rw [Nat.testBit_mod_two_pow, Nat.testBit_mod_two_pow, Nat.testBit_div_two_pow, Nat.testBit_div_two_pow]
  by_cases hi : i < f.width
  · have hw : i + f.lo ≤ f.hi := by unfold Fld.width at hi; omega
    have hbit := (Dev.foldRuns_bit s a v (i + f.lo) (by omega) d.bits hp (s.rd a)).1 _ hb (Nat.le_add_left ..) hw
    exact congrArg (decide (i < f.width) && ·) hbit
  · simp [hi]

/-- A register write within its master's rights, at an aligned address of a block, is that write and the answer of the bus. -/
theorem registerAccess_eq (p : Dev × MemSys) (m : Master) {a : Nat} (v : Word) (hm : p.1.mayUse m a = true)
    (hr : regionOf a = some .periph) (ha : a % 4 = 0) :
    registerAccess p m a v = ((regWrite p m a v).1.answer m [], (regWrite p m a v).2) := by
  obtain ⟨hacc, hblk⟩ := Bool.and_eq_true_iff.mp hm
  have hlen : (leBytes 4 v.toNat).length = 4 := rfl
  unfold registerAccess accessWrite
  rw [hacc, hblk, hr, hlen, ofLe_leBytes4]
  simp [wordAccess, ha]

/-! ## The window register -/

/-- The register of MWIN: BASE, which only master 5 writes. -/
def mwinDesc : RegDesc := ⟨R.MEMC_MWIN, 0, 1, 0, 1, 0, true, [⟨4, 0, .rw⟩]⟩

theorem regDesc?_mwin : regDesc? R.MEMC_MWIN = some mwinDesc := by decide

theorem noPresence_mwin : noPresence R.MEMC_MWIN = true := by decide

theorem Dev.marten_mayUse_mwin (s : Dev) : s.mayUse 5 R.MEMC_MWIN = true := rfl

/-- Marten's write of MWIN changes this one word. -/
theorem regWrite_mwin (p : Dev × MemSys) (v : Word) :
    regWrite p 5 R.MEMC_MWIN v = (p.1.wr R.MEMC_MWIN (p.1.written R.MEMC_MWIN mwinDesc v), p.2) := by
  have h : regWrite p 5 R.MEMC_MWIN v = (p.1.presWrite R.MEMC_MWIN v (p.1.plainWrite 5 R.MEMC_MWIN v), p.2) := rfl
  rw [h, Dev.presWrite_id _ _ _ _ noPresence_mwin, Dev.plainWrite_eq_wr _ v regDesc?_mwin (fun _ => rfl) noPresence_mwin]

theorem Dev.fld_wr_mwin (s : Dev) (v : Word) :
    (s.wr R.MEMC_MWIN (s.written R.MEMC_MWIN mwinDesc v)).fld F.MEMC_MWIN_BASE = v.toNat % 32 := by
  unfold Dev.fld
  rw [Dev.rd_wr_self, Dev.fldOf_written_rw s v _ (by decide) (by decide) (by decide)]
  simp [fldOf, Fld.width]

theorem completes_mwin_write (s : State) (v : Word) (h : s.dev.inReset = false) :
    Completes (.registerWrite 5 R.MEMC_MWIN v) s fun d => d.fld F.MEMC_MWIN_BASE = v.toNat % 32 ∧
      d.bus[(5 : Master)] = { data := [], err := false } ∧ Dev.Frame [.bus, .regs] (fun a => a = R.MEMC_MWIN) s.dev d := by
  have hacc := registerAccess_eq (s.dev, s.mem) 5 v s.dev.marten_mayUse_mwin (by decide) (by decide)
  rw [regWrite_mwin] at hacc
  refine ⟨_, onAll_next s (fun q => registerAccess q 5 R.MEMC_MWIN v) h, ?_⟩
  rw [hacc]
  refine ⟨rfl, rfl, s.dev.fld_wr_mwin v, Vector.getElem_set_self _, ?_⟩
  exact (Dev.Frame.of_wr _ _ (by decide) (by decide)).trans (Dev.Frame.of_answer _ _ _ (by decide))

/-- Settles O42: the window's addresses map into DRAM, an unmapped address never reaches it, and MWIN holds the BASE written. -/
theorem martenWindow : Obligations.MartenWindow := by
  unfold Obligations.MartenWindow
  refine ⟨fun d a h1 h2 => ⟨d.physical_window h1 h2, fun w => d.marten_reach_window w h1 h2⟩, fun d a w h => ?_, completes_mwin_write⟩
  rw [d.physical_off_window 5 h]
  refine ⟨rfl, d.marten_reach_unmapped_ne_dram a w, fun ha r hr => ?_⟩
  have hdram : r = .dram := eq_dram_of_regionOf ha (Dev.regionOf_of_reach hr)
  exact d.marten_reach_unmapped_ne_dram a w (hdram ▸ hr)

end Sys2Proof.Machine
end

section
/-! PROOFS. The latched time of TICK (R41): what a read of a time register answers and latches, alone and as half of a 64-bit read. -/

namespace Sys2Proof.Machine

/-! ## Little-endian bytes -/

/-- The low `j` bytes stand first, the rest follows. -/
theorem leBytes_add (j k x : Nat) : leBytes (j + k) x = leBytes j x ++ leBytes k (x / 256 ^ j) := by
  induction j generalizing x with
  | zero => simp [leBytes]
  | succ j ih =>
    rw [Nat.succ_add, leBytes, ih, leBytes, List.cons_append, Nat.div_div_eq_div_mul, ← Nat.pow_succ']

/-- `n` bytes hold a number modulo `256 ^ n`. -/
theorem leBytes_mod (n x : Nat) : leBytes n (x % 256 ^ n) = leBytes n x := by
  induction n generalizing x with
  | zero => rfl
  | succ n ih =>
    have hlow : BitVec.ofNat 8 (x % 256 ^ (n + 1)) = BitVec.ofNat 8 x :=
      BitVec.eq_of_toNat_eq (Nat.mod_mod_of_dvd x (Dvd.intro_left (256 ^ n) rfl))
    have hhigh : x % 256 ^ (n + 1) / 256 = x / 256 % 256 ^ n := by
      rw [Nat.pow_succ', Nat.mod_mul_right_div_self]
    rw [leBytes, leBytes, hlow, hhigh, ih]

/-- Two 32-bit words are the eight bytes of one number. -/
theorem leBytes_words (x : Nat) : leBytes 4 (x % 2 ^ 32) ++ leBytes 4 (x / 2 ^ 32 % 2 ^ 32) = leBytes 8 (x % 2 ^ 64) :=
  calc leBytes 4 (x % 2 ^ 32) ++ leBytes 4 (x / 2 ^ 32 % 2 ^ 32)
      = leBytes 4 x ++ leBytes 4 (x / 256 ^ 4) := congrArg₂ (· ++ ·) (leBytes_mod 4 x) (leBytes_mod 4 (x / 256 ^ 4))
    _ = leBytes 8 x := (leBytes_add 4 4 x).symm
    _ = leBytes 8 (x % 2 ^ 64) := (leBytes_mod 8 x).symm

/-! ## Time and its latch -/

/-- The tick number is floor(NOW / 125,000) of the same instant (R29, R41). -/
theorem Dev.ns_div_tick (s : Dev) : s.ns / 125000 = s.tick := by
  unfold Dev.ns Dev.tick tickCyc
  omega

/-- The high word of the time and the tick number, latched for master `m` (R41). -/
def Dev.latchTime (s : Dev) (m : Master) : Dev :=
  { s with latch := s.latch.set m { nowHi := BitVec.ofNat 32 (s.ns / 2 ^ 32), num := s.ns / 125000 } }

theorem Dev.latchTime_self (s : Dev) (m : Master) :
    (s.latchTime m).latch[m] = { nowHi := BitVec.ofNat 32 (s.ns / 2 ^ 32), num := s.ns / 125000 } := Vector.getElem_set_self _

theorem Dev.latchTime_ne (s : Dev) {m m' : Master} (h : m' ≠ m) : (s.latchTime m).latch[m'] = s.latch[m'] :=
  Vector.getElem_set_ne m.isLt m'.isLt fun e => h (Fin.ext e.symm)

theorem Dev.Frame.of_latchTime {ps : List Part} {touch : Nat → Bool} (s : Dev) (m : Master) (h : .latch ∈ ps) :
    Dev.Frame ps touch s (s.latchTime m) := Dev.Frame.with_latch s _ h

theorem Dev.answer_bus_self (s : Dev) (m : Master) (l : List Byte) : (s.answer m l).bus[m] = { data := l, err := false } :=
  Vector.getElem_set_self _

theorem Dev.answer_bus_ne (s : Dev) {m m' : Master} (l : List Byte) (h : m' ≠ m) : (s.answer m l).bus[m'] = s.bus[m'] :=
  Vector.getElem_set_ne m.isLt m'.isLt fun e => h (Fin.ext e.symm)

/-! ## The time registers -/

theorem Dev.tickRead_nowLo (s : Dev) (m : Master) : s.tickRead m R.TICK_NOW_LO = (BitVec.ofNat 32 s.ns, s.latchTime m) := by
  unfold Dev.latchTime
  rw [s.ns_div_tick]
  rfl

theorem Dev.tickRead_nowHi (s : Dev) (m : Master) : s.tickRead m R.TICK_NOW_HI = ((s.latch[m]).nowHi, s) := rfl

theorem Dev.tickRead_numLo (s : Dev) (m : Master) : s.tickRead m R.TICK_NUM_LO = (BitVec.ofNat 32 (s.latch[m]).num, s) := rfl

theorem Dev.tickRead_numHi (s : Dev) (m : Master) :
    s.tickRead m R.TICK_NUM_HI = (BitVec.ofNat 32 ((s.latch[m]).num / 2 ^ 32), s) := rfl

theorem blockRead_tick (p : Dev × MemSys) (m : Master) {a : Nat} (h : blockNo a = 1) :
    blockRead p m a = ((p.1.tickRead m a).1, ((p.1.tickRead m a).2, p.2)) := by
  unfold blockRead
  rw [h]
  rfl

/-- A read of NOW_LO: time moves to its instant, whose high word and tick number are latched, and the low word is answered. -/
theorem Dev.readNowLo_eq (s : Dev) (m : Master) (off : Nat) (hm : s.mayUse m R.TICK_NOW_LO = true) :
    s.readNowLo m off = ((s.at off).latchTime m).answer m (leBytes 4 ((s.at off).ns % 2 ^ 32)) := by
  unfold Dev.readNowLo Dev.asMaster
  rw [if_pos hm]
  dsimp only
  rw [Dev.tickRead_nowLo, BitVec.toNat_ofNat]

/-! ## Reads of whole words -/

/-- A read of one aligned word of a block within its master's rights answers the word that the block reads as. -/
theorem accessRead_word (p : Dev × MemSys) {m : Master} {a : Nat} (hm : p.1.mayUse m a = true) (hr : regionOf a = some .periph)
    (ha : a % 4 = 0) :
    accessRead p m a 4 = ((blockRead p m a).2.1.answer m (leBytes 4 (blockRead p m a).1.toNat), (blockRead p m a).2.2) := by
  obtain ⟨hacc, hblk⟩ := Bool.and_eq_true_iff.mp hm
  unfold accessRead
  simp [hacc, hblk, hr, wordAccess, ha]

/-- A read of an aligned pair of words reads the low word first, then the high word on what that read leaves. -/
theorem accessRead_pair (p : Dev × MemSys) {m : Master} {a : Nat} {lo hi : Word} {q r : Dev × MemSys} (hm : p.1.mayUse m a = true)
    (hr : regionOf a = some .periph) (ha : a % 8 = 0) (hlo : blockRead p m a = (lo, q)) (hhi : blockRead q m (a + 4) = (hi, r)) :
    accessRead p m a 8 = (r.1.answer m (leBytes 4 lo.toNat ++ leBytes 4 hi.toNat), r.2) := by
  obtain ⟨hacc, hblk⟩ := Bool.and_eq_true_iff.mp hm
  unfold accessRead
  simp [hacc, hblk, hr, wordAccess, ha, hlo, hhi]

/-- The 64-bit read at NOW_LO answers both words of one instant, which it latches. -/
theorem accessRead_now (p : Dev × MemSys) (m : Master) (hm : p.1.mayUse m R.TICK_NOW_LO = true) :
    accessRead p m R.TICK_NOW_LO 8 = ((p.1.latchTime m).answer m (leBytes 8 (p.1.ns % 2 ^ 64)), p.2) := by
  have hlo : blockRead p m R.TICK_NOW_LO = (BitVec.ofNat 32 p.1.ns, (p.1.latchTime m, p.2)) := by
    rw [blockRead_tick p m rfl, Dev.tickRead_nowLo]
  have hhi : blockRead (p.1.latchTime m, p.2) m (R.TICK_NOW_LO + 4) =
      (BitVec.ofNat 32 (p.1.ns / 2 ^ 32), (p.1.latchTime m, p.2)) := by
    rw [blockRead_tick _ m rfl, Dev.tickRead_nowHi, Dev.latchTime_self]
  rw [accessRead_pair p hm rfl rfl hlo hhi, ← leBytes_words]
  rfl

/-! ## The commands -/

/-- A read that leaves memory alone completes with the module that it leaves. -/
theorem completes_memoryRead {s : State} {m : Master} {a n : Nat} {d : Dev} {P : Dev → Prop} (h : s.dev.inReset = false)
    (hd : accessRead (s.dev, s.mem) m a n = (d, s.mem)) (hp : P d) : Completes (.memoryRead m a n) s P := by
  refine ⟨_, onAll_next s (fun q => accessRead q m a n) h, ?_⟩
  rw [hd]
  exact ⟨rfl, rfl, hp⟩

theorem Dev.latchTime_answer_ne (s : Dev) {m m' : Master} (l : List Byte) (h : m' ≠ m) :
    ((s.latchTime m).answer m l).latch[m'] = s.latch[m'] ∧ ((s.latchTime m).answer m l).bus[m'] = s.bus[m'] :=
  ⟨s.latchTime_ne h, (s.latchTime m).answer_bus_ne l h⟩

theorem Dev.Frame.of_latchTime_answer {ps : List Part} {touch : Nat → Bool} (s : Dev) (m : Master) (l : List Byte) (hl : .latch ∈ ps)
    (hb : .bus ∈ ps) : Dev.Frame ps touch s ((s.latchTime m).answer m l) :=
  (Dev.Frame.of_latchTime s m hl).trans (Dev.Frame.of_answer _ m l hb)

theorem completes_readNowLo (s : State) (m : Master) (off : Nat) (h : s.dev.inReset = false)
    (hm : s.dev.mayUse m R.TICK_NOW_LO = true) :
    Completes (.readNowLo m off) s fun d =>
      d.now = max s.dev.now (s.dev.tick * 50000 + min off 49999) ∧
      d.bus[m] = { data := leBytes 4 (d.ns % 2 ^ 32), err := false } ∧
      (d.latch[m]).nowHi = BitVec.ofNat 32 (d.ns / 2 ^ 32) ∧ (d.latch[m]).num = d.ns / 125000 ∧
      (∀ m' : Master, m' ≠ m → d.latch[m'] = s.dev.latch[m'] ∧ d.bus[m'] = s.dev.bus[m']) ∧
      Dev.Frame [.now, .bus, .latch] (fun _ => false) s.dev d := by
  refine completes_onDev (fun d => d.readNowLo m off) h rfl ?_
  rw [s.dev.readNowLo_eq m off hm]
  have hlatch := (s.dev.at off).latchTime_self m
  exact ⟨rfl, Dev.answer_bus_self _ m _, congrArg NowLatch.nowHi hlatch, congrArg NowLatch.num hlatch,
    fun m' hne => (s.dev.at off).latchTime_answer_ne _ hne,
    (Dev.Frame.of_at s.dev off (by decide)).trans (Dev.Frame.of_latchTime_answer _ m _ (by decide) (by decide))⟩

theorem completes_read_now64 (s : State) (m : Master) (h : s.dev.inReset = false) (hm : s.dev.mayUse m R.TICK_NOW_LO = true) :
    Completes (.memoryRead m R.TICK_NOW_LO 8) s fun d =>
      d.bus[m] = { data := leBytes 8 (s.dev.ns % 2 ^ 64), err := false } ∧
      (d.latch[m]).nowHi = BitVec.ofNat 32 (s.dev.ns / 2 ^ 32) ∧ (d.latch[m]).num = s.dev.ns / 125000 ∧
      (∀ m' : Master, m' ≠ m → d.latch[m'] = s.dev.latch[m'] ∧ d.bus[m'] = s.dev.bus[m']) ∧
      Dev.Frame [.bus, .latch] (fun _ => false) s.dev d := by
  have hlatch := s.dev.latchTime_self m
  exact completes_memoryRead h (accessRead_now (s.dev, s.mem) m hm)
    ⟨Dev.answer_bus_self _ m _, congrArg NowLatch.nowHi hlatch, congrArg NowLatch.num hlatch,
      fun m' hne => s.dev.latchTime_answer_ne _ hne, Dev.Frame.of_latchTime_answer s.dev m _ (by decide) (by decide)⟩

/-- A word of TICK whose read changes nothing is answered, and nothing but the answer changes. -/
theorem completes_read_tick_word (s : State) (m : Master) {a x : Nat} {v : Word} (h : s.dev.inReset = false)
    (hm : s.dev.mayUse m a = true) (hr : regionOf a = some .periph) (hb : blockNo a = 1) (ha : a % 4 = 0)
    (hv : s.dev.tickRead m a = (v, s.dev)) (hx : v.toNat = x) :
    Completes (.memoryRead m a 4) s fun d =>
      d.bus[m] = { data := leBytes 4 x, err := false } ∧ Dev.Frame [.bus] (fun _ => false) s.dev d := by
  have hread : accessRead (s.dev, s.mem) m a 4 = (s.dev.answer m (leBytes 4 x), s.mem) := by
    rw [accessRead_word (s.dev, s.mem) hm hr ha, blockRead_tick (s.dev, s.mem) m hb, hv, hx]
  exact completes_memoryRead h hread ⟨Dev.answer_bus_self _ m _, Dev.Frame.of_answer s.dev m _ (by decide)⟩

/-- Settles O4: a read of NOW_LO, alone or as half of a 64-bit read, latches its instant, and the three latched words are read back. -/
theorem timeReadsLatch : Obligations.TimeReadsLatch := by
  unfold Obligations.TimeReadsLatch
  refine ⟨completes_readNowLo, completes_read_now64, fun s m k h hm => ?_⟩
  match k with
  | 0 => exact completes_read_tick_word s m h hm (by decide) (by decide) (by decide) (s.dev.tickRead_nowHi m) rfl
  | 1 => exact completes_read_tick_word s m h hm (by decide) (by decide) (by decide) (s.dev.tickRead_numLo m) (BitVec.toNat_ofNat ..)
  | 2 => exact completes_read_tick_word s m h hm (by decide) (by decide) (by decide) (s.dev.tickRead_numHi m) (BitVec.toNat_ofNat ..)

end Sys2Proof.Machine
end

section
/-! PROOFS. What a dictionary read shows (R325): it consults neither the staged writes, nor the presence log, nor ODE.STATUS, and these
are all that the acceptance of a write changes. -/

namespace Sys2Proof.Machine

/-! ## Staged writes and the presence log -/

theorem Dev.readFor_with_staged (s : Dev) (l : List Staged) (c : Client) (idx sub : Nat) :
    ({ s with ode := { s.ode with staged := l } } : Dev).readFor c idx sub = s.readFor c idx sub := rfl

theorem Dev.readFor_with_presLog (s : Dev) (l : List PresRec) (c : Client) (idx sub : Nat) :
    ({ s with nv := { s.nv with presLog := l } } : Dev).readFor c idx sub = s.readFor c idx sub := rfl

/-! ## The rows of the dictionary -/

theorem odRows_hi_le (k : Nat) : ∀ r ∈ odRows k, r.hi ≤ 255 := by
  unfold odRows
  split <;> decide

/-- An entry that has a row has a sub-index of one byte. -/
theorem sub_le_of_entryRow {idx sub : Nat} {r : OdRow} (h : entryRow idx sub = some r) : sub ≤ 255 := by
  unfold entryRow at h
  split at h
  · next hmap => omega
  · have hrow := List.find?_some h
    have hhi := odRows_hi_le _ r (List.mem_of_find?_eq_some h)
    simp only [Bool.and_eq_true, decide_eq_true_eq] at hrow
    omega

/-! ## ODE.STATUS

No entry shows this register; a sub-index of one byte keeps the indexed registers of the doors and the ring apart from it. -/

theorem Dev.rd_wr_status (s : Dev) (v : Word) {a : Nat} (h : a ≠ R.ODE_STATUS) : (s.wr R.ODE_STATUS v).rd a = s.rd a :=
  Dev.rd_wr_ne s h.symm v

theorem Dev.fld_wr_status (s : Dev) (v : Word) {f : Fld} (h : f.addr ≠ R.ODE_STATUS) : (s.wr R.ODE_STATUS v).fld f = s.fld f :=
  Dev.fld_wr_ne s v h.symm

theorem Dev.flag_wr_status (s : Dev) (v : Word) {f : Fld} (h : f.addr ≠ R.ODE_STATUS) : (s.wr R.ODE_STATUS v).flag f = s.flag f := by
  unfold Dev.flag
  rw [Dev.fld_wr_status s v h]

theorem Dev.readDoor_wr_status (s : Dev) (v : Word) (d k : Nat) {sub : Nat} (h : sub ≤ 255) :
    (s.wr R.ODE_STATUS v).readDoor d k sub = s.readDoor d k sub := by
  unfold Dev.readDoor
  split <;> simp (disch := grind) [Dev.rd_wr_status]

theorem Dev.readRing_wr_status (s : Dev) (v : Word) (idx : Nat) {sub : Nat} (h : sub ≤ 255) :
    (s.wr R.ODE_STATUS v).readRing idx sub = s.readRing idx sub := by
  unfold Dev.readRing Dev.rState Dev.eclass Dev.packed
  split <;> simp (disch := grind) [Dev.rd_wr_status, Dev.fld_wr_status]

theorem Dev.readIo_wr_status (s : Dev) (v : Word) (idx sub : Nat) :
    (s.wr R.ODE_STATUS v).readIo idx sub = s.readIo idx sub := by
  unfold Dev.readIo Dev.padFault
  split <;> simp (disch := grind) [Dev.rd_wr_status, Dev.fld_wr_status, Dev.flag_wr_status]

theorem Dev.candCrc_wr (s : Dev) (a : Nat) (v : Word) : (s.wr a v).candCrc = s.candCrc := rfl

theorem Dev.readMotion_wr_status (s : Dev) (v : Word) (idx sub : Nat) :
    (s.wr R.ODE_STATUS v).readMotion idx sub = s.readMotion idx sub := by
  unfold Dev.readMotion
  split <;> simp (disch := grind) [Dev.rd_wr_status, Dev.fld_wr_status, Dev.candCrc_wr]

theorem Dev.classicDrive_wr_status (s : Dev) (v : Word) : (s.wr R.ODE_STATUS v).classicDrive = s.classicDrive := by
  unfold Dev.classicDrive
  rw [Dev.fld_wr_status s v (by decide)]
  rfl

theorem Dev.level_wr_status (s : Dev) (v : Word) : (s.wr R.ODE_STATUS v).level = s.level := Dev.fld_wr_status s v (by decide)

/-- What is left after the registers is held outside them: CRCs, counters, slots and versions. -/
theorem Dev.readAdmin_wr_status (s : Dev) (v : Word) (idx sub : Nat) :
    (s.wr R.ODE_STATUS v).readAdmin idx sub = s.readAdmin idx sub := by
  unfold Dev.readAdmin
  split <;> simp (disch := decide) [Dev.rd_wr_status, Dev.fld_wr_status, Dev.classicDrive_wr_status, Dev.level_wr_status] <;> rfl

theorem Dev.readLift_wr_status (s : Dev) (v : Word) (idx sub : Nat) :
    (s.wr R.ODE_STATUS v).readLift idx sub = s.readLift idx sub := by
  unfold Dev.readLift
  split <;> simp (disch := grind) [Dev.rd_wr_status]

theorem Dev.errorRegister_wr_status (s : Dev) (v : Word) : (s.wr R.ODE_STATUS v).errorRegister = s.errorRegister := by
  unfold Dev.errorRegister
  simp (disch := decide) only [Dev.flag_wr_status]
  rfl

/-- Beside the error register no object of ODE itself shows a register. -/
theorem Dev.readCom_wr_status (s : Dev) (v : Word) (c : Client) (idx sub : Nat) :
    (s.wr R.ODE_STATUS v).readCom c idx sub = s.readCom c idx sub := by
  unfold Dev.readCom
  rw [Dev.errorRegister_wr_status]
  rfl

theorem Dev.liftIdx_wr (s : Dev) (a : Nat) (v : Word) (idx : Nat) : (s.wr a v).liftIdx idx = s.liftIdx idx := rfl

theorem Dev.entryValue_wr_status (s : Dev) (v : Word) (c : Client) (idx : Nat) {sub : Nat} (h : sub ≤ 255) :
    (s.wr R.ODE_STATUS v).entryValue c idx sub = s.entryValue c idx sub := by
  unfold Dev.entryValue
  simp only [Dev.liftIdx_wr, Dev.readCom_wr_status, Dev.readMotion_wr_status, Dev.readDoor_wr_status s v _ _ h,
    Dev.readRing_wr_status s v _ h, Dev.readIo_wr_status, Dev.readLift_wr_status, Dev.readAdmin_wr_status]
  rfl

theorem Dev.entryBytes_wr_status (s : Dev) (v : Word) (c : Client) (r : OdRow) (idx : Nat) {sub : Nat} (h : sub ≤ 255) :
    (s.wr R.ODE_STATUS v).entryBytes c r idx sub = s.entryBytes c r idx sub := by
  unfold Dev.entryBytes
  rw [Dev.entryValue_wr_status s v c idx h]
  rfl

theorem Dev.odRead_wr_status (s : Dev) (v : Word) (c : Client) (idx sub : Nat) :
    (s.wr R.ODE_STATUS v).odRead c idx sub = s.odRead c idx sub := by
  unfold Dev.odRead
  rw [Dev.liftIdx_wr]
  cases hrow : entryRow (s.liftIdx idx) sub with
  | none => rfl
  | some r => simp only [Dev.entryBytes_wr_status s v c r idx (sub_le_of_entryRow hrow)]

theorem Dev.readFor_wr_status (s : Dev) (v : Word) (c : Client) (idx sub : Nat) :
    (s.wr R.ODE_STATUS v).readFor c idx sub = s.readFor c idx sub := by
  unfold Dev.readFor
  rw [Dev.odRead_wr_status]
  rfl

/-! ## Acceptance -/

theorem Dev.readFor_putStaged (s : Dev) (l : List Staged) (c : Client) (idx sub : Nat) :
    (s.putStaged l).readFor c idx sub = s.readFor c idx sub :=
  calc (s.putStaged l).readFor c idx sub
      = ({ s with ode := { s.ode with staged := l } } : Dev).readFor c idx sub := Dev.readFor_wr_status _ _ c idx sub
    _ = s.readFor c idx sub := s.readFor_with_staged l c idx sub

theorem Dev.readFor_presEntry (s : Dev) (c : Client) (i j : Nat) (b : List Byte) (c2 : Client) (idx sub : Nat) :
    (s.presEntry c i j b).readFor c2 idx sub = s.readFor c2 idx sub := by
  unfold Dev.presEntry
  cases entryRow (s.liftIdx i) j with
  | none => rfl
  | some r =>
    dsimp only
    split
    · exact s.readFor_with_presLog ..
    · rfl

/-- A write that passes the checks of R324 goes into the presence log where its level asks for it, and is staged. -/
theorem Dev.acceptWrite_of_passes (s : Dev) {c : Client} {idx sub : Nat} {b : List Byte} (h : (s.writeCheck c idx sub b).1 = 0) :
    (s.acceptWrite c idx sub b).2 = (s.presEntry c idx sub b).putStaged
      (stageInto { client := c, at_ := s.now, idx := idx, sub := sub, bytes := b } (s.presEntry c idx sub b).ode.staged) := by
  unfold Dev.acceptWrite
  simp [h]

/-- An accepted write changes no read of any entry. -/
theorem Dev.readFor_acceptWrite (s : Dev) {c : Client} {i j : Nat} {b : List Byte} (h : (s.writeCheck c i j b).1 = 0) (c2 : Client)
    (idx sub : Nat) : (s.acceptWrite c i j b).2.readFor c2 idx sub = s.readFor c2 idx sub := by
  rw [Dev.acceptWrite_of_passes s h, Dev.readFor_putStaged, Dev.readFor_presEntry]

/-- Settles O38: a read consults no staged write, and the acceptance of a write changes nothing that a read shows. -/
theorem readsShowAppliedValues : Obligations.ReadsShowAppliedValues := by
  unfold Obligations.ReadsShowAppliedValues
  exact ⟨Dev.readFor_with_staged, fun s c c2 idx sub b h hpass =>
    completes_onDev (fun d => (d.acceptWrite c idx sub b).2) h rfl (s.dev.readFor_acceptWrite hpass c2 idx sub)⟩

end Sys2Proof.Machine
end
